-- ==== Sys2Proof/Word.lean ====
section
/-! DEFINITION. The byte of the three serial links (Section 12). Every figure of the PD-316 that the manual counts or
adds (money, counts, times, stock) is a `Nat`; only what travels on a wire is a bit vector. -/

namespace Sys2Proof

/-- One character's eight data bits on a terminal link or on the lane bus (R163, R177). -/
abbrev Byte := BitVec 8

end Sys2Proof
end

