-- ==== Sys2Proof/Syntax.lean ====
section
/-! DEFINITION. The commands of the PD-316: one constructor of `Instr` for each row of spec/opcode_table.json, and the
named values a command carries. A request's fields are carried as the numbers its frame carries (log entry 7), so that a
value outside its stated range can be sent and refused. -/

namespace Sys2Proof

/-- A station lane, 0 to 5 (0.7). -/
abbrev StationLane := Fin 6
/-- A pulse lane: index `i` is lane `6 + i` (0.7). -/
abbrev PulseIx := Fin 4
/-- A container class, 0 to 15 (0.7). -/
abbrev ClassId := Fin 16
/-- An account, 0 to 255; 0 is the walk-in account (0.7, R19). -/
abbrev AccountId := Fin 256

/-- The two terminal ports (R177). -/
inductive Port where
  | office
  | accounts
deriving DecidableEq, Repr

/-- The link a request frame came in on. -/
inductive Link where
  | office
  | accounts
  | laneBus
deriving DecidableEq, Repr

/-- Where a request came from, and whether the number of its field bytes matches what the named request carries (step 3
of R181, R169). A request whose bytes do not fit is answered BAD_VALUE whatever operands stand beside it. -/
structure Source where
  link : Link
  fits : Bool
deriving DecidableEq, Repr

/-- What damages a frame on a terminal port other than a gap (R179). -/
inductive PortError where
  | parity
  | framing
  | length
  | check
deriving DecidableEq, Repr

/-- What discards a frame on the lane bus other than a late character (R172). `framing` covers a marked character of
another value (R168). -/
inductive LaneError where
  | framing
  | overrun
  | length
  | check
  | wrongAddress
  | markedInFrame
deriving DecidableEq, Repr

/-- Why the part stops (R192). -/
inductive StopCause where
  | supplyFell
  | resetLow
deriving DecidableEq, Repr

/-- The CLEAR strap as sampled at a start (R193). -/
inductive Strap where
  | opened
  | grounded
deriving DecidableEq, Repr

/-- What a start finds outside the part's own record: the strap, and whether the retained content is found as the last
event left it (R192, R193; log entry 16). -/
structure StartFound where
  strap : Strap
  intact : Bool
deriving DecidableEq, Repr

/-- How far a warm start had come when a stop cut it (R193): after the event named, before the validity marker was set. -/
inductive WarmPoint where
  | afterPorts
  | afterLossMark
  | afterChanges (applied : Nat)
  | afterCloses (valued : Nat)
  | afterPaying
deriving DecidableEq, Repr

/-- The filtered levels found once the inputs have settled (R106, R161, R175): request lines low, beams blocked, the two exit
detectors and the two empty detectors asserted. -/
structure InputLevels where
  lreqLow : Vector Bool 6
  blocked : Vector Bool 4
  noteExit : Bool
  coinExit : Bool
  noteEmpty : Bool
  coinEmpty : Bool
deriving DecidableEq, Repr

/-- The filtered levels of the two empty detectors at the moment a rule reads them (R143; log entry 11). -/
structure Empties where
  note : Bool
  coin : Bool
deriving DecidableEq, Repr

/-- The commands. A request (first three groups) stands for the completion of its frame on `src` (log entry 6). A line or
timer event carries `after`, the milliseconds of the internal oscillator since the event before it, unless its timer's
end is known to the part (log entry 3). -/
inductive Instr where
  -- Requests of the office terminal
  | openTicket (src : Source) (account : AccountId) (lanes : List Nat)
  | attachLane (src : Source) (ticket lane : Nat)
  | detachLane (src : Source) (ticket lane : Nat)
  | closeTicket (src : Source) (ticket : Nat)
  | reopen (src : Source) (ticket : Nat)
  | void (src : Source) (ticket : Nat)
  | release (src : Source) (ticket : Nat) (reasons : List Nat)
  | setLimits (src : Source) (threshold closeWait : Nat)
  | readTicket (src : Source) (ticket : Nat)
  | readTicketTable (src : Source)
  | authorise (src : Source) (ticket means amount : Nat)
  | revoke (src : Source) (ticket : Nat)
  | resolveRetry (src : Source) (ticket : Nat)
  | resolveConvert (src : Source) (ticket : Nat)
  | resolveManual (src : Source) (ticket : Nat)
  | assignStrays (src : Source) (lane ticket : Nat)
  | setClass (src : Source) (cls state kind deposit foreign damage slots bottle : Nat) (label : List Byte) (effective : Option (Nat × Nat))
  | cancelChange (src : Source) (cls : Nat)
  | readClass (src : Source) (cls : Nat)
  | setLaneStation (src : Source) (lane : StationLane) (priority window : Nat)
  | setLanePulse (src : Source) (lane : PulseIx) (enabled cls edge spacing stall mode : Nat)
  | setDispenser (src : Source) (un uc vend jam pick noteLow coinLow : Nat)
  | refill (src : Source) (channel stock : Nat)
  | clearChannel (src : Source) (channel : Nat)
  | watchAdd (src : Source) (tag : Nat)
  | watchRemove (src : Source) (tag : Nat)
  | watchList (src : Source)
  | setTime (src : Source) (day second : Nat)
  | readStatus (src : Source)
  | readNotices (src : Source)
  -- Requests of the accounts gateway
  | readAccount (src : Source) (account : AccountId)
  | makeAccount (src : Source) (account : AccountId) (customer : Nat)
  | setAccountState (src : Source) (account : AccountId) (target : Nat)
  | deleteAccount (src : Source) (account : AccountId)
  | issue (src : Source) (account : AccountId) (cls quantity : Nat)
  | adjust (src : Source) (account : AccountId) (cls : Nat) (change : Int)
  | collect (src : Source) (account : AccountId) (amount : Nat)
  | readResidue (src : Source)
  | clearResidue (src : Source) (amount : Nat)
  | peekLog (src : Source)
  | takeLog (src : Source) (ticket : Nat)
  | unknownRequest (link : Link) (name : List Byte)
  -- Requests of the lane stations
  | arrive (src : Source) (cls origin condition quantity bottles : Nat) (tag : Option Nat)
  | laneDone (src : Source)
  | laneQuery (src : Source)
  -- Timebase, supply and start
  | closeWaitExpiry (ticket : Nat)
  | clockAdvance
  | crystalLoss (cycles after : Nat)
  | crystalReturn (after : Nat)
  | backupCrystalStop (cycles : Nat)
  | backupLow
  | powerStop (cause : StopCause)
  | warmStart (found : StartFound) (cut : Option (WarmPoint × StopCause))
  | coldStart (found : StartFound) (cut : Option StopCause)
  -- Terminal links
  | portLineError (port : Port) (kind : PortError) (after : Nat)
  | portGapTimeout (port : Port) (after : Nat)
  | portIdleRecover (port : Port) (after : Nat)
  | portOverrun (port : Port) (after : Nat)
  | portReplyEnd (port : Port) (after : Nat)
  -- Lane bus
  | lreqChange (lane : StationLane) (low : Bool) (after : Nat)
  | frameStart (after : Nat)
  | grantMiss
  | laneFrameError (kind : LaneError) (after : Nat)
  | laneCharTimeout (after : Nat)
  | laneReplyEnd (after : Nat)
  -- Pulse lanes
  | peyeTransition (lane : PulseIx) (blocked : Bool) (after : Nat)
  | stall (lane : PulseIx)
  -- Dispenser
  | jobTake (empties : Empties)
  | noteVendEnd (empties : Empties)
  | noteExitStart (after : Nat)
  | noteExitEnd (empties : Empties) (after : Nat)
  | noteJamTimeout
  | coinExitStart (after : Nat)
  | coinGapTimeout
  | coinEmptyAsserted (after : Nat)
  | runOnEnd
  -- Starts of reception and of the inputs
  | requestFrameStart (port : Port) (after : Nat)
  | inputsSettled (levels : InputLevels) (after : Nat)
deriving DecidableEq, Repr

end Sys2Proof
end

