-- ==== Sys2Proof/Machine/Records.lean ====
section
/-! DEFINITION. The records the blocks of the PD-316 hold (Sections 1 to 11), field by field from the tables of the
manual, as plain data. Named values stand in the order of the manual's lists, which is the order of their codes (R195). -/

namespace Sys2Proof.Machine

/-! ### Schedule unit (Section 1) -/

inductive ClassState where
  | unused | active | retired
deriving DecidableEq, Repr

inductive Kind where
  | crate | keg | plain
deriving DecidableEq, Repr

/-- A class record, Table 1-1. -/
structure ClassRecord where
  state : ClassState
  kind : Kind
  deposit : Nat
  foreign : Nat
  damage : Nat
  slots : Nat
  bottle : Nat
  label : List Byte
deriving DecidableEq, Repr

/-- An entry of the pending change list (1.5). -/
structure PendingChange where
  cls : ClassId
  record : ClassRecord
  day : Nat
  second : Nat
deriving DecidableEq, Repr

/-! ### Account table (Section 2) -/

inductive AccountState where
  | unused | active | blocked
deriving DecidableEq, Repr

/-- An account record, Table 2-1. -/
structure Account where
  state : AccountState
  customer : Nat
  outstanding : Vector Nat 16
  credit : Nat
  saturated : Bool
deriving DecidableEq, Repr

/-! ### Timestamps (R191) -/

structure Stamp where
  day : Nat
  second : Nat
  suspect : Bool
deriving DecidableEq, Repr

/-! ### Ticket table, tally lines and keg tags (Sections 3 and 4) -/

inductive TicketState where
  | free | opened | closing | valued | authorised | paying | payFault | settled
deriving DecidableEq, Repr

/-- Table 3-5. -/
inductive HoldReason where
  | watchedTag | duplicateTag | forcedClose | overLimit | accountBlocked
deriving DecidableEq, Repr

inductive Means where
  | credit | cash | split
deriving DecidableEq, Repr

inductive FaultCause where
  | noteJam | noteEmpty | coinJam | coinEmpty | restart
deriving DecidableEq, Repr

inductive TicketOutcome where
  | paid | voided
deriving DecidableEq, Repr

inductive Origin where
  | own | foreign
deriving DecidableEq, Repr

inductive Condition where
  | good | damaged
deriving DecidableEq, Repr

/-- An entry of a ticket's attachment list (R41); `lane` is 0 to 9. -/
structure Attachment where
  lane : Nat
  taken : Nat
deriving DecidableEq, Repr

/-- A tally line, Table 4-2. -/
structure Line where
  cls : ClassId
  good : Nat
  damaged : Nat
  foreignGood : Nat
  foreignDamaged : Nat
  bottles : Nat
  clamps : Nat
deriving DecidableEq, Repr

/-- The valuation figures of one line: g1, d1, og, od and L (R118). -/
structure LineFigures where
  goodIn : Nat
  damagedIn : Nat
  goodOver : Nat
  damagedOver : Nat
  value : Nat
deriving DecidableEq, Repr

/-- The valuation figures of a ticket (R118). -/
structure Figures where
  lines : List LineFigures
  total : Nat
deriving DecidableEq, Repr

/-- The authorisation of a ticket (R126). -/
structure Authorisation where
  means : Means
  credit : Nat
  cash : Nat
  notes : Nat
  coins : Nat
  residue : Nat
deriving DecidableEq, Repr

/-- The payout progress of a ticket (Table 3-1). -/
structure Progress where
  notesPaid : Nat
  coinsPaid : Nat
  retries : Nat
  fault : Option FaultCause
  converted : Nat
  manual : Nat
  overpay : Nat
deriving DecidableEq, Repr

/-- A line entry of a settled log record, Table 12-5. -/
structure LogLine where
  cls : ClassId
  goodIn : Nat
  damagedIn : Nat
  goodOver : Nat
  damagedOver : Nat
  foreignGood : Nat
  foreignDamaged : Nat
  bottles : Nat
  value : Nat
deriving DecidableEq, Repr

/-- A settled log record, Table 7-4. -/
structure LogRecord where
  number : Nat
  account : AccountId
  customer : Nat
  outcome : TicketOutcome
  suspect : Bool
  forced : Bool
  total : Nat
  credit : Nat
  converted : Nat
  residue : Nat
  cashPaid : Nat
  manual : Nat
  overpay : Nat
  opened : Stamp
  settled : Stamp
  valued : Option Stamp
  lines : List LogLine
deriving DecidableEq, Repr

/-- A ticket record, Table 3-1. `closeDeadline` is the time on the internal oscillator at which the close wait reaches 0
(log entry 21); `record` is the built log record of a ticket that waits in SETTLED (R135). -/
structure Ticket where
  number : Nat
  account : AccountId
  state : TicketState
  attachments : List Attachment
  holds : List HoldReason
  saturated : Bool
  forced : Bool
  duplicates : Nat
  untagged : Nat
  unrecorded : Nat
  watchedTag : Option Nat
  lines : List Line
  closeDeadline : Option Nat
  figures : Option Figures
  reservation : Option (List Nat)
  authorisation : Option Authorisation
  progress : Option Progress
  outcome : Option TicketOutcome
  openedAt : Stamp
  valuedAt : Option Stamp
  settledAt : Option Stamp
  record : Option LogRecord
deriving DecidableEq, Repr

/-- An entry of the keg tag list, Table 4-3. -/
structure TagEntry where
  tag : Nat
  ticket : Nat
  lane : StationLane
  stamp : Stamp
deriving DecidableEq, Repr

/-! ### Filtered inputs (R96, R143, R165) -/

/-- An input as its noise filter shows it: the filtered level, and the earliest time at which the filter can let it change
again, since the raw input must hold the other level for the whole filter time first (log entry 12). -/
structure FilteredInput where
  level : Bool
  next : Nat
deriving DecidableEq, Repr

/-- A filtered input before the inputs have settled (log entry 5). -/
def FilteredInput.clear : FilteredInput := { level := false, next := 0 }

/-! ### Pulse lane unit (Section 5) -/

inductive Edge where
  | leading | trailing
deriving DecidableEq, Repr

inductive BottleMode where
  | full | empty
deriving DecidableEq, Repr

/-- A pulse lane record, Table 5-1, and after it the three pieces of working state of 5.1. -/
structure PulseLane where
  enabled : Bool
  cls : ClassId
  edge : Edge
  spacing : Nat
  stallTime : Nat
  mode : BottleMode
  strays : Nat
  bounces : Nat
  stalled : Bool
  blocked : FilteredInput
  lastCounted : Option Nat
  blockedSince : Option Nat
deriving DecidableEq, Repr

/-! ### Payout queue (Section 7) and dispenser (Section 8) -/

/-- A payout job, Table 7-3. -/
structure PayoutJob where
  ticket : Nat
  amount : Nat
  notes : Nat
  coins : Nat
deriving DecidableEq, Repr

inductive Channel where
  | notes | coins
deriving DecidableEq, Repr

inductive ChannelState where
  | ready | running | empty | fault
deriving DecidableEq, Repr

/-- State and stock of a channel, Table 8-3; its low threshold is with the settings. -/
structure ChannelRecord where
  state : ChannelState
  stock : Nat
deriving DecidableEq, Repr

inductive JobPhase where
  | notes | coins | runOn
deriving DecidableEq, Repr

/-- The exit pulse of the vend in progress (R151): not yet started, started at a time, or ended and counted. -/
inductive VendExit where
  | awaited
  | passing (since : Nat)
  | gone
deriving DecidableEq, Repr

/-- Where the note phase stands (R151): a vend waits for NOTE_EXIT to clear, or was started. -/
inductive NoteWork where
  | waitClear (since : Nat)
  | vend (start : Nat) (exit : VendExit)
deriving DecidableEq, Repr

/-- The progress of the paying job (R150). `work` is the note phase's place in R151; `since` is the start of the gap
measured in the coin phase, or of the run-on window (R154, R156). -/
structure JobProgress where
  ticket : Nat
  amount : Nat
  plannedNotes : Nat
  plannedCoins : Nat
  phase : JobPhase
  notes : Nat
  coins : Nat
  target : Nat
  fault : Option FaultCause
  work : Option NoteWork
  since : Nat
deriving DecidableEq, Repr

/-- The dispenser controller: the settings of Table 8-2 (`denoms` is Un and Uc, absent while unset), the two channels,
the job progress, the two outputs, and the four filtered inputs (R143). `noteFound` marks a level of NOTE_EXIT found asserted by
a start, whose pulse is not counted (R161; log entry 9). -/
structure Dispenser where
  denoms : Option (Nat × Nat)
  vendPulse : Nat
  jamTime : Nat
  doublePick : Nat
  noteLow : Nat
  coinLow : Nat
  note : ChannelRecord
  coin : ChannelRecord
  job : Option JobProgress
  noteVend : Bool
  coinRun : Bool
  noteExit : FilteredInput
  noteFound : Bool
  coinExit : FilteredInput
  noteEmpty : FilteredInput
  coinEmpty : FilteredInput
deriving DecidableEq, Repr

/-! ### Yard clock (Section 11) -/

inductive ClockSource where
  | crystal | reference
deriving DecidableEq, Repr

/-- The yard clock, Table 11-1, with its sub-second count in units of `Config.secondUnits` a second. In source REFERENCE the
count is `sub` at oscillator time `anchor` and goes on with the oscillator; in source CRYSTAL it is `sub` and the crystal
cycles since it was last fixed, which the command that next reads it carries or stands for (R188; log entry 20). -/
structure YardClock where
  day : Nat
  second : Nat
  suspect : Bool
  source : ClockSource
  sub : Nat
  anchor : Nat
deriving DecidableEq, Repr

inductive Marker where
  | valid | invalid
deriving DecidableEq, Repr

/-- Whether the part runs (R192, R193): running, with the inputs settled or not (phase 5 of the start); held by NRST with
the main supply present; or on the backup supply, with the crystal running or stopped. -/
inductive Power where
  | running (settled : Bool)
  | resetHeld
  | backup (crystal : Bool)
deriving DecidableEq, Repr

/-! ### Notices (Section 10) -/

/-- Table 10-4. -/
inductive Notice where
  | hold | payFault | channelFault | stockLow | stockMismatch | dispenserStray | strays | stalled | laneSilent
  | tagListFull | changeDropped | clockSuspect | logFull | logReady | residueSaturated | warmStart | coldStart
deriving DecidableEq, Repr

inductive LaneState where
  | active | silent
deriving DecidableEq, Repr

/-- A station lane record, Table 9-2, and after it the filtered level of its request line (R165). -/
structure StationRecord where
  priority : Nat
  state : LaneState
  misses : Nat
  lineErrors : Nat
  lastGranted : Bool
  low : FilteredInput
deriving DecidableEq, Repr

inductive Receiver where
  | hunt | receiving | held | recover
deriving DecidableEq, Repr

/-- A character on the lane bus: its mark bit and its eight data bits (R163). -/
structure LaneChar where
  marked : Bool
  data : Byte
deriving DecidableEq, Repr, Inhabited

/-! ### Retained memory (Section 11) -/

/-- The content the check field is computed over: the left column of Table 11-2 but for the yard clock, the backup loss mark,
the validity marker and the check field itself (R192). A ticket stands in it without its close wait, a pulse lane without its
working state, and a station lane by its priority and its last-granted mark. -/
structure Retained where
  classes : Vector ClassRecord 16
  changes : List PendingChange
  accounts : Vector Account 256
  residue : Nat
  tickets : List Ticket
  nextNumber : Nat
  reviewThreshold : Nat
  closeWait : Nat
  closingOrder : List Nat
  tags : List TagEntry
  watch : List Nat
  pulse : Vector PulseLane 4
  stations : Vector (Nat × Bool) 6
  window : Nat
  queue : List PayoutJob
  log : List LogRecord
  waiting : List Nat
  denoms : Option (Nat × Nat)
  vendPulse : Nat
  jamTime : Nat
  doublePick : Nat
  noteLow : Nat
  coinLow : Nat
  note : ChannelRecord
  coin : ChannelRecord
deriving DecidableEq, Repr

end Sys2Proof.Machine
end

