-- ==== Sys2Proof/Config.lean ====
section
/-! DEFINITION. What is fixed for the part: the capacities and limits the manual states, and the FREE values it leaves
open. A free value is an `opaque` constant without a body, so that no proof can rest on a choice of it. -/

namespace Sys2Proof.Config

/-- Top of every 32-bit money figure (0.7, R18, R33, R114). -/
abbrev moneyMax : Nat := 4294967295
/-- Ticket slots of the ticket table (R38). -/
abbrev ticketSlots : Nat := 16
/-- Entries of the pending change list (R9). -/
abbrev changeSlots : Nat := 8
/-- Entries of a ticket's attachment list (R41). -/
abbrev attachmentSlots : Nat := 4
/-- Tally lines of one ticket (R74). -/
abbrev lineSlots : Nat := 8
/-- Top of a tally cell (R74, R76). -/
abbrev cellMax : Nat := 9999
/-- Top of a 16-bit saturating count: outstanding counts, bounces, line errors, overruns, arrivals taken
(R18, R41, R97, R172, R179, R180). -/
abbrev countMax : Nat := 65535
/-- Entries of the keg tag list (R81). -/
abbrev tagSlots : Nat := 256
/-- Entries of the watch list (R88). -/
abbrev watchSlots : Nat := 8
/-- Places of the payout queue (R128). -/
abbrev queueSlots : Nat := 8
/-- Records of the settled log (R137). -/
abbrev logSlots : Nat := 64
/-- Retries of one ticket's payout (R132). -/
abbrev retryLimit : Nat := 3
/-- Highest ticket number; the number after it is 1 (R39). -/
abbrev ticketNumberMax : Nat := 65535
/-- Numbers within which the search for a ticket number ends (R39). -/
abbrev numberSearch : Nat := 81
/-- Length of the run-on window in milliseconds (R156). -/
abbrev runOnMs : Nat := 300
/-- Hold time of the filters of NOTE_EXIT and COIN_EXIT in milliseconds (Table 8-1). -/
abbrev exitFilterMs : Nat := 2
/-- Hold time of the filters of NOTE_EMPTY and COIN_EMPTY in milliseconds (Table 8-1). -/
abbrev emptyFilterMs : Nat := 20
/-- Hold time of the filters of the photo-eyes in milliseconds (R96). -/
abbrev eyeFilterMs : Nat := 5
/-- Hold time of the filters of the request lines in milliseconds (R165). -/
abbrev lineFilterMs : Nat := 5
/-- Highest second of the day (0.7, Table 11-1). -/
abbrev secondMax : Nat := 86399
/-- Highest day (0.7, Table 11-1). -/
abbrev dayMax : Nat := 65535
/-- One second in the units of the sub-second count: a crystal cycle is 1,000 units (32,768 cycles a second) and a
millisecond of the internal oscillator is 32,768 units (R188; log entry 20). -/
abbrev secondUnits : Nat := 32768000
/-- One millisecond of the internal oscillator in the same units (R188). -/
abbrev unitsPerMs : Nat := 32768
/-- One crystal cycle in the same units (R188). -/
abbrev unitsPerCycle : Nat := 1000

/-- FREE VALUE (log entry 8): the rank by which the `draw`-th Watch reply orders a tag. R88 sends the tags "in no defined
order". -/
opaque watchRank : (draw tag : Nat) → Nat

/-- FREE VALUE (log entry 15): the width of a count for which the manual states no top (notes and coins paid of a ticket,
notes and coins counted in a job), so that R195 does not fix it beyond the 1 to 5 bytes it gives any unsigned integer. -/
opaque openCountWidth : Fin 5

/-- The bytes a reply gives such a count: 1 to 5 (R195). -/
def openCountBytes : Nat := openCountWidth.val + 1

/-- FREE VALUE (log entry 16): the arithmetic of the check field over the retained content it covers (R192). -/
opaque checkOf : Machine.Retained → Nat

/-- FREE VALUE (log entry 6): the character that an overrun on the lane bus finds in the receive buffer, of which no command
tells (R163). -/
opaque unreadChar : (draw : Nat) → Machine.LaneChar

/-- FREE VALUE (log entry 17): whether block number `block` of Table 0-1 had been cleared when a stop cut the `draw`-th
interrupted cold start (R193: "leaves the content partly cleared"). -/
opaque clearedByCut : (draw block : Nat) → Bool

end Sys2Proof.Config
end

