-- ==== Sys2Proof/Machine/Filters.lean ====
section
/-! DEFINITION. The noise filters of the inputs (R96, R143, R165): what a filter makes of its raw input, and what follows for
the filtered changes that the commands tell. -/

namespace Sys2Proof.Machine

/-! ### A filter over its raw input -/

/-- A noise filter: its filtered level, the level its raw input holds, and the time since which it holds it. -/
structure NoiseFilter where
  level : Bool
  raw : Bool
  since : Nat
deriving DecidableEq, Repr

/-- The time of the filtered change to come if the raw input stays as it is: the end of the filter time (R96, R143, R165). -/
def NoiseFilter.due (hold : Nat) (f : NoiseFilter) : Option Nat := if f.raw = f.level then none else some (f.since + hold)

/-- The raw input moves to its other level. -/
def NoiseFilter.flip (now : Nat) (f : NoiseFilter) : NoiseFilter := { f with raw := !f.raw, since := now }

/-- The filtered changes that follow when the raw input moves at these times and then stays: the raw input changes the filtered
level where it has held the new level for the whole filter time, and a shorter excursion is not seen (R96, R143, R165). -/
def NoiseFilter.changes (hold : Nat) (f : NoiseFilter) : List Nat → List (Nat × Bool)
  | [] =>
    match f.due hold with
    | some t => [(t, f.raw)]
    | none => []
  | m :: ms =>
    match f.due hold with
    | some t =>
      if t ≤ m then (t, f.raw) :: NoiseFilter.changes hold (NoiseFilter.flip m { f with level := f.raw }) ms
      else NoiseFilter.changes hold (f.flip m) ms
    | none => NoiseFilter.changes hold (f.flip m) ms

/-! ### The filtered input a command tells of -/

/-- The filter can let the level change to this one now. -/
def FilteredInput.canMove (level : Bool) (now : Nat) (f : FilteredInput) : Bool := f.level != level && decide (f.next ≤ now)

/-- The filtered level changes; the filter cannot let it change back before its whole time has passed. -/
def FilteredInput.move (hold : Nat) (level : Bool) (now : Nat) (_f : FilteredInput) : FilteredInput :=
  { level := level, next := now + hold }

/-- An input whose change to clear no command tells: it has become clear, at the earliest when the filter allowed it, before it
becomes asserted again (log entry 12). -/
def FilteredInput.cleared (hold : Nat) (f : FilteredInput) : FilteredInput :=
  if f.level then { level := false, next := f.next + hold } else f

/-- An input whose changes no command tells is read. A level that differs from the one held has changed since, at the earliest
when the filter allowed it; where the filter cannot have let it change, the level stands (R143; log entry 11). -/
def FilteredInput.read (hold : Nat) (found : Bool) (now : Nat) (f : FilteredInput) : FilteredInput :=
  if f.canMove found now then { level := found, next := max (f.next + hold) now } else { f with next := max f.next now }

/-- The level found when the inputs settle, from which on the filter can let it change (phase 5 of R193). -/
def FilteredInput.found (level : Bool) (now : Nat) : FilteredInput := { level := level, next := now }

end Sys2Proof.Machine
end

