-- ==== Sys2Proof/Machine/Reply.lean ====
section
/-! DEFINITION. What a reply carries: the result codes of Table 12-3 and, for each request, the fields its rule names.
The bytes of a reply are made from these in Machine/Wire.lean. -/

namespace Sys2Proof.Machine

/-- The results, in the order of their codes (Table 12-3); `ok` is also ACCEPTED. -/
inductive Result where
  | ok | notPermitted | badValue | unknownClass | unknownAccount | unknownTicket | wrongState | tableFull | linesFull
  | cellFull | noTicket | duplicateTag | laneBusy | held | saturated | accountFull | accountBlocked | walkIn | stockShort
  | queueFull | classInUse | classRetired | busy | retryLimit | mismatch | creditCollected | listFull | unknownRequest
deriving DecidableEq, Repr

/-- The request names of Table 10-2. -/
inductive ReqName where
  | open_ | atch | dtch | clos | ropn | void | rels | auth | rvok | rslv | asgn | scls | cchg | slan | slim | sdsp | fill
  | clrc | wtch | stim | rtkt | rcls | racc | rsta | rnot
  | macc | sacc | issu | adjt | coll | rres | cres | peek | take
  | arrv | done | qury
deriving DecidableEq, Repr

/-- The pending entry of a class as Read Class shows it: stored record, effective time and place from 1 (R14). -/
structure PendingView where
  record : ClassRecord
  day : Nat
  second : Nat
  place : Nat
deriving DecidableEq, Repr

/-- The settings of Table 8-2 as a Set Dispenser reply carries them (R144). -/
structure DispenserSettings where
  un : Nat
  uc : Nat
  vendPulse : Nat
  jamTime : Nat
  doublePick : Nat
  noteLow : Nat
  coinLow : Nat
deriving DecidableEq, Repr

/-- The paying job as Read Status shows it (R185). -/
structure JobView where
  ticket : Nat
  phase : JobPhase
  notes : Nat
  coins : Nat
deriving DecidableEq, Repr

/-- What Read Status carries (R185). -/
structure StatusView where
  stations : List StationRecord
  window : Nat
  pulse : List PulseLane
  note : ChannelRecord
  noteLow : Nat
  coin : ChannelRecord
  coinLow : Nat
  denoms : Option (Nat × Nat)
  job : Option JobView
  queue : Nat
  clock : Stamp
  source : ClockSource
  officeErrors : Nat
  officeOverruns : Nat
  accountsErrors : Nat
  accountsOverruns : Nat
deriving DecidableEq, Repr

/-- One entry of the ticket table listing (R62). -/
structure TableEntry where
  number : Nat
  account : AccountId
  state : TicketState
  holds : List HoldReason
deriving DecidableEq, Repr

/-- An attached lane as Lane Query shows it (R91): the ticket, its state, the arrivals-taken count and, for a CLOSING
ticket, the close wait remaining in whole seconds. -/
structure QueryView where
  number : Nat
  state : TicketState
  taken : Nat
  waitSeconds : Option Nat
deriving DecidableEq, Repr

/-- The fields of a reply after its result. -/
inductive Body where
  /-- The result alone. -/
  | none
  /-- A ticket request that names no further field (R40, R42, R43, R57, R58, R129). -/
  | ticketState (number : Nat) (state : TicketState)
  /-- Close Ticket (R47); the total when the ticket is VALUED. -/
  | closed (number : Nat) (state : TicketState) (total : Option Nat)
  /-- Detach Lane (R44). -/
  | detached (number : Nat) (state : TicketState) (taken : Nat)
  /-- Release (R56). -/
  | released (number : Nat) (state : TicketState) (holds : List HoldReason)
  /-- Set Limits (R60). -/
  | limits (threshold closeWait : Nat)
  /-- Read Ticket (R61), with the close wait remaining in whole seconds of a CLOSING ticket (R48). -/
  | ticket (t : Ticket) (waitSeconds : Option Nat)
  /-- Read Ticket with number 0 (R62). -/
  | table (entries : List TableEntry)
  /-- Authorise (R126); the place in the queue of an AUTHORISED ticket. -/
  | authorised (number : Nat) (state : TicketState) (credit cash notes coins residue : Nat) (place : Option Nat)
  /-- Resolve (R131): P and R, and for a retry that made a job n', k' and the place (R132). -/
  | resolved (number : Nat) (state : TicketState) (paid remainder : Nat) (plan : Option (Nat × Nat × Nat))
  /-- Assign Strays (R102): N and the line's total item count. -/
  | assigned (number : Nat) (state : TicketState) (moved total : Nat)
  /-- Read Class, Set Class and Cancel Change (R14, R15). -/
  | cls (number : Nat) (record : ClassRecord) (inUse : Bool) (change : Option PendingView)
  /-- Read Account, Make Account and Set Account State (R35). -/
  | account (number : AccountId) (record : Account) (tickets : Nat)
  /-- Issue and Adjust (R25, R27). -/
  | float (cls : Nat) (count : Nat) (saturated : Bool)
  /-- A balance or the residue counter: Collect, Read and Clear Residue, their MISMATCH included (R28, R34). -/
  | money (amount : Nat)
  /-- Peek Log (R138). -/
  | peek (record : Option LogRecord) (records waiting : Nat)
  /-- Take Log (R139). -/
  | logCount (records : Nat)
  /-- Take Log refused MISMATCH: the number of the oldest record (R139). -/
  | oldest (number : Option Nat)
  /-- Set Lane of a station lane (R173). -/
  | station (record : StationRecord) (window : Nat)
  /-- Set Lane of a pulse lane (R104). -/
  | pulse (record : PulseLane)
  /-- Set Dispenser (R144). -/
  | settings (values : DispenserSettings)
  /-- Refill and Clear Channel (R146, R147). -/
  | channel (record : ChannelRecord) (low : Nat)
  /-- Watch (R88). -/
  | watch (tags : List Nat)
  /-- Set Time (R189). -/
  | clock (now : Stamp)
  /-- Read Notices (R184). -/
  | notices (set : List Notice)
  /-- Read Status (R185). -/
  | status (view : StatusView)
  /-- Arrive ACCEPTED (R72). -/
  | accepted (number : Nat) (cls total bottles : Nat) (clamped : Bool)
  /-- Arrive refused with a ticket attached (R70). -/
  | onTicket (number : Nat)
  /-- Arrive refused DUPLICATE_TAG (R70). -/
  | duplicate (number : Nat) (entry : TagEntry)
  /-- Arrive refused CELL_FULL (R70). -/
  | cellFull (number count : Nat)
  /-- Lane Done (R45). -/
  | laneDone (number taken : Nat)
  /-- Lane Query (R91). -/
  | query (view : Option QueryView)
deriving DecidableEq, Repr

/-- A reply: the four name characters of the request it answers, the result and the fields (R194, R181). -/
structure Reply where
  name : List Byte
  result : Result
  body : Body
deriving DecidableEq, Repr

end Sys2Proof.Machine
end

