-- ==== Sys2Proof/Machine/State.lean ====
section
/-! DEFINITION. The state of the PD-316 as plain data: every record the blocks of Table 0-1 own, the pins, and the queue
of waiting commands; why a step could stop; and the state right after a cold start. -/

namespace Sys2Proof.Machine

/-- Why a command could stop the part: nothing does. The manual names no event that stops it in error; every request is
answered and every line or timer event has an effect (log entry 25). -/
inductive Fault where
deriving DecidableEq, Repr

/-- Why a command is refused by the model. -/
inductive Refusal where
  /-- The command has no meaning in this model yet. Raised by an arm of `exec` alone; safe. No arm raises it. -/
  | notModelled (mnemonic : String)
deriving DecidableEq, Repr

/-- What the grant in flight is doing (R168, R169): its window is open since a time for a length, a frame is in
reception, or the reply is being sent. -/
inductive GrantPhase where
  | window (since length : Nat)
  | reception
  | reply (r : Reply)
deriving DecidableEq, Repr

/-- The grant in flight (9.5). -/
structure Grant where
  lane : StationLane
  phase : GrantPhase
deriving DecidableEq, Repr

/-- The lane bus controller (R163, R166): records, grant window, grant in flight, the driver enable LBUS_DE, and the
one-character receive buffer, which holds the character the controller is at while a frame is in reception. -/
structure LaneBus where
  lanes : Vector StationRecord 6
  window : Nat
  grant : Option Grant
  lbusDe : Bool
  buffer : Option LaneChar
deriving DecidableEq, Repr

/-- A terminal port (10.2, 10.4): receiver, overrun mark, the request in the receive buffer and the reply being sent
while HELD, its two counts, its notice set and its attention line. -/
structure PortRecord where
  receiver : Receiver
  overrunMarked : Bool
  buffer : Option Instr
  reply : Option Reply
  lineErrors : Nat
  overruns : Nat
  notices : List Notice
  attention : Bool
deriving DecidableEq, Repr

/-- The state of the part. The tickets stand in opening order, so the list is the ticket slots that are not FREE and the
opening order in one (log entry 4). -/
structure State where
  /-- Class records 0 to 15 (R1). -/
  classes : Vector ClassRecord 16
  /-- Pending change list (R9). -/
  changes : List PendingChange
  /-- Account records 0 to 255 (R18). -/
  accounts : Vector Account 256
  /-- Yard residue counter (R33). -/
  residue : Nat
  /-- Ticket slots that are not FREE, in opening order (R38). -/
  tickets : List Ticket
  /-- Next ticket number (R38, R39). -/
  nextNumber : Nat
  /-- Review threshold (R38, R60). -/
  reviewThreshold : Nat
  /-- Close wait setting in seconds (R38, R60). -/
  closeWait : Nat
  /-- Closing order (R38). -/
  closingOrder : List Nat
  /-- Keg tag list (R81). -/
  tags : List TagEntry
  /-- Watch list (R88). -/
  watch : List Nat
  /-- Pulse lane records 6 to 9 (R95). -/
  pulse : Vector PulseLane 4
  /-- Payout queue (R128). -/
  queue : List PayoutJob
  /-- Settled log (R137). -/
  log : List LogRecord
  /-- Waiting order (R135). -/
  waiting : List Nat
  /-- Dispenser controller (R143 to R150). -/
  disp : Dispenser
  /-- Lane bus controller (R166). -/
  bus : LaneBus
  /-- Office port (R178, R182, R183). -/
  office : PortRecord
  /-- Accounts port (R178, R182, R183). -/
  acctPort : PortRecord
  /-- Yard clock (R188). -/
  clock : YardClock
  /-- Backup loss mark (R190). -/
  lossMark : Bool
  /-- Validity marker (R192). -/
  marker : Marker
  /-- Check field (R192; log entry 16). -/
  check : Nat
  /-- Whether the part runs (R192, R193). -/
  power : Power
  /-- The model's own: milliseconds of the internal oscillator (R187; log entry 3). -/
  now : Nat
  /-- The model's own: free values drawn so far (log entry 31). -/
  draws : Nat
  /-- The model's own: commands waiting, first in first out. -/
  pending : List Instr
deriving DecidableEq, Repr

/-- The zero record: the content of an UNUSED class (R1). -/
def ClassRecord.zero : ClassRecord :=
  { state := .unused, kind := .crate, deposit := 0, foreign := 0, damage := 0, slots := 0, bottle := 0
    label := List.replicate 12 0 }

/-- The empty record: the content of an UNUSED account (R18). -/
def Account.empty : Account :=
  { state := .unused, customer := 0, outstanding := Vector.replicate 16 0, credit := 0, saturated := false }

/-- The walk-in account's fixed record (R19, R37). -/
def Account.walkIn : Account :=
  { Account.empty with state := .active }

/-- A pulse lane at its cold values (Table 5-1, R107). The filtered level is found when the inputs settle; until then it
reads clear (log entry 5). -/
def PulseLane.cold : PulseLane :=
  { enabled := false, cls := 0, edge := .leading, spacing := 150, stallTime := 10, mode := .empty, strays := 0
    bounces := 0, stalled := false, blocked := .clear, lastCounted := none, blockedSince := none }

/-- A station lane at its cold values (Table 9-2, R176). The filtered level is found when the inputs settle; until then
it reads high (log entry 5). -/
def StationRecord.cold : StationRecord :=
  { priority := 0, state := .active, misses := 0, lineErrors := 0, lastGranted := false, low := .clear }

/-- The dispenser at its cold values (R162). The filtered inputs are found when the inputs settle; until then they read
clear (log entry 5). -/
def Dispenser.cold : Dispenser :=
  { denoms := none, vendPulse := 100, jamTime := 3000, doublePick := 60, noteLow := 0, coinLow := 0
    note := { state := .empty, stock := 0 }, coin := { state := .empty, stock := 0 }, job := none
    noteVend := false, coinRun := false, noteExit := .clear, noteFound := false, coinExit := .clear, noteEmpty := .clear
    coinEmpty := .clear }

/-- A port after a start of the kind its notice names (R186). -/
def PortRecord.started (start : Notice) : PortRecord :=
  { receiver := .recover, overrunMarked := false, buffer := none, reply := none, lineErrors := 0, overruns := 0
    notices := [start], attention := true }

/-- A ticket as the retained memory holds it: without the close wait remaining (Table 11-2). -/
def Ticket.retained (t : Ticket) : Ticket := { t with closeDeadline := none }

/-- A pulse lane record as the retained memory holds it: the record of Table 5-1 without the working state of 5.1 (Table 11-2).
DESIGN CHOICE (log entry 39): the stalled flag is part of the record the check field covers. -/
def PulseLane.retained (p : PulseLane) : PulseLane := { p with blocked := .clear, lastCounted := none, blockedSince := none }

/-- The retained content the check field covers (Table 11-2, R192). -/
def State.retained (s : State) : Retained :=
  { classes := s.classes
    changes := s.changes
    accounts := s.accounts
    residue := s.residue
    tickets := s.tickets.map Ticket.retained
    nextNumber := s.nextNumber
    reviewThreshold := s.reviewThreshold
    closeWait := s.closeWait
    closingOrder := s.closingOrder
    tags := s.tags
    watch := s.watch
    pulse := s.pulse.map PulseLane.retained
    stations := s.bus.lanes.map fun r => (r.priority, r.lastGranted)
    window := s.bus.window
    queue := s.queue
    log := s.log
    waiting := s.waiting
    denoms := s.disp.denoms
    vendPulse := s.disp.vendPulse
    jamTime := s.disp.jamTime
    doublePick := s.disp.doublePick
    noteLow := s.disp.noteLow
    coinLow := s.disp.coinLow
    note := s.disp.note
    coin := s.disp.coin }

/-- The check field follows the retained content: an event that makes retained changes updates it with them (R192). -/
def State.sealed (s : State) : State := { s with check := Config.checkOf s.retained }

/-- The content of every block at its cold values, before the check field is computed over it (R17, R37, R66, R94, R107,
R142, R162, R176, R186, R193). -/
def State.coldContent : State :=
  { classes := Vector.replicate 16 ClassRecord.zero
    changes := []
    accounts := (Vector.replicate 256 Account.empty).set 0 Account.walkIn
    residue := 0
    tickets := []
    nextNumber := 1
    reviewThreshold := 50000
    closeWait := 120
    closingOrder := []
    tags := []
    watch := []
    pulse := Vector.replicate 4 PulseLane.cold
    queue := []
    log := []
    waiting := []
    disp := Dispenser.cold
    bus := { lanes := Vector.replicate 6 StationRecord.cold, window := 40, grant := none, lbusDe := false, buffer := none }
    office := PortRecord.started .coldStart
    acctPort := PortRecord.started .coldStart
    clock := { day := 0, second := 0, suspect := true, source := .crystal, sub := 0, anchor := 0 }
    lossMark := false
    marker := .valid
    check := 0
    power := .running false
    now := 0
    draws := 0
    pending := [] }

/-- The state right after reset: phases 1 to 4 of a cold start are done (R193), with every block at the cold values of
its section and the check field matching them (R192), and the inputs have yet to settle. -/
def State.reset : State := State.coldContent.sealed

end Sys2Proof.Machine
end

