-- ==== Sys2Proof/Machine/Operands.lean ====
section
/-! DEFINITION. The values a frame can carry for a field: named values and their codes (R195: the code of a name is its
place in the manual's list, from 0x00), flag bytes, and the classes and lanes a number can name. -/

namespace Sys2Proof.Machine

/-- The place of a name in the list of a field's names, from 0 (R195). -/
def placeOf {α : Type} [DecidableEq α] : List α → α → Nat
  | [], _ => 0
  | y :: ys, x => if x = y then 0 else placeOf ys x + 1

/-- The names of ClassState, in code order (Table 1-1). -/
def ClassState.names : List ClassState :=
  [.unused, .active, .retired]

/-- The code of a name (R195). -/
def ClassState.code (x : ClassState) : Nat := placeOf ClassState.names x

/-- The name a code stands for, if it is in the list (R195). -/
def ClassState.ofCode (k : Nat) : Option ClassState := ClassState.names[k]?

/-- The names of Kind, in code order (Table 1-1). -/
def Kind.names : List Kind :=
  [.crate, .keg, .plain]

/-- The code of a name (R195). -/
def Kind.code (x : Kind) : Nat := placeOf Kind.names x

/-- The name a code stands for, if it is in the list (R195). -/
def Kind.ofCode (k : Nat) : Option Kind := Kind.names[k]?

/-- The names of AccountState, in code order (Table 2-1). -/
def AccountState.names : List AccountState :=
  [.unused, .active, .blocked]

/-- The code of a name (R195). -/
def AccountState.code (x : AccountState) : Nat := placeOf AccountState.names x

/-- The name a code stands for, if it is in the list (R195). -/
def AccountState.ofCode (k : Nat) : Option AccountState := AccountState.names[k]?

/-- The names of TicketState, in code order (Table 3-2). -/
def TicketState.names : List TicketState :=
  [.free, .opened, .closing, .valued, .authorised, .paying, .payFault, .settled]

/-- The code of a name (R195). -/
def TicketState.code (x : TicketState) : Nat := placeOf TicketState.names x

/-- The name a code stands for, if it is in the list (R195). -/
def TicketState.ofCode (k : Nat) : Option TicketState := TicketState.names[k]?

/-- The names of HoldReason, in code order (Table 3-5). -/
def HoldReason.names : List HoldReason :=
  [.watchedTag, .duplicateTag, .forcedClose, .overLimit, .accountBlocked]

/-- The code of a name (R195). -/
def HoldReason.code (x : HoldReason) : Nat := placeOf HoldReason.names x

/-- The name a code stands for, if it is in the list (R195). -/
def HoldReason.ofCode (k : Nat) : Option HoldReason := HoldReason.names[k]?

/-- The names of Means, in code order (Table 7-1). -/
def Means.names : List Means :=
  [.credit, .cash, .split]

/-- The code of a name (R195). -/
def Means.code (x : Means) : Nat := placeOf Means.names x

/-- The name a code stands for, if it is in the list (R195). -/
def Means.ofCode (k : Nat) : Option Means := Means.names[k]?

/-- The names of FaultCause, in code order (R195). -/
def FaultCause.names : List FaultCause :=
  [.noteJam, .noteEmpty, .coinJam, .coinEmpty, .restart]

/-- The code of a name (R195). -/
def FaultCause.code (x : FaultCause) : Nat := placeOf FaultCause.names x

/-- The name a code stands for, if it is in the list (R195). -/
def FaultCause.ofCode (k : Nat) : Option FaultCause := FaultCause.names[k]?

/-- The names of TicketOutcome, in code order (Table 12-4). -/
def TicketOutcome.names : List TicketOutcome :=
  [.paid, .voided]

/-- The code of a name (R195). -/
def TicketOutcome.code (x : TicketOutcome) : Nat := placeOf TicketOutcome.names x

/-- The name a code stands for, if it is in the list (R195). -/
def TicketOutcome.ofCode (k : Nat) : Option TicketOutcome := TicketOutcome.names[k]?

/-- The names of Origin, in code order (Table 4-1). -/
def Origin.names : List Origin :=
  [.own, .foreign]

/-- The code of a name (R195). -/
def Origin.code (x : Origin) : Nat := placeOf Origin.names x

/-- The name a code stands for, if it is in the list (R195). -/
def Origin.ofCode (k : Nat) : Option Origin := Origin.names[k]?

/-- The names of Condition, in code order (Table 4-1). -/
def Condition.names : List Condition :=
  [.good, .damaged]

/-- The code of a name (R195). -/
def Condition.code (x : Condition) : Nat := placeOf Condition.names x

/-- The name a code stands for, if it is in the list (R195). -/
def Condition.ofCode (k : Nat) : Option Condition := Condition.names[k]?

/-- The names of Edge, in code order (Table 5-1). -/
def Edge.names : List Edge :=
  [.leading, .trailing]

/-- The code of a name (R195). -/
def Edge.code (x : Edge) : Nat := placeOf Edge.names x

/-- The name a code stands for, if it is in the list (R195). -/
def Edge.ofCode (k : Nat) : Option Edge := Edge.names[k]?

/-- The names of BottleMode, in code order (Table 5-1). -/
def BottleMode.names : List BottleMode :=
  [.full, .empty]

/-- The code of a name (R195). -/
def BottleMode.code (x : BottleMode) : Nat := placeOf BottleMode.names x

/-- The name a code stands for, if it is in the list (R195). -/
def BottleMode.ofCode (k : Nat) : Option BottleMode := BottleMode.names[k]?

/-- The names of Channel, in code order (R146). -/
def Channel.names : List Channel :=
  [.notes, .coins]

/-- The code of a name (R195). -/
def Channel.code (x : Channel) : Nat := placeOf Channel.names x

/-- The name a code stands for, if it is in the list (R195). -/
def Channel.ofCode (k : Nat) : Option Channel := Channel.names[k]?

/-- The names of ChannelState, in code order (Table 8-4). -/
def ChannelState.names : List ChannelState :=
  [.ready, .running, .empty, .fault]

/-- The code of a name (R195). -/
def ChannelState.code (x : ChannelState) : Nat := placeOf ChannelState.names x

/-- The name a code stands for, if it is in the list (R195). -/
def ChannelState.ofCode (k : Nat) : Option ChannelState := ChannelState.names[k]?

/-- The names of JobPhase, in code order (R150, R195). -/
def JobPhase.names : List JobPhase :=
  [.notes, .coins, .runOn]

/-- The code of a name (R195). -/
def JobPhase.code (x : JobPhase) : Nat := placeOf JobPhase.names x

/-- The name a code stands for, if it is in the list (R195). -/
def JobPhase.ofCode (k : Nat) : Option JobPhase := JobPhase.names[k]?

/-- The names of LaneState, in code order (Table 9-2). -/
def LaneState.names : List LaneState :=
  [.active, .silent]

/-- The code of a name (R195). -/
def LaneState.code (x : LaneState) : Nat := placeOf LaneState.names x

/-- The name a code stands for, if it is in the list (R195). -/
def LaneState.ofCode (k : Nat) : Option LaneState := LaneState.names[k]?

/-- The names of ClockSource, in code order (Table 11-1). -/
def ClockSource.names : List ClockSource :=
  [.crystal, .reference]

/-- The code of a name (R195). -/
def ClockSource.code (x : ClockSource) : Nat := placeOf ClockSource.names x

/-- The name a code stands for, if it is in the list (R195). -/
def ClockSource.ofCode (k : Nat) : Option ClockSource := ClockSource.names[k]?

/-- The names of Notice, in code order (Table 10-4). -/
def Notice.names : List Notice :=
  [.hold, .payFault, .channelFault, .stockLow, .stockMismatch, .dispenserStray, .strays, .stalled, .laneSilent, .tagListFull, .changeDropped, .clockSuspect, .logFull, .logReady, .residueSaturated, .warmStart, .coldStart]

/-- The code of a name (R195). -/
def Notice.code (x : Notice) : Nat := placeOf Notice.names x

/-- The name a code stands for, if it is in the list (R195). -/
def Notice.ofCode (k : Nat) : Option Notice := Notice.names[k]?

/-- The names of Result, in code order (Table 12-3). -/
def Result.names : List Result :=
  [.ok, .notPermitted, .badValue, .unknownClass, .unknownAccount, .unknownTicket, .wrongState, .tableFull, .linesFull, .cellFull, .noTicket, .duplicateTag, .laneBusy, .held, .saturated, .accountFull, .accountBlocked, .walkIn, .stockShort, .queueFull, .classInUse, .classRetired, .busy, .retryLimit, .mismatch, .creditCollected, .listFull, .unknownRequest]

/-- The code of a name (R195). -/
def Result.code (x : Result) : Nat := placeOf Result.names x

/-- The name a code stands for, if it is in the list (R195). -/
def Result.ofCode (k : Nat) : Option Result := Result.names[k]?

/-- A flag byte: 0x00 is clear or no and 0x01 is set or yes; any other value is out of range (R195). -/
def flagOf (k : Nat) : Option Bool :=
  match k with
  | 0 => some false
  | 1 => some true
  | _ => none

/-- The byte of a flag (R195). -/
def flagCode (b : Bool) : Nat := if b then 1 else 0

/-- The class a class number names, if it lies in 0 to 15 (0.7). -/
def classOf (k : Nat) : Option ClassId := if h : k < 16 then some ⟨k, h⟩ else none

/-- The lane number of a pulse lane (0.7). -/
def pulseNumber (i : PulseIx) : Nat := i.val + 6

/-- The pulse lane a lane number names, if it lies in 6 to 9 (0.7). -/
def pulseOf (lane : Nat) : Option PulseIx := if h : lane - 6 < 4 ∧ 6 ≤ lane then some ⟨lane - 6, h.1⟩ else none

/-- Whether a lane number names a station lane (0.7). -/
def isStationLane (lane : Nat) : Bool := lane < 6

/-- Whether a number lies in a closed range. -/
def inRange (low high n : Nat) : Bool := low ≤ n && n ≤ high

/-- An addition that stops at a maximum (0.7: a count given as saturating stops at its maximum). -/
def satAdd (cap a b : Nat) : Nat := min cap (a + b)

end Sys2Proof.Machine
end

