-- ==== Sys2Proof/Machine/Flags.lean ====
section
/-! DEFINITION. The flag computations of the part: the notice set of each port with its attention line (R182, R183), and
the hold set of a ticket (R55). A set is kept as its members in code order, so that equal sets are equal lists. -/

namespace Sys2Proof.Machine

/-- A notice joins a set that does not hold it and leaves one that does unchanged (R182). -/
def addNotice (n : Notice) (set : List Notice) : List Notice :=
  Notice.names.filter fun m => m == n || set.contains m

/-- Placing a notice in a port's set drives its attention line (R182, R183). -/
def PortRecord.place (n : Notice) (p : PortRecord) : PortRecord :=
  { p with notices := addNotice n p.notices, attention := true }

/-- Read Notices empties the set and releases the attention line (R184). -/
def PortRecord.readAll (p : PortRecord) : PortRecord :=
  { p with notices := [], attention := false }

/-- Places a notice in the office notice set. -/
def State.tellOffice (n : Notice) (s : State) : State := { s with office := s.office.place n }

/-- Places a notice in the accounts notice set. -/
def State.tellAccounts (n : Notice) (s : State) : State := { s with acctPort := s.acctPort.place n }

/-- A reason joins a hold set that does not hold it and leaves one that does unchanged (R55). -/
def addHold (r : HoldReason) (set : List HoldReason) : List HoldReason :=
  HoldReason.names.filter fun q => q == r || set.contains q

/-- The reasons of a list leave a hold set; one that is not in it is passed over (R56). -/
def dropHolds (rs : List HoldReason) (set : List HoldReason) : List HoldReason :=
  set.filter fun q => !rs.contains q

end Sys2Proof.Machine
end

