-- ==== Sys2Proof/Machine/Ops.lean ====
section
/-! DEFINITION. The named operations over the part's records that several blocks share: time, timestamps, accounts, the
ticket table, the in-use test, credit, float, stock and committed units. -/

namespace Sys2Proof.Machine

/-! ### Power, time and timestamps -/

/-- The part runs: a start has been made and no stop has followed (R192, R193). -/
def State.on (s : State) : Bool :=
  match s.power with
  | .running _ => true
  | _ => false

/-- The part runs and its inputs have settled (phase 5 of R193). -/
def State.settled (s : State) : Bool :=
  match s.power with
  | .running b => b
  | _ => false

/-- The reply of the grant in flight is being sent (R169). -/
def LaneBus.replying (b : LaneBus) : Bool :=
  match b.grant with
  | some { lane := _, phase := .reply _ } => true
  | _ => false

/-- Time passes on the lane bus: a grant character takes less than a millisecond, so within it the part has released
LBUS_DE at the end of the character's stop bit, while a reply goes on (R163; log entry 22). -/
def LaneBus.pass (ms : Nat) (b : LaneBus) : LaneBus := { b with lbusDe := b.lbusDe && (ms == 0 || b.replying) }

/-- Milliseconds of the internal oscillator pass (R187). -/
def State.elapse (ms : Nat) (s : State) : State := { s with now := s.now + ms, bus := s.bus.pass ms }

/-- A timer that ends at a known time ends: at that time, or now if the time has passed (R187, log entry 3). -/
def State.reach (time : Nat) (s : State) : State := s.elapse (time - s.now)

/-- A timestamp is the yard clock with the suspect flag in force (R191). -/
def State.stamp (s : State) : Stamp :=
  { day := s.clock.day, second := s.clock.second, suspect := s.clock.suspect }

/-- Yard clock times are compared day first, then second of the day (R8). -/
def timeLe (day second day' second' : Nat) : Bool :=
  day < day' || (day == day' && second ≤ second')

/-- The yard clock has reached a time (R11). -/
def YardClock.reached (c : YardClock) (day second : Nat) : Bool := timeLe day second c.day c.second

/-- The sub-second count as far as the part's own timebase carries it: in source REFERENCE the oscillator goes on with it, and
in source CRYSTAL it stands as it was last fixed (R188; log entry 20). -/
def State.subNow (s : State) : Nat :=
  match s.clock.source with
  | .crystal => s.clock.sub
  | .reference => s.clock.sub + (s.now - s.clock.anchor) * Config.unitsPerMs

/-! ### Notices of one port -/

/-- The record of a port. -/
def State.port (p : Port) (s : State) : PortRecord :=
  match p with
  | .office => s.office
  | .accounts => s.acctPort

/-- Replaces the record of a port. -/
def State.setPort (p : Port) (r : PortRecord) (s : State) : State :=
  match p with
  | .office => { s with office := r }
  | .accounts => { s with acctPort := r }

/-! ### Accounts -/

/-- Replaces an account record. -/
def State.setAccount (a : AccountId) (r : Account) (s : State) : State :=
  { s with accounts := s.accounts.set a.val r a.isLt }

/-- Replaces a class record. -/
def State.setClassRecord (c : ClassId) (r : ClassRecord) (s : State) : State :=
  { s with classes := s.classes.set c.val r c.isLt }

/-- Replaces a pulse lane record. -/
def State.setPulse (i : PulseIx) (p : PulseLane) (s : State) : State :=
  { s with pulse := s.pulse.set i.val p i.isLt }

/-- Replaces a station lane record. -/
def State.setStation (l : StationLane) (r : StationRecord) (s : State) : State :=
  { s with bus := { s.bus with lanes := s.bus.lanes.set l.val r l.isLt } }

/-- Sets one outstanding count. -/
def Account.setCount (c : ClassId) (n : Nat) (a : Account) : Account :=
  { a with outstanding := a.outstanding.set c.val n c.isLt }

/-- An outstanding count grows by `n`, stopping at 65,535 with the saturated flag set (R25, R32). -/
def Account.grow (c : ClassId) (n : Nat) (a : Account) : Account :=
  if a.outstanding[c] + n ≤ Config.countMax then a.setCount c (a.outstanding[c] + n)
  else { a.setCount c Config.countMax with saturated := true }

/-- A reservation takes `r` out of an outstanding count (R31). -/
def Account.reserve (c : ClassId) (r : Nat) (a : Account) : Account :=
  a.setCount c (a.outstanding[c] - r)

/-- Whether a credit post of `x` fits the balance (R29). -/
def Account.fits (x : Nat) (a : Account) : Bool := a.credit + x ≤ Config.moneyMax

/-- A credit post (R29). -/
def Account.post (x : Nat) (a : Account) : Account := { a with credit := a.credit + x }

/-- A credit reversal or a collection (R28, R30). -/
def Account.debit (x : Nat) (a : Account) : Account := { a with credit := a.credit - x }

/-! ### Ticket table -/

/-- The ticket a number names (R38, R40). -/
def State.ticket? (n : Nat) (s : State) : Option Ticket := s.tickets.find? fun t => t.number == n

/-- Replaces the ticket of the same number, in its place of the opening order. -/
def State.putTicket (t : Ticket) (s : State) : State :=
  { s with tickets := s.tickets.map fun u => if u.number = t.number then t else u }

/-- The slot of a ticket becomes FREE and the ticket leaves the opening order (R38). -/
def State.dropTicket (n : Nat) (s : State) : State :=
  { s with tickets := s.tickets.filter fun t => t.number != n }

/-- Ticket slots not FREE that name an account (R24, R35). -/
def State.ticketsOf (a : AccountId) (s : State) : Nat :=
  (s.tickets.filter fun t => t.account == a).length

/-- Lanes feed a ticket only in OPEN and CLOSING (R41). -/
def Ticket.takesArrivals (t : Ticket) : Bool := t.state == .opened || t.state == .closing

/-- Whether a ticket has an attachment entry for a lane. -/
def Ticket.attached (lane : Nat) (t : Ticket) : Bool := t.attachments.any fun e => e.lane == lane

/-- The ticket a lane feeds (3.3, R41). -/
def State.feeding (lane : Nat) (s : State) : Option Ticket :=
  s.tickets.find? fun t => t.takesArrivals && t.attached lane

/-- The arrivals-taken count of a lane's entry (R92). -/
def Ticket.takenOn (lane : Nat) (t : Ticket) : Nat :=
  match t.attachments.find? fun e => e.lane == lane with
  | some e => e.taken
  | none => 0

/-- An accepted arrival adds 1 to its lane's arrivals-taken count, stopping at 65,535 (R41, R71). -/
def Ticket.countArrival (lane : Nat) (t : Ticket) : Ticket :=
  { t with attachments := t.attachments.map fun e =>
      if e.lane = lane then { e with taken := satAdd Config.countMax e.taken 1 } else e }

/-- A lane's entry leaves the attachment list and the entries behind it move up (R44). -/
def Ticket.detach (lane : Nat) (t : Ticket) : Ticket :=
  { t with attachments := t.attachments.filter fun e => e.lane != lane }

/-- Whether a station lane is attached (R47, R49). -/
def Ticket.hasStation (t : Ticket) : Bool := t.attachments.any fun e => isStationLane e.lane

/-- Milliseconds left of a CLOSING ticket's close wait (R48). -/
def State.closeWaitLeft (t : Ticket) (s : State) : Nat :=
  match t.closeDeadline with
  | some d => d - s.now
  | none => 0

/-- The close wait remaining in whole seconds, for a CLOSING ticket (R48). -/
def State.waitSeconds (t : Ticket) (s : State) : Option Nat :=
  if t.state = .closing then some (s.closeWaitLeft t / 1000) else none

/-- A number is in use while a slot of the table or a record of the settled log holds it (R39). -/
def State.numberUsed (n : Nat) (s : State) : Bool :=
  s.tickets.any (fun t => t.number == n) || s.log.any (fun r => r.number == n)

/-- The number following a ticket number (R39). -/
def nextTicketNumber (n : Nat) : Nat := if n ≥ Config.ticketNumberMax then 1 else n + 1

/-- The first number from `n` on that is not in use, within `fuel` steps (R39). -/
def State.freeNumber (s : State) : Nat → Nat → Nat
  | 0, n => n
  | fuel + 1, n => if s.numberUsed n then s.freeNumber fuel (nextTicketNumber n) else n

/-- The number an Open Ticket takes (R39). -/
def State.takenNumber (s : State) : Nat := s.freeNumber Config.numberSearch s.nextNumber

/-- A ticket leaves the closing order and its close wait is removed (R48). -/
def State.leaveClosing (n : Nat) (s : State) : State :=
  { s with closingOrder := s.closingOrder.filter (· != n) }

/-- An event that adds a hold reason adds it to the set and places HOLD (R55). -/
def Ticket.hold (r : HoldReason) (t : Ticket) : Ticket := { t with holds := addHold r t.holds }

/-- Every keg tag entry of a ticket leaves the keg tag list (R83). -/
def State.dropTags (n : Nat) (s : State) : State :=
  { s with tags := s.tags.filter fun e => e.ticket != n }

/-! ### The in-use test -/

/-- A class is in use: a ticket line, a nonzero outstanding count, or an enabled pulse lane bound to it (R5). -/
def State.classInUse (c : ClassId) (s : State) : Bool :=
  s.tickets.any (fun t => t.lines.any fun l => l.cls == c)
    || s.accounts.toList.any (fun a => a.outstanding[c] != 0)
    || s.pulse.toList.any (fun p => p.enabled && p.cls == c)

/-- A change of class `c` to `r` breaks the in-use rule (R6). -/
def State.breaksInUse (c : ClassId) (r : ClassRecord) (s : State) : Bool :=
  s.classInUse c && (r.state == .unused || (s.classes[c].state != .unused && r.kind != s.classes[c].kind))

/-! ### Stock and committed units -/

/-- Notes committed to queued jobs and to the paying job (R125). -/
def State.committedNotes (s : State) : Nat :=
  (s.queue.map (·.notes)).sum + (match s.disp.job with | some j => j.plannedNotes - j.notes | none => 0)

/-- Coins committed to queued jobs and to the paying job (R125). -/
def State.committedCoins (s : State) : Nat :=
  (s.queue.map (·.coins)).sum + (match s.disp.job with | some j => j.plannedCoins - j.coins | none => 0)

/-- Notes available (R125). -/
def State.notesAvailable (s : State) : Nat := s.disp.note.stock - s.committedNotes

/-- Coins available (R125). -/
def State.coinsAvailable (s : State) : Nat := s.disp.coin.stock - s.committedCoins

/-- The note denomination; 0 while the denominations are unset. -/
def Dispenser.un (d : Dispenser) : Nat := match d.denoms with | some x => x.1 | none => 0

/-- The coin denomination; 0 while the denominations are unset. -/
def Dispenser.uc (d : Dispenser) : Nat := match d.denoms with | some x => x.2 | none => 0

/-- The record of a channel. -/
def Dispenser.channel (c : Channel) (d : Dispenser) : ChannelRecord :=
  match c with
  | .notes => d.note
  | .coins => d.coin

/-- Replaces the record of a channel. -/
def Dispenser.setChannel (c : Channel) (r : ChannelRecord) (d : Dispenser) : Dispenser :=
  match c with
  | .notes => { d with note := r }
  | .coins => { d with coin := r }

/-- The low threshold of a channel (Table 8-2). -/
def Dispenser.low (c : Channel) (d : Dispenser) : Nat :=
  match c with
  | .notes => d.noteLow
  | .coins => d.coinLow

/-- READY when the channel holds stock and EMPTY when it holds none (R145, R147, R153, R157, R161). -/
def ChannelRecord.rest (r : ChannelRecord) : ChannelRecord :=
  { r with state := if r.stock = 0 then .empty else .ready }

/-- Replaces the dispenser record. -/
def State.setDisp (d : Dispenser) (s : State) : State := { s with disp := d }

end Sys2Proof.Machine
end

