-- ==== Sys2Proof/Machine/Ports.lean ====
section
/-! DEFINITION. The terminal ports (Section 10): taking a request that a complete frame carries and answering it, on a
terminal link or on the lane bus; and the reception events of the two ports. -/

namespace Sys2Proof.Machine

/-! ### Names and permissions -/

/-- The four ASCII characters of a request name (0.7, 12.1). -/
def ReqName.chars : ReqName → List Byte
  | .open_ => [0x4F, 0x50, 0x45, 0x4E]
  | .atch => [0x41, 0x54, 0x43, 0x48]
  | .dtch => [0x44, 0x54, 0x43, 0x48]
  | .clos => [0x43, 0x4C, 0x4F, 0x53]
  | .ropn => [0x52, 0x4F, 0x50, 0x4E]
  | .void => [0x56, 0x4F, 0x49, 0x44]
  | .rels => [0x52, 0x45, 0x4C, 0x53]
  | .auth => [0x41, 0x55, 0x54, 0x48]
  | .rvok => [0x52, 0x56, 0x4F, 0x4B]
  | .rslv => [0x52, 0x53, 0x4C, 0x56]
  | .asgn => [0x41, 0x53, 0x47, 0x4E]
  | .scls => [0x53, 0x43, 0x4C, 0x53]
  | .cchg => [0x43, 0x43, 0x48, 0x47]
  | .slan => [0x53, 0x4C, 0x41, 0x4E]
  | .slim => [0x53, 0x4C, 0x49, 0x4D]
  | .sdsp => [0x53, 0x44, 0x53, 0x50]
  | .fill => [0x46, 0x49, 0x4C, 0x4C]
  | .clrc => [0x43, 0x4C, 0x52, 0x43]
  | .wtch => [0x57, 0x54, 0x43, 0x48]
  | .stim => [0x53, 0x54, 0x49, 0x4D]
  | .rtkt => [0x52, 0x54, 0x4B, 0x54]
  | .rcls => [0x52, 0x43, 0x4C, 0x53]
  | .racc => [0x52, 0x41, 0x43, 0x43]
  | .rsta => [0x52, 0x53, 0x54, 0x41]
  | .rnot => [0x52, 0x4E, 0x4F, 0x54]
  | .macc => [0x4D, 0x41, 0x43, 0x43]
  | .sacc => [0x53, 0x41, 0x43, 0x43]
  | .issu => [0x49, 0x53, 0x53, 0x55]
  | .adjt => [0x41, 0x44, 0x4A, 0x54]
  | .coll => [0x43, 0x4F, 0x4C, 0x4C]
  | .rres => [0x52, 0x52, 0x45, 0x53]
  | .cres => [0x43, 0x52, 0x45, 0x53]
  | .peek => [0x50, 0x45, 0x45, 0x4B]
  | .take => [0x54, 0x41, 0x4B, 0x45]
  | .arrv => [0x41, 0x52, 0x52, 0x56]
  | .done => [0x44, 0x4F, 0x4E, 0x45]
  | .qury => [0x51, 0x55, 0x52, 0x59]

/-- Every request of the manual (Table 10-2). -/
def ReqName.names : List ReqName :=
  [.open_, .atch, .dtch, .clos, .ropn, .void, .rels, .auth, .rvok, .rslv, .asgn, .scls, .cchg, .slan, .slim, .sdsp,
   .fill, .clrc, .wtch, .stim, .rtkt, .rcls, .racc, .rsta, .rnot, .macc, .sacc, .issu, .adjt, .coll, .rres, .cres,
   .peek, .take, .arrv, .done, .qury]

/-- The request four characters name, if they are the name of one (R181). -/
def ReqName.ofChars (cs : List Byte) : Option ReqName := ReqName.names.find? fun n => n.chars == cs

/-- The requests a station may send (R169, Table 10-2). -/
def ReqName.ofStation : ReqName → Bool
  | .arrv | .done | .qury => true
  | _ => false

/-- The requests both terminal ports may send (Table 10-2). -/
def ReqName.ofBoth : ReqName → Bool
  | .rtkt | .rcls | .racc | .rsta | .rnot => true
  | _ => false

/-- The requests only the accounts gateway may send (Table 10-2). -/
def ReqName.ofAccounts : ReqName → Bool
  | .macc | .sacc | .issu | .adjt | .coll | .rres | .cres | .peek | .take => true
  | _ => false

/-- Table 10-2: whether a port may send a request. -/
def ReqName.permitted (p : Port) (n : ReqName) : Bool :=
  match p with
  | .office => !n.ofStation && !n.ofAccounts
  | .accounts => n.ofBoth || n.ofAccounts

/-! ### Taking a request -/

/-- What a block answers to a request it has taken: the state after it, the result and the reply's fields. -/
structure Answer where
  state : State
  result : Result
  body : Body

/-- A refusal that changes no state and carries the result alone (0.7). -/
def refuse (r : Result) (s : State) : Answer := { state := s, result := r, body := .none }

/-- A request taken with result OK. -/
def okay (b : Body) (s : State) : Answer := { state := s, result := .ok, body := b }

/-- The reply is put on its way and the port is HELD with the request in its buffer (R178, R181); the check field follows
the retained changes the request has made (R192). -/
def State.replyOn (p : Port) (i : Instr) (name : List Byte) (a : Answer) : State :=
  let q := a.state.port p
  State.sealed (a.state.setPort p
    { q with
      receiver := .held
      overrunMarked := false
      buffer := some i
      reply := some { name := name, result := a.result, body := a.body } })

/-- The reply is sent in the grant in flight, and the part drives LBUS_DE (R163, R169); the check field follows the retained
changes the request has made (R192). -/
def State.replyInGrant (lane : StationLane) (name : List Byte) (a : Answer) : State :=
  State.sealed { a.state with bus := { a.state.bus with
      grant := some { lane := lane, phase := .reply { name := name, result := a.result, body := a.body } }
      lbusDe := true
      buffer := none } }

/-- A frame whose check byte is right completes on a terminal port: it is taken if the port was RECEIVING, and refused
NOT_PERMITTED or BAD_VALUE before any block sees it (R178, R181). Elsewhere its characters are discarded (R178 to R180; log
entry 6). -/
def takeOnPort (p : Port) (fits : Bool) (i : Instr) (n : ReqName) (block : State → Answer) (s : State) : State :=
  if s.on && (s.port p).receiver == .receiving then
    State.replyOn p i n.chars
      (if !n.permitted p then refuse .notPermitted s
       else if !fits then refuse .badValue s
       else block s)
  else s

/-- A frame whose check byte is right completes in a grant whose frame is in reception: a name other than the three
station requests is answered UNKNOWN_REQUEST, and field bytes that do not match BAD_VALUE (R169). Outside a grant's
reception its characters are discarded (R164). -/
def takeInGrant (fits : Bool) (n : ReqName) (block : State → Answer) (s : State) : State :=
  match s.bus.grant with
  | some { lane := l, phase := .reception } =>
    if s.on then
      State.replyInGrant l n.chars
        (if !n.ofStation then refuse .unknownRequest s
         else if !fits then refuse .badValue s
         else block s)
    else s
  | _ => s

/-- Taking a request, on whichever link it came (R169, R181). -/
def takeRequest (src : Source) (i : Instr) (n : ReqName) (block : State → Answer) (s : State) : State :=
  match src.link with
  | .office => takeOnPort .office src.fits i n block s
  | .accounts => takeOnPort .accounts src.fits i n block s
  | .laneBus => takeInGrant src.fits n block s

/-- The outcome of a command that has an effect on the state: no command stops the part (log entry 25). -/
def done (s : State) : Host.Outcome State Fault Refusal := .next s

/-- The outcome of a request. -/
def request (src : Source) (i : Instr) (n : ReqName) (block : State → Answer) (s : State) :
    Host.Outcome State Fault Refusal :=
  done (takeRequest src i n block s)

/-- An event takes place where its condition holds, and leaves the state as it is where it does not (log entry 2). -/
def event (condition : Bool) (effect : State → State) (s : State) : Host.Outcome State Fault Refusal :=
  done (if condition then effect s else s)

/-- An event that can make retained changes: the check field is updated together with them (R192). -/
def retainedEvent (condition : Bool) (effect : State → State) (s : State) : Host.Outcome State Fault Refusal :=
  event condition (fun s => (effect s).sealed) s

/-- A frame whose name is no request of the manual, on a terminal port (R181). -/
def unknownOnPort (p : Port) (i : Instr) (name : List Byte) (s : State) : State :=
  if s.on && (s.port p).receiver == .receiving then State.replyOn p i name (refuse .unknownRequest s) else s

/-- A frame whose name is none of the three station requests, in a grant (R169). -/
def unknownInGrant (name : List Byte) (s : State) : State :=
  match s.bus.grant with
  | some { lane := l, phase := .reception } =>
    if s.on then State.replyInGrant l name (refuse .unknownRequest s) else s
  | _ => s

/-- UNKNOWN_REQUEST (R169, R181): the reply carries the four characters as received (12.1). A name that is a request of
the manual is not such a frame (log entry 2). -/
def execUnknownRequest (link : Link) (name : List Byte) (s : State) : Host.Outcome State Fault Refusal :=
  event (ReqName.ofChars name).isNone
    (fun s =>
      match link with
      | .office => unknownOnPort .office (.unknownRequest link name) name s
      | .accounts => unknownOnPort .accounts (.unknownRequest link name) name s
      | .laneBus => unknownInGrant name s) s

/-! ### Notices -/

/-- Read Notices from one port (R184). -/
def readNotices (p : Port) (s : State) : Answer :=
  okay (.notices (s.port p).notices) (s.setPort p (s.port p).readAll)

/-- READ_NOTICES (R184). -/
def execReadNotices (src : Source) (s : State) : Host.Outcome State Fault Refusal :=
  request src (.readNotices src) .rnot
    (match src.link with
     | .accounts => readNotices .accounts
     | _ => readNotices .office) s

/-! ### Read Status -/

/-- What Read Status shows (R185). -/
def State.statusView (s : State) : StatusView :=
  { stations := s.bus.lanes.toList
    window := s.bus.window
    pulse := s.pulse.toList
    note := s.disp.note
    noteLow := s.disp.noteLow
    coin := s.disp.coin
    coinLow := s.disp.coinLow
    denoms := s.disp.denoms
    job := s.disp.job.map fun j => { ticket := j.ticket, phase := j.phase, notes := j.notes, coins := j.coins }
    queue := s.queue.length
    clock := s.stamp
    source := s.clock.source
    officeErrors := s.office.lineErrors
    officeOverruns := s.office.overruns
    accountsErrors := s.acctPort.lineErrors
    accountsOverruns := s.acctPort.overruns }

/-- READ_STATUS (R185). -/
def execReadStatus (src : Source) (s : State) : Host.Outcome State Fault Refusal :=
  request src (.readStatus src) .rsta (fun s => okay (.status s.statusView) s) s

/-! ### Reception -/

/-- REQUEST_FRAME_START: in HUNT a good 0x5A starts a request frame and the port is RECEIVING (R178). -/
def execRequestFrameStart (p : Port) (after : Nat) (s : State) : Host.Outcome State Fault Refusal :=
  event (s.on && (s.port p).receiver == .hunt)
    (fun s => (s.elapse after).setPort p { s.port p with receiver := .receiving, buffer := none }) s

/-- The frame in reception is discarded: one line error, and the receiver state that follows (R179). -/
def PortRecord.discard (next : Receiver) (q : PortRecord) : PortRecord :=
  { q with receiver := next, lineErrors := satAdd Config.countMax q.lineErrors 1 }

/-- PORT_LINE_ERROR: a damaged frame in reception is discarded and the receiver enters RECOVER (R179). In every other state
the character is discarded and counts nothing (R178, R180). -/
def execPortLineError (p : Port) (_kind : PortError) (after : Nat) (s : State) : Host.Outcome State Fault Refusal :=
  event (s.on && (s.port p).receiver == .receiving)
    (fun s => (s.elapse after).setPort p ((s.port p).discard .recover)) s

/-- PORT_GAP_TIMEOUT: a gap of more than 20 ms inside a frame discards it and the receiver returns to HUNT at once
(R179). -/
def execPortGapTimeout (p : Port) (after : Nat) (s : State) : Host.Outcome State Fault Refusal :=
  event (s.on && (s.port p).receiver == .receiving)
    (fun s => (s.elapse after).setPort p ((s.port p).discard .hunt)) s

/-- PORT_IDLE_RECOVER: 20 ms of idle line in RECOVER, and the receiver returns to HUNT (R179). -/
def execPortIdleRecover (p : Port) (after : Nat) (s : State) : Host.Outcome State Fault Refusal :=
  event (s.on && (s.port p).receiver == .recover)
    (fun s => (s.elapse after).setPort p { s.port p with receiver := .hunt }) s

/-- PORT_OVERRUN: a good start byte while HELD marks an overrun and counts it; once one is marked, every further character
is discarded until the reply has ended (R180). -/
def execPortOverrun (p : Port) (after : Nat) (s : State) : Host.Outcome State Fault Refusal :=
  event (s.on && (s.port p).receiver == .held && !(s.port p).overrunMarked)
    (fun s => (s.elapse after).setPort p
      { s.port p with overrunMarked := true, overruns := satAdd Config.countMax (s.port p).overruns 1 }) s

/-- PORT_REPLY_END: the last character of the reply is sent, the frame leaves the buffer, and the receiver goes to HUNT, or
to RECOVER after a marked overrun (R180, R181). -/
def execPortReplyEnd (p : Port) (after : Nat) (s : State) : Host.Outcome State Fault Refusal :=
  event (s.on && (s.port p).receiver == .held)
    (fun s => (s.elapse after).setPort p
      { s.port p with
        receiver := if (s.port p).overrunMarked then .recover else .hunt
        overrunMarked := false
        buffer := none
        reply := none }) s

end Sys2Proof.Machine
end

