-- ==== Sys2Proof/Machine/LaneBusUnit.lean ====
section
/-! DEFINITION. The lane bus controller (Section 9): request lines, arbitration, the grant in flight, misses, reception
errors, and Set Lane for lanes 0 to 5. -/

namespace Sys2Proof.Machine

/-- A lane takes part in arbitration: it is ACTIVE and its filtered line is low (R165, R167). -/
def StationRecord.requesting (r : StationRecord) : Bool := r.state == .active && r.low.level

/-- The six lanes in number order. -/
def stationLanes : List StationLane := [0, 1, 2, 3, 4, 5]

/-- The highest priority level held by a requesting lane (step 1 of R167). -/
def LaneBus.topLevel (b : LaneBus) : Nat :=
  stationLanes.foldl (fun m l => if b.lanes[l].requesting then max m b.lanes[l].priority else m) 0

/-- The lane that carries the last-granted mark of a level, if one does. -/
def LaneBus.marked (b : LaneBus) (level : Nat) : Option StationLane :=
  stationLanes.find? fun l => b.lanes[l].priority == level && b.lanes[l].lastGranted

/-- The order in which a level's lanes are looked at: from the lane after the marked one round to it, or from lane 0
upward (step 2 of R167). -/
def laneOrder (mark : Option StationLane) : List StationLane :=
  match mark with
  | none => stationLanes
  | some m => stationLanes.map fun k => m + 1 + k

/-- The lane the arbiter chooses, if any ACTIVE lane requests (R167). -/
def LaneBus.winner (b : LaneBus) : Option StationLane :=
  (laneOrder (b.marked b.topLevel)).find? fun l => b.lanes[l].requesting && b.lanes[l].priority == b.topLevel

/-- The winner takes the mark of its level and the other lanes of that level lose it (R167). -/
def LaneBus.mark (w : StationLane) (b : LaneBus) : LaneBus :=
  let level := b.lanes[w].priority
  { b with lanes := Vector.ofFn fun l : StationLane =>
      if l = w then { b.lanes[l] with lastGranted := true }
      else if b.lanes[l].priority = level then { b.lanes[l] with lastGranted := false }
      else b.lanes[l] }

/-- Arbitration (R167): with no grant in flight and an ACTIVE lane requesting, the winner takes its mark and its grant
begins with the part sending the grant character, LBUS_DE driven, and the grant window in force (R163, R168; log
entry 22). -/
def State.arbitrate (s : State) : State :=
  match s.bus.grant, s.bus.winner with
  | none, some w =>
    { s with bus := { s.bus.mark w with
        grant := some { lane := w, phase := .window s.now s.bus.window }
        lbusDe := true } }
  | _, _ => s

/-- The grant ends, the part releases the line and takes no more characters, and the arbiter arbitrates again (R169, R170,
R172). -/
def State.endGrant (s : State) : State :=
  State.arbitrate { s with bus := { s.bus with grant := none, lbusDe := false, buffer := none } }

/-- The record of a lane at a filtered change of its request line (R165): a falling edge re-arms a SILENT lane (R171). -/
def StationRecord.lineMoved (low : Bool) (now : Nat) (r : StationRecord) : StationRecord :=
  let q := { r with low := r.low.move Config.lineFilterMs low now }
  if low ∧ r.state = .silent then { q with state := .active, misses := 0 } else q

/-- LREQ_CHANGE (R165): the filtered level of a request line changes, where the 5 ms filter can let it; a falling edge lets the
free bus be arbitrated (R167). -/
def execLreqChange (l : StationLane) (low : Bool) (after : Nat) (s : State) : Host.Outcome State Fault Refusal :=
  retainedEvent (s.settled && s.bus.lanes[l].low.canMove low (s.now + after))
    (fun s =>
      let t := (s.elapse after).setStation l (s.bus.lanes[l].lineMoved low (s.now + after))
      if low then t.arbitrate else t) s

/-- The frame start character of a lane (Table 9-1). -/
def frameStartChar (l : StationLane) : LaneChar := { marked := true, data := BitVec.ofNat 8 (0x10 + l.val) }

/-- After so many milliseconds the part drives the line no longer, and its receiver is on (R163). -/
def LaneBus.listens (after : Nat) (b : LaneBus) : Bool := !(b.pass after).lbusDe

/-- The receiver places a character in the one-character buffer at the end of its stop bit (R163). -/
def LaneBus.place (c : LaneChar) (b : LaneBus) : LaneBus := { b with buffer := some c }

/-- The controller takes the character from the buffer (R163). -/
def LaneBus.take (b : LaneBus) : LaneBus := { b with buffer := none }

/-- A character completes: it is an overrun while the buffer still holds the one before it (R163). -/
def LaneBus.receive (c : LaneChar) (b : LaneBus) : Except LaneError LaneBus :=
  match b.buffer with
  | none => .ok (b.place c)
  | some _ => .error .overrun

/-- FRAME_START (R168): the granted station's frame start comes within the window, after the part has released the line; the
receiver places it in the buffer and the controller takes it (R163; log entry 6), reception begins and the lane's misses
become 0. -/
def execFrameStart (after : Nat) (s : State) : Host.Outcome State Fault Refusal :=
  match s.bus.grant with
  | some { lane := l, phase := .window since length } =>
    event (s.on && s.bus.listens after && decide (s.now + after ≤ since + length))
      (fun s =>
        let t := (s.elapse after).setStation l { s.bus.lanes[l] with misses := 0 }
        { t with bus := { (t.bus.place (frameStartChar l)).take with grant := some { lane := l, phase := .reception } } }) s
  | _ => done s

/-- A miss of a lane: its count grows, and at 3 it becomes SILENT (R170). -/
def StationRecord.miss (r : StationRecord) : StationRecord :=
  let n := min 3 (r.misses + 1)
  if n = 3 then { r with misses := n, state := .silent } else { r with misses := n }

/-- GRANT_MISS (R170): the grant window closes with no frame start. -/
def execGrantMiss (s : State) : Host.Outcome State Fault Refusal :=
  match s.bus.grant with
  | some { lane := l, phase := .window since length } =>
    retainedEvent s.on
      (fun s =>
        let r := s.bus.lanes[l].miss
        let t := (s.reach (since + length)).setStation l r
        State.endGrant (if r.state = .silent then t.tellOffice .laneSilent else t)) s
  | _ => done s

/-- The granted lane's line errors grow by 1, stopping at 65,535 (R172). -/
def StationRecord.lineError (r : StationRecord) : StationRecord :=
  { r with lineErrors := satAdd Config.countMax r.lineErrors 1 }

/-- A frame is discarded for a reception error and the grant ends at the error (R172). -/
def State.discardFrame (l : StationLane) (s : State) : State :=
  State.endGrant (s.setStation l s.bus.lanes[l].lineError)

/-- The errors that can come before reception: those of the frame start character itself (R172). DESIGN CHOICE (log entry 40): a
data character in the open window is none of them, and leaves the window open. -/
def beforeReception : LaneError → Bool
  | .framing | .overrun | .wrongAddress => true
  | .length | .check | .markedInFrame => false

/-- The errors that can come in reception, where a frame start of another lane is a marked character (R172). -/
def inReception : LaneError → Bool
  | .wrongAddress => false
  | _ => true

/-- The receiver tells of this error. Of an overrun it does where the buffer still holds the character before, which the
controller has not taken and of which no command tells (R163; log entry 6). -/
def LaneBus.tells (kind : LaneError) (unread : LaneChar) (b : LaneBus) : Bool :=
  match kind with
  | .overrun =>
    match (b.place unread).receive unread with
    | .error e => e == kind
    | .ok _ => false
  | _ => true

/-- LANE_FRAME_ERROR (R172): a reception error during a grant, within its window or in reception. -/
def execLaneFrameError (kind : LaneError) (after : Nat) (s : State) : Host.Outcome State Fault Refusal :=
  match s.bus.grant with
  | some { lane := l, phase := .window since length } =>
    retainedEvent (s.on && beforeReception kind && s.bus.tells kind (Config.unreadChar s.draws) && s.bus.listens after
        && decide (s.now + after ≤ since + length))
      (fun s => (s.elapse after).discardFrame l) s
  | some { lane := l, phase := .reception } =>
    retainedEvent (s.on && inReception kind && s.bus.tells kind (Config.unreadChar s.draws))
      (fun s => (s.elapse after).discardFrame l) s
  | _ => done s

/-- LANE_CHAR_TIMEOUT (R172): a data character does not come within 10 ms of the one before it. -/
def execLaneCharTimeout (after : Nat) (s : State) : Host.Outcome State Fault Refusal :=
  match s.bus.grant with
  | some { lane := l, phase := .reception } => retainedEvent s.on (fun s => (s.elapse after).discardFrame l) s
  | _ => done s

/-- LANE_REPLY_END (R169): the last reply character is sent, the grant ends and the arbiter arbitrates again. -/
def execLaneReplyEnd (after : Nat) (s : State) : Host.Outcome State Fault Refusal :=
  match s.bus.grant with
  | some { lane := _, phase := .reply _ } => retainedEvent s.on (fun s => (s.elapse after).endGrant) s
  | _ => done s

/-- The grant in flight after a Set Lane: its window takes the length set while the grant character is still being sent
(R168), and keeps the length it opened with from then on (R173). -/
def LaneBus.regrant (window : Nat) (b : LaneBus) : Option Grant :=
  match b.grant with
  | some { lane := l, phase := .window since length } =>
    some { lane := l, phase := .window since (if b.lbusDe then window else length) }
  | g => g

/-- Set Lane for a station lane (R173). -/
def setLaneStation (l : StationLane) (priority window : Nat) (s : State) : Answer :=
  if inRange 0 3 priority && inRange 10 200 window then
    let r := s.bus.lanes[l]
    let r' := { r with priority := priority, lastGranted := r.lastGranted && r.priority == priority }
    let t := s.setStation l r'
    okay (.station r' window) { t with bus := { t.bus with window := window, grant := s.bus.regrant window } }
  else refuse .badValue s

/-- SET_LANE_STATION (R173). -/
def execSetLaneStation (src : Source) (l : StationLane) (priority window : Nat) (s : State) :
    Host.Outcome State Fault Refusal :=
  request src (.setLaneStation src l priority window) .slan (setLaneStation l priority window) s

end Sys2Proof.Machine
end

