-- ==== Sys2Proof/Machine/Wire.lean ====
section
/-! DEFINITION. What the part sends, byte by byte (Section 12): the field encodings of R195, the fields of every reply, the
settled log record of R196, and the envelopes and check byte of R194. -/

namespace Sys2Proof.Machine

/-! ### Field encodings (R195) -/

/-- An unsigned integer in `k` bytes, most significant byte first (R195). -/
def be : Nat → Nat → List Byte
  | 0, _ => []
  | k + 1, n => BitVec.ofNat 8 (n / 256 ^ k) :: be k n

/-- The unsigned integer some bytes carry, most significant byte first (R195). -/
def ofBE (bs : List Byte) : Nat := bs.foldl (fun n b => 256 * n + b.toNat) 0

/-- A flag or yes/no field (R195). -/
def flagByte (b : Bool) : List Byte := be 1 (flagCode b)

/-- An optional field: a presence byte, and the field when it is present (R195). -/
def optionalField {α : Type} (f : α → List Byte) : Option α → List Byte
  | none => be 1 0
  | some x => be 1 1 ++ f x

/-- A list: a 1-byte count and the entries in the list's own order (R195). -/
def counted {α : Type} (f : α → List Byte) (xs : List α) : List Byte := be 1 xs.length ++ xs.flatMap f

/-- A timestamp: day, second of the day and suspect flag, 6 bytes (R195). -/
def stampBytes (t : Stamp) : List Byte := be 2 t.day ++ be 3 t.second ++ flagByte t.suspect

/-- A signed integer in two bytes, in two's complement (R195). -/
def signedBytes (n : Int) : List Byte := be 2 (n % 65536).toNat

/-- The signed integer of a two-byte two's complement value (R195). -/
def ofSigned (n : Nat) : Int := if n < 32768 then n else (n : Int) - 65536

/-! ### Records -/

/-- A class record, in the order of Table 1-1. R195 states 3 bytes for the foreign value. DESIGN CHOICE (log entry 42): the
deposits are no money amounts of 4 bytes and take the fewest bytes of their ranges, D 3 and B 2. -/
def classBytes (r : ClassRecord) : List Byte :=
  be 1 r.state.code ++ be 1 r.kind.code ++ be 3 r.deposit ++ be 3 r.foreign ++ be 1 r.damage ++ be 1 r.slots
    ++ be 2 r.bottle ++ r.label

/-- A station lane record, in the order of Table 9-2. -/
def stationBytes (r : StationRecord) : List Byte :=
  be 1 r.priority ++ be 1 r.state.code ++ be 1 r.misses ++ be 2 r.lineErrors ++ flagByte r.lastGranted

/-- A pulse lane record, in the order of Table 5-1. -/
def pulseBytes (p : PulseLane) : List Byte :=
  flagByte p.enabled ++ be 1 p.cls.val ++ be 1 p.edge.code ++ be 2 p.spacing ++ be 1 p.stallTime ++ be 1 p.mode.code
    ++ be 2 p.strays ++ be 2 p.bounces ++ flagByte p.stalled

/-- A channel record with its low threshold, in the order of Table 8-3. -/
def channelBytes (r : ChannelRecord) (low : Nat) : List Byte := be 1 r.state.code ++ be 2 r.stock ++ be 2 low

/-- A set of hold reasons, in ascending code (R195). -/
def holdBytes (hs : List HoldReason) : List Byte := counted (fun h => be 1 h.code) hs

/-- A tally line, in the order of Table 4-2. -/
def lineBytes (l : Line) : List Byte :=
  be 1 l.cls.val ++ be 2 l.good ++ be 2 l.damaged ++ be 2 l.foreignGood ++ be 2 l.foreignDamaged ++ be 3 l.bottles
    ++ be 1 l.clamps

/-- A line's valuation figures: g1, d1, og, od, L (Table 3-1). -/
def figureBytes (f : LineFigures) : List Byte :=
  be 2 f.goodIn ++ be 2 f.damagedIn ++ be 2 f.goodOver ++ be 2 f.damagedOver ++ be 5 f.value

/-- The authorisation (Table 3-1). DESIGN CHOICE (log entry 42): its residue is a money amount and takes 4 bytes, though R124
bounds it by Uc. -/
def authBytes (a : Authorisation) : List Byte :=
  be 1 a.means.code ++ be 4 a.credit ++ be 4 a.cash ++ be 2 a.notes ++ be 2 a.coins ++ be 4 a.residue

/-- The payout progress; the fault cause is an optional field of its own (R195). The manual states no top for the counts
paid, so their width is a free value (log entry 15). -/
def progressBytes (p : Progress) : List Byte :=
  be Config.openCountBytes p.notesPaid ++ be Config.openCountBytes p.coinsPaid ++ be 1 p.retries
    ++ optionalField (fun c => be 1 c.code) p.fault ++ be 4 p.converted ++ be 4 p.manual ++ be 4 p.overpay

/-- A line entry of a log record, Table 12-5. -/
def logLineBytes (l : LogLine) : List Byte :=
  be 1 l.cls.val ++ be 2 l.goodIn ++ be 2 l.damagedIn ++ be 2 l.goodOver ++ be 2 l.damagedOver ++ be 2 l.foreignGood
    ++ be 2 l.foreignDamaged ++ be 3 l.bottles ++ be 5 l.value

/-- A settled log record, Table 12-4 (R196). -/
def recordBytes (r : LogRecord) : List Byte :=
  be 2 r.number ++ be 1 r.account.val ++ be 4 r.customer ++ be 1 r.outcome.code
    ++ be 1 ((if r.suspect then 1 else 0) + (if r.forced then 2 else 0))
    ++ be 4 r.total ++ be 4 r.credit ++ be 4 r.converted ++ be 4 r.residue ++ be 4 r.cashPaid ++ be 4 r.manual
    ++ be 4 r.overpay ++ stampBytes r.opened ++ stampBytes r.settled ++ optionalField stampBytes r.valued
    ++ counted logLineBytes r.lines

/-- The fields of a ticket as Read Ticket carries them (R61, R195). DESIGN CHOICE (log entry 37): the figures of the lines and the
reservation are lists, each with a count of its own. -/
def ticketBytes (t : Ticket) (waitSeconds : Option Nat) : List Byte :=
  be 2 t.number ++ be 1 t.account.val ++ be 1 t.state.code
    ++ counted (fun a => be 1 a.lane ++ be 2 a.taken) t.attachments
    ++ holdBytes t.holds ++ flagByte t.saturated ++ flagByte t.forced
    ++ be 1 t.duplicates ++ be 2 t.untagged ++ be 2 t.unrecorded ++ optionalField (be 4) t.watchedTag
    ++ counted lineBytes t.lines ++ optionalField (be 2) waitSeconds
    ++ optionalField (fun f : Figures => counted figureBytes f.lines ++ be 4 f.total) t.figures
    ++ optionalField (counted (be 2)) t.reservation
    ++ optionalField authBytes t.authorisation ++ optionalField progressBytes t.progress
    ++ optionalField (fun o : TicketOutcome => be 1 o.code) t.outcome
    ++ stampBytes t.openedAt ++ optionalField stampBytes t.valuedAt ++ optionalField stampBytes t.settledAt

/-- The pending entry of a class as Read Class shows it (R14). PRESUMED (log entry 14): its fields are one group, with one
presence byte before them. -/
def pendingBytes (v : PendingView) : List Byte := classBytes v.record ++ be 2 v.day ++ be 3 v.second ++ be 1 v.place

/-- An account record (R35). DESIGN CHOICE (log entry 37): the sixteen outstanding counts are a fixed group, without a count
byte. -/
def accountBytes (n : AccountId) (r : Account) (tickets : Nat) : List Byte :=
  be 1 n.val ++ be 1 r.state.code ++ be 4 r.customer ++ r.outstanding.toList.flatMap (be 2) ++ be 4 r.credit
    ++ flagByte r.saturated ++ be 1 tickets

/-- What Read Status carries (R185). DESIGN CHOICE (log entry 37): the six station records and the four pulse lane records are
fixed groups, without a count byte, the clock's source takes 1 byte, its place in Table 11-1, and the counts of the office port
stand before those of the accounts port. PRESUMED (log entry 14): the two denominations are one group under one presence byte, and
so are the fields of the paying job. DESIGN CHOICE (log entry 42): a denomination takes 3 bytes. -/
def statusBytes (v : StatusView) : List Byte :=
  v.stations.flatMap stationBytes ++ be 1 v.window ++ v.pulse.flatMap pulseBytes
    ++ channelBytes v.note v.noteLow ++ channelBytes v.coin v.coinLow
    ++ optionalField (fun d : Nat × Nat => be 3 d.1 ++ be 3 d.2) v.denoms
    ++ optionalField (fun j : JobView =>
        be 2 j.ticket ++ be 1 j.phase.code ++ be Config.openCountBytes j.notes ++ be Config.openCountBytes j.coins) v.job
    ++ be 1 v.queue ++ stampBytes v.clock ++ be 1 v.source.code
    ++ be 2 v.officeErrors ++ be 2 v.officeOverruns ++ be 2 v.accountsErrors ++ be 2 v.accountsOverruns

/-- The fields of a reply after its result, in the order in which its rule lists them (Section 12). PRESUMED (log entry 14): a
field that stands only sometimes has a presence byte, and fields that stand together share one: n', k' and the place of a Resolve
reply (R132), whose byte is 0x00 in a CONVERT, in a MANUAL and in a RETRY of R 0; the pending entry of Read Class; and the ticket
that Lane Query shows. DESIGN CHOICE (log entry 42): the denominations take 3 bytes and the residue 4. -/
def Body.bytes : Body → List Byte
  | .none => []
  | .ticketState n st => be 2 n ++ be 1 st.code
  | .closed n st total => be 2 n ++ be 1 st.code ++ optionalField (be 4) total
  | .detached n st taken => be 2 n ++ be 1 st.code ++ be 2 taken
  | .released n st holds => be 2 n ++ be 1 st.code ++ holdBytes holds
  | .limits threshold closeWait => be 4 threshold ++ be 2 closeWait
  | .ticket t wait => ticketBytes t wait
  | .table es => counted (fun e : TableEntry => be 2 e.number ++ be 1 e.account.val ++ be 1 e.state.code ++ holdBytes e.holds) es
  | .authorised n st credit cash notes coins residue place =>
    be 2 n ++ be 1 st.code ++ be 4 credit ++ be 4 cash ++ be 2 notes ++ be 2 coins ++ be 4 residue ++ optionalField (be 1) place
  | .resolved n st paid remainder plan =>
    be 2 n ++ be 1 st.code ++ be 4 paid ++ be 4 remainder
      ++ optionalField (fun p : Nat × Nat × Nat => be 2 p.1 ++ be 2 p.2.1 ++ be 1 p.2.2) plan
  | .assigned n st moved total => be 2 n ++ be 1 st.code ++ be 2 moved ++ be 2 total
  | .cls n record inUse change => be 1 n ++ classBytes record ++ flagByte inUse ++ optionalField pendingBytes change
  | .account n record tickets => accountBytes n record tickets
  | .float c count saturated => be 1 c ++ be 2 count ++ flagByte saturated
  | .money amount => be 4 amount
  | .peek record records waiting => optionalField recordBytes record ++ be 1 records ++ be 1 waiting
  | .logCount records => be 1 records
  | .oldest n => optionalField (be 2) n
  | .station record window => stationBytes record ++ be 1 window
  | .pulse record => pulseBytes record
  | .settings v =>
    be 3 v.un ++ be 3 v.uc ++ be 2 v.vendPulse ++ be 2 v.jamTime ++ be 2 v.doublePick ++ be 2 v.noteLow ++ be 2 v.coinLow
  | .channel record low => channelBytes record low
  | .watch tags => counted (be 4) tags
  | .clock t => stampBytes t
  | .notices set => counted (fun n => be 1 n.code) set
  | .status v => statusBytes v
  | .accepted n c total bottles clamped => be 2 n ++ be 1 c ++ be 2 total ++ be 2 bottles ++ flagByte clamped
  | .onTicket n => be 2 n
  | .duplicate n e => be 2 n ++ be 2 e.ticket ++ be 1 e.lane.val ++ stampBytes e.stamp
  | .cellFull n count => be 2 n ++ be 2 count
  | .laneDone n taken => be 2 n ++ be 2 taken
  | .query v =>
    optionalField (fun q : QueryView => be 2 q.number ++ be 1 q.state.code ++ be 2 q.taken ++ optionalField (be 2) q.waitSeconds) v

/-! ### Envelopes (R194) -/

/-- The sum of some bytes modulo 256. -/
def sumBytes (bs : List Byte) : Byte := bs.foldr (· + ·) 0

/-- The check byte: the value that makes the sum of every byte of the frame zero modulo 256 (R194). -/
def checkByte (bs : List Byte) : Byte := -sumBytes bs

/-- A frame: start byte, length bytes, payload and check byte (Table 12-1). -/
def frame (start : Byte) (length payload : List Byte) : List Byte :=
  let bs := start :: (length ++ payload)
  bs ++ [checkByte bs]

/-- The name, result and fields of a reply (12.1). -/
def Reply.payload (r : Reply) : List Byte := r.name ++ be 1 r.result.code ++ r.body.bytes

/-- A reply on a terminal port (Table 12-1). -/
def Reply.terminalFrame (r : Reply) : List Byte := frame 0xA5 (be 2 r.payload.length) r.payload

/-- A frame on the lane bus: its start is one marked character and all others are data characters (R163, R164, R194). -/
def laneChars : List Byte → List LaneChar
  | [] => []
  | b :: bs => { marked := true, data := b } :: bs.map fun d => { marked := false, data := d }

/-! ### Characters on the links (R163, R177) -/

/-- The parity bit that makes the count of ones in the data and parity bits even (R177). -/
def parityBit (d : Byte) : Bool := (List.range 8).foldl (fun p k => p ^^ d.getLsbD k) false

/-- The 11 bits of a character on a terminal link, bit 0 sent first: a start bit, 8 data bits least significant first, an even
parity bit and a stop bit at the idle level (R177). -/
def portChar (d : Byte) : BitVec 11 := 1#1 ++ (BitVec.ofBool (parityBit d) ++ (d ++ 0#1))

/-- The data of a character on a terminal link: a stop bit not at the idle level is a framing error, and a count of ones that is
not even a parity error (R177). R179 and R178 treat the two alike, so a character with both is told as the first. -/
def readPortChar (w : BitVec 11) : Except PortError Byte :=
  let d := w.extractLsb' 1 8
  if !w.getLsbD 10 then .error .framing
  else if w.getLsbD 9 != parityBit d then .error .parity
  else .ok d

/-- The 11 bits of a character on the lane bus, bit 0 sent first: a start bit, 8 data bits least significant first, the mark bit
and a stop bit at the mark level (R163). -/
def LaneChar.bits (c : LaneChar) : BitVec 11 := 1#1 ++ (BitVec.ofBool c.marked ++ (c.data ++ 0#1))

/-- A character of the lane bus as the receiver takes it; a stop bit not at the mark level is a framing error (R163). -/
def readLaneChar (w : BitVec 11) : Except LaneError LaneChar :=
  if !w.getLsbD 10 then .error .framing else .ok { marked := w.getLsbD 9, data := w.extractLsb' 1 8 }

/-! ### Lane frames -/

/-- The start of a station frame from a lane (Table 9-1). -/
def stationStart (l : StationLane) : Byte := (frameStartChar l).data

/-- The grant character to a lane: one marked character, with no length or check byte (Table 9-1, R168, R194). -/
def grantChar (l : StationLane) : LaneChar := { marked := true, data := BitVec.ofNat 8 (0x20 + l.val) }

/-- A reply to a lane (Table 9-1, Table 12-1). -/
def Reply.laneFrame (l : StationLane) (r : Reply) : List LaneChar :=
  laneChars (frame (BitVec.ofNat 8 (0x30 + l.val)) (be 2 r.payload.length) r.payload)

end Sys2Proof.Machine
end

