-- ==== Sys2Proof/WellFormed.lean ====
section
/-! DEFINITION. Which commands can be sent: every field of a request fits the bytes its frame gives it (R195), and every
number a line event carries is one the part can meet. A command that is not well formed still has a meaning; no frame and no
line carries it. -/

namespace Sys2Proof

/-- A number fits `k` bytes (R195). -/
def fitsBytes (k n : Nat) : Bool := n < 256 ^ k

/-- A request that no station may send came on a terminal port, or a frame whose field bytes fit (R169, R181). A lane frame
holds at most 24 bytes of name and fields and a terminal frame at most 64 (Table 12-1). -/
def lengthFits (src : Source) (n : Nat) : Bool :=
  match src.link with
  | .laneBus => 4 + n ≤ 24
  | _ => 4 + n ≤ 64

/-- Each byte of a list of codes (R195). -/
def codesFit (ks : List Nat) : Bool := ks.all (fitsBytes 1)

/-- An effective time: the day in 2 bytes and the second in 3 (R195). -/
def timeFits (e : Option (Nat × Nat)) : Bool :=
  match e with
  | none => true
  | some (day, second) => fitsBytes 2 day && fitsBytes 3 second

/-- Whether four characters are one of the 37 request names (Table 10-2). -/
def knownName (cs : List Byte) : Bool :=
  [[0x4F, 0x50, 0x45, 0x4E], [0x41, 0x54, 0x43, 0x48], [0x44, 0x54, 0x43, 0x48], [0x43, 0x4C, 0x4F, 0x53],
   [0x52, 0x4F, 0x50, 0x4E], [0x56, 0x4F, 0x49, 0x44], [0x52, 0x45, 0x4C, 0x53], [0x41, 0x55, 0x54, 0x48],
   [0x52, 0x56, 0x4F, 0x4B], [0x52, 0x53, 0x4C, 0x56], [0x41, 0x53, 0x47, 0x4E], [0x53, 0x43, 0x4C, 0x53],
   [0x43, 0x43, 0x48, 0x47], [0x53, 0x4C, 0x41, 0x4E], [0x53, 0x4C, 0x49, 0x4D], [0x53, 0x44, 0x53, 0x50],
   [0x46, 0x49, 0x4C, 0x4C], [0x43, 0x4C, 0x52, 0x43], [0x57, 0x54, 0x43, 0x48], [0x53, 0x54, 0x49, 0x4D],
   [0x52, 0x54, 0x4B, 0x54], [0x52, 0x43, 0x4C, 0x53], [0x52, 0x41, 0x43, 0x43], [0x52, 0x53, 0x54, 0x41],
   [0x52, 0x4E, 0x4F, 0x54], [0x4D, 0x41, 0x43, 0x43], [0x53, 0x41, 0x43, 0x43], [0x49, 0x53, 0x53, 0x55],
   [0x41, 0x44, 0x4A, 0x54], [0x43, 0x4F, 0x4C, 0x4C], [0x52, 0x52, 0x45, 0x53], [0x43, 0x52, 0x45, 0x53],
   [0x50, 0x45, 0x45, 0x4B], [0x54, 0x41, 0x4B, 0x45], [0x41, 0x52, 0x52, 0x56], [0x44, 0x4F, 0x4E, 0x45],
   [0x51, 0x55, 0x52, 0x59]].contains cs

/-- Crystal cycles counted in the second in progress (R188). -/
def cyclesFit (n : Nat) : Bool := n < 32768

/-- A well-formed command. -/
def Instr.wf : Instr → Bool
  | .openTicket src _ lanes => codesFit lanes && lengthFits src (2 + lanes.length)
  | .attachLane _ n lane => fitsBytes 2 n && fitsBytes 1 lane
  | .detachLane _ n lane => fitsBytes 2 n && fitsBytes 1 lane
  | .closeTicket _ n => fitsBytes 2 n
  | .reopen _ n => fitsBytes 2 n
  | .void _ n => fitsBytes 2 n
  | .release src n rs => fitsBytes 2 n && codesFit rs && lengthFits src (3 + rs.length)
  | .setLimits _ threshold wait => fitsBytes 4 threshold && fitsBytes 2 wait
  | .readTicket _ n => fitsBytes 2 n && n != 0
  | .readTicketTable _ => true
  | .authorise _ n means amount => fitsBytes 2 n && fitsBytes 1 means && fitsBytes 4 amount
  | .revoke _ n => fitsBytes 2 n
  | .resolveRetry _ n => fitsBytes 2 n
  | .resolveConvert _ n => fitsBytes 2 n
  | .resolveManual _ n => fitsBytes 2 n
  | .assignStrays _ lane n => fitsBytes 1 lane && fitsBytes 2 n
  | .setClass src c st k d f g sl b label e =>
    fitsBytes 1 c && fitsBytes 1 st && fitsBytes 1 k && fitsBytes 3 d && fitsBytes 3 f && fitsBytes 1 g
      && fitsBytes 1 sl && fitsBytes 2 b && label.length == 12 && timeFits e && src.link != .laneBus
  | .cancelChange _ c => fitsBytes 1 c
  | .readClass _ c => fitsBytes 1 c
  | .setLaneStation _ _ p w => fitsBytes 1 p && fitsBytes 1 w
  | .setLanePulse _ _ en c e sp st m =>
    fitsBytes 1 en && fitsBytes 1 c && fitsBytes 1 e && fitsBytes 2 sp && fitsBytes 1 st && fitsBytes 1 m
  | .setDispenser _ un uc w j p nl cl =>
    fitsBytes 3 un && fitsBytes 3 uc && fitsBytes 2 w && fitsBytes 2 j && fitsBytes 2 p && fitsBytes 2 nl && fitsBytes 2 cl
  | .refill _ c n => fitsBytes 1 c && fitsBytes 2 n
  | .clearChannel _ c => fitsBytes 1 c
  | .watchAdd _ tag => fitsBytes 4 tag
  | .watchRemove _ tag => fitsBytes 4 tag
  | .watchList _ => true
  | .setTime _ d n => fitsBytes 2 d && fitsBytes 3 n
  | .readStatus _ => true
  | .readNotices _ => true
  | .readAccount _ _ => true
  | .makeAccount _ _ c => fitsBytes 4 c
  | .setAccountState _ _ st => fitsBytes 1 st && st != 0
  | .deleteAccount _ _ => true
  | .issue _ _ c n => fitsBytes 1 c && fitsBytes 2 n
  | .adjust _ _ c n => fitsBytes 1 c && decide (-32768 ≤ n) && decide (n < 32768)
  | .collect _ _ x => fitsBytes 4 x
  | .readResidue _ => true
  | .clearResidue _ x => fitsBytes 4 x
  | .peekLog _ => true
  | .takeLog _ n => fitsBytes 2 n
  | .unknownRequest _ name => name.length == 4 && !knownName name
  | .arrive _ c o k q b tag =>
    fitsBytes 1 c && fitsBytes 1 o && fitsBytes 1 k && fitsBytes 1 q && fitsBytes 2 b && tag.all (fitsBytes 4)
  | .laneDone _ => true
  | .laneQuery _ => true
  | .closeWaitExpiry n => fitsBytes 2 n
  | .clockAdvance => true
  | .crystalLoss c _ => cyclesFit c
  | .crystalReturn _ => true
  | .backupCrystalStop c => cyclesFit c
  | .backupLow => true
  | .powerStop _ => true
  | .warmStart _ _ => true
  | .coldStart _ _ => true
  | .portLineError _ _ _ => true
  | .portGapTimeout _ _ => true
  | .portIdleRecover _ _ => true
  | .portOverrun _ _ => true
  | .portReplyEnd _ _ => true
  | .lreqChange _ _ _ => true
  | .frameStart _ => true
  | .grantMiss => true
  | .laneFrameError _ _ => true
  | .laneCharTimeout _ => true
  | .laneReplyEnd _ => true
  | .peyeTransition _ _ _ => true
  | .stall _ => true
  | .jobTake _ => true
  | .noteVendEnd _ => true
  | .noteExitStart _ => true
  | .noteExitEnd _ _ => true
  | .noteJamTimeout => true
  | .coinExitStart _ => true
  | .coinGapTimeout => true
  | .coinEmptyAsserted _ => true
  | .runOnEnd => true
  | .requestFrameStart _ _ => true
  | .inputsSettled _ _ => true

end Sys2Proof
end

