-- ==== Sys2Proof/Decode.lean ====
section
/-! DEFINITION. The command a frame completes (R169, R178, R181, R194, R195), and the frame of a request. No row of
spec/opcode_table.json gives bits, so no table word spells a command. -/

namespace Sys2Proof

open Machine

/-! ### Table words -/

/-- The command a table word spells: none, since no row of the table gives bits. -/
def decodeTableWord (_nbits _w : Nat) : Option Instr := none

/-! ### Reading fields -/

/-- Reads a `k`-byte unsigned integer (R195). -/
def readU (k : Nat) (bs : List Byte) : Option (Nat × List Byte) :=
  if k ≤ bs.length then some (ofBE (bs.take k), bs.drop k) else none

/-- The last field has been read and no byte is left over. -/
def atEnd (i : Instr) (bs : List Byte) : Option Instr := if bs = [] then some i else none

/-- An account byte (0.7). -/
def accountOf (n : Nat) : AccountId := Fin.ofNat 256 n

/-- A list of one-byte codes after its count, which must announce the bytes the frame holds (R195). -/
def readCodes (bs : List Byte) : Option (List Nat) :=
  match bs with
  | [] => none
  | c :: rest => if rest.length = c.toNat then some (rest.map fun b => b.toNat) else none

/-- One ticket number and nothing else. -/
def parseTicket (f : Nat → Instr) (bs : List Byte) : Option Instr := do
  let (n, bs) ← readU 2 bs
  atEnd (f n) bs

/-- The fields of Set Class (Table 1-3). R195 states 3 bytes for the foreign value. DESIGN CHOICE (log entry 42): D takes 3 bytes
and B 2, the fewest of their ranges. -/
def parseSetClass (src : Source) (bs : List Byte) : Option Instr := do
  let (c, bs) ← readU 1 bs
  let (st, bs) ← readU 1 bs
  let (k, bs) ← readU 1 bs
  let (d, bs) ← readU 3 bs
  let (f, bs) ← readU 3 bs
  let (g, bs) ← readU 1 bs
  let (sl, bs) ← readU 1 bs
  let (b, bs) ← readU 2 bs
  if bs.length < 12 then none
  else
    let label := bs.take 12
    let (p, bs) ← readU 1 (bs.drop 12)
    match p with
    | 0 => atEnd (.setClass src c st k d f g sl b label none) bs
    | 1 =>
      let (day, bs) ← readU 2 bs
      let (second, bs) ← readU 3 bs
      atEnd (.setClass src c st k d f g sl b label (some (day, second))) bs
    | _ => none

/-- The fields of Set Lane: 3 bytes for a station lane and 8 for a pulse lane (R181). -/
def parseSetLane (src : Source) (bs : List Byte) : Option Instr := do
  let (lane, bs) ← readU 1 bs
  if h : lane < 6 then
    let (p, bs) ← readU 1 bs
    let (w, bs) ← readU 1 bs
    atEnd (.setLaneStation src ⟨lane, h⟩ p w) bs
  else
    match pulseOf lane with
    | none => none
    | some i =>
      let (en, bs) ← readU 1 bs
      let (c, bs) ← readU 1 bs
      let (e, bs) ← readU 1 bs
      let (sp, bs) ← readU 2 bs
      let (st, bs) ← readU 1 bs
      let (m, bs) ← readU 1 bs
      atEnd (.setLanePulse src i en c e sp st m) bs

/-- The fields of Watch: a keg tag follows ADD and REMOVE (R88). DESIGN CHOICE (log entry 38): the action tells whether a tag
stands, so the tag follows it bare, without a presence byte. -/
def parseWatch (src : Source) (bs : List Byte) : Option Instr := do
  let (a, bs) ← readU 1 bs
  match a with
  | 0 =>
    let (tag, bs) ← readU 4 bs
    atEnd (.watchAdd src tag) bs
  | 1 =>
    let (tag, bs) ← readU 4 bs
    atEnd (.watchRemove src tag) bs
  | 2 => atEnd (.watchList src) bs
  | _ => none

/-- The fields of Resolve: ticket number and action (R131). -/
def parseResolve (src : Source) (bs : List Byte) : Option Instr := do
  let (n, bs) ← readU 2 bs
  let (a, bs) ← readU 1 bs
  match a with
  | 0 => atEnd (.resolveRetry src n) bs
  | 1 => atEnd (.resolveConvert src n) bs
  | 2 => atEnd (.resolveManual src n) bs
  | _ => none

/-- The fields of Arrive (Table 4-1); the keg tag is an optional field (R195). -/
def parseArrive (src : Source) (bs : List Byte) : Option Instr := do
  let (c, bs) ← readU 1 bs
  let (o, bs) ← readU 1 bs
  let (k, bs) ← readU 1 bs
  let (q, bs) ← readU 1 bs
  let (b, bs) ← readU 2 bs
  let (p, bs) ← readU 1 bs
  match p with
  | 0 => atEnd (.arrive src c o k q b none) bs
  | 1 =>
    let (tag, bs) ← readU 4 bs
    atEnd (.arrive src c o k q b (some tag)) bs
  | _ => none

/-- The fields of Set Dispenser (R144). DESIGN CHOICE (log entry 42): the denominations are no money amounts of 4 bytes and take
3 each, the fewest bytes of their ranges. -/
def parseSetDispenser (src : Source) (bs : List Byte) : Option Instr := do
  let (un, bs) ← readU 3 bs
  let (uc, bs) ← readU 3 bs
  let (w, bs) ← readU 2 bs
  let (j, bs) ← readU 2 bs
  let (p, bs) ← readU 2 bs
  let (nl, bs) ← readU 2 bs
  let (cl, bs) ← readU 2 bs
  atEnd (.setDispenser src un uc w j p nl cl) bs

/-- The command a request's field bytes carry, or nothing when their number does not match (step 3 of R181, R169). -/
def parseFields (src : Source) (n : ReqName) (bs : List Byte) : Option Instr :=
  match n with
  | .open_ => do
    let (a, bs) ← readU 1 bs
    let lanes ← readCodes bs
    pure (.openTicket src (accountOf a) lanes)
  | .atch => do
    let (t, bs) ← readU 2 bs
    let (l, bs) ← readU 1 bs
    atEnd (.attachLane src t l) bs
  | .dtch => do
    let (t, bs) ← readU 2 bs
    let (l, bs) ← readU 1 bs
    atEnd (.detachLane src t l) bs
  | .clos => parseTicket (.closeTicket src) bs
  | .ropn => parseTicket (.reopen src) bs
  | .void => parseTicket (.void src) bs
  | .rels => do
    let (t, bs) ← readU 2 bs
    let rs ← readCodes bs
    pure (.release src t rs)
  | .auth => do
    let (t, bs) ← readU 2 bs
    let (m, bs) ← readU 1 bs
    let (x, bs) ← readU 4 bs
    atEnd (.authorise src t m x) bs
  | .rvok => parseTicket (.revoke src) bs
  | .rslv => parseResolve src bs
  | .asgn => do
    let (l, bs) ← readU 1 bs
    let (t, bs) ← readU 2 bs
    atEnd (.assignStrays src l t) bs
  | .scls => parseSetClass src bs
  | .cchg => do
    let (c, bs) ← readU 1 bs
    atEnd (.cancelChange src c) bs
  | .slan => parseSetLane src bs
  | .slim => do
    let (x, bs) ← readU 4 bs
    let (w, bs) ← readU 2 bs
    atEnd (.setLimits src x w) bs
  | .sdsp => parseSetDispenser src bs
  | .fill => do
    let (c, bs) ← readU 1 bs
    let (x, bs) ← readU 2 bs
    atEnd (.refill src c x) bs
  | .clrc => do
    let (c, bs) ← readU 1 bs
    atEnd (.clearChannel src c) bs
  | .wtch => parseWatch src bs
  | .stim => do
    let (d, bs) ← readU 2 bs
    let (x, bs) ← readU 3 bs
    atEnd (.setTime src d x) bs
  | .rtkt => parseTicket (fun t => if t = 0 then .readTicketTable src else .readTicket src t) bs
  | .rcls => do
    let (c, bs) ← readU 1 bs
    atEnd (.readClass src c) bs
  | .racc => do
    let (a, bs) ← readU 1 bs
    atEnd (.readAccount src (accountOf a)) bs
  | .rsta => atEnd (.readStatus src) bs
  | .rnot => atEnd (.readNotices src) bs
  | .macc => do
    let (a, bs) ← readU 1 bs
    let (c, bs) ← readU 4 bs
    atEnd (.makeAccount src (accountOf a) c) bs
  | .sacc => do
    let (a, bs) ← readU 1 bs
    let (x, bs) ← readU 1 bs
    atEnd (if x = 0 then .deleteAccount src (accountOf a) else .setAccountState src (accountOf a) x) bs
  | .issu => do
    let (a, bs) ← readU 1 bs
    let (c, bs) ← readU 1 bs
    let (x, bs) ← readU 2 bs
    atEnd (.issue src (accountOf a) c x) bs
  | .adjt => do
    let (a, bs) ← readU 1 bs
    let (c, bs) ← readU 1 bs
    let (x, bs) ← readU 2 bs
    atEnd (.adjust src (accountOf a) c (ofSigned x)) bs
  | .coll => do
    let (a, bs) ← readU 1 bs
    let (x, bs) ← readU 4 bs
    atEnd (.collect src (accountOf a) x) bs
  | .rres => atEnd (.readResidue src) bs
  | .cres => do
    let (x, bs) ← readU 4 bs
    atEnd (.clearResidue src x) bs
  | .peek => atEnd (.peekLog src) bs
  | .take => parseTicket (.takeLog src) bs
  | .arrv => parseArrive src bs
  | .done => atEnd (.laneDone src) bs
  | .qury => atEnd (.laneQuery src) bs

/-- The command of a named request whose field bytes do not fit: its operands stand for nothing, since it is answered
BAD_VALUE, NOT_PERMITTED or UNKNOWN_REQUEST before they are read (R169, R181). -/
def misfit (src : Source) : ReqName → Instr
  | .open_ => .openTicket src 0 []
  | .atch => .attachLane src 0 0
  | .dtch => .detachLane src 0 0
  | .clos => .closeTicket src 0
  | .ropn => .reopen src 0
  | .void => .void src 0
  | .rels => .release src 0 []
  | .auth => .authorise src 0 0 0
  | .rvok => .revoke src 0
  | .rslv => .resolveRetry src 0
  | .asgn => .assignStrays src 0 0
  | .scls => .setClass src 0 0 0 0 0 0 0 0 (List.replicate 12 0) none
  | .cchg => .cancelChange src 0
  | .slan => .setLaneStation src 0 0 0
  | .slim => .setLimits src 0 0
  | .sdsp => .setDispenser src 0 0 0 0 0 0 0
  | .fill => .refill src 0 0
  | .clrc => .clearChannel src 0
  | .wtch => .watchList src
  | .stim => .setTime src 0 0
  | .rtkt => .readTicketTable src
  | .rcls => .readClass src 0
  | .racc => .readAccount src 0
  | .rsta => .readStatus src
  | .rnot => .readNotices src
  | .macc => .makeAccount src 0 0
  | .sacc => .deleteAccount src 0
  | .issu => .issue src 0 0 0
  | .adjt => .adjust src 0 0 0
  | .coll => .collect src 0 0
  | .rres => .readResidue src
  | .cres => .clearResidue src 0
  | .peek => .peekLog src
  | .take => .takeLog src 0
  | .arrv => .arrive src 0 0 0 0 0 none
  | .done => .laneDone src
  | .qury => .laneQuery src

/-- The command of a name and its field bytes on a link (R169, R181). -/
def decodePayload (link : Link) (name fields : List Byte) : Instr :=
  match ReqName.ofChars name with
  | none => .unknownRequest link name
  | some n => (parseFields { link := link, fits := true } n fields).getD (misfit { link := link, fits := false } n)

/-! ### Reading frames -/

/-- The name and fields of a frame whose length byte lies in a range and counts the bytes it holds, and whose bytes sum to
zero modulo 256 (R168, R178, R194). `none` is a frame the receiver discards (R172, R179). -/
def openFrame (start : Byte) (most : Nat) (bs : List Byte) : Option (List Byte × List Byte) :=
  match bs with
  | b :: length :: rest =>
    if b = start ∧ 4 ≤ length.toNat ∧ length.toNat ≤ most ∧ rest.length = length.toNat + 1 ∧ sumBytes bs = 0 then
      some (rest.take 4, (rest.take length.toNat).drop 4)
    else none
  | _ => none

/-- What a receiver in RECEIVING makes of the characters it has taken: more are to come, the frame is damaged and discarded with
the error that PORT_LINE_ERROR carries, or it is complete with a right check byte (R178, R179). -/
inductive Heard where
  | more (bytes : List Byte)
  | damaged (e : PortError)
  | complete (bytes : List Byte)
deriving DecidableEq, Repr

/-- How the bytes of a frame stand after its start byte, where the length byte counts 4 to `most` bytes (R168, R178, R194). -/
inductive FrameEnd where
  | more | badLength | badCheck | complete
deriving DecidableEq, Repr

/-- The second byte of a frame is its length byte, and the frame ends with the check byte, the one that follows those it
counts (R168, R178, R194). -/
def frameEnd (most : Nat) (bs : List Byte) : FrameEnd :=
  match bs with
  | _ :: length :: rest =>
    if length.toNat < 4 ∨ most < length.toNat then .badLength
    else if rest.length < length.toNat + 1 then .more
    else if sumBytes bs = 0 then .complete
    else .badCheck
  | _ => .more

/-- A byte joins those of a request frame on a terminal port (R178, R179). -/
def hearByte (bytes : List Byte) (b : Byte) : Heard :=
  let bs := bytes ++ [b]
  match frameEnd 64 bs with
  | .more => .more bs
  | .badLength => .damaged .length
  | .badCheck => .damaged .check
  | .complete => .complete bs

/-- The characters that follow the start byte of a frame, one after another until it is damaged or complete (R177 to R179). -/
def hear (bytes : List Byte) : List (BitVec 11) → Heard
  | [] => .more bytes
  | w :: ws =>
    match readPortChar w with
    | .error e => .damaged e
    | .ok b =>
      match hearByte bytes b with
      | .more bs => hear bs ws
      | h => h

/-- What the controller has of the characters in a lane's grant: the bytes it has taken, none before the frame start; a
discarded frame; or a complete one (R168, R172). -/
inductive LaneHeard where
  | more (bytes : List Byte)
  | damaged (e : LaneError)
  | complete (bytes : List Byte)
deriving DecidableEq, Repr

/-- A character in a lane's grant (R168, R172). Before the frame start a marked character begins the frame, is from the wrong
address or is a framing error; a data character there leaves the window open (DESIGN CHOICE, log entry 40). After it a data
character joins the frame. -/
def hearLaneChar (l : StationLane) (bytes : List Byte) (c : LaneChar) : LaneHeard :=
  match bytes, c.marked with
  | [], false => .more []
  | [], true =>
    if c = frameStartChar l then .more [c.data]
    else if 0x10 ≤ c.data.toNat ∧ c.data.toNat ≤ 0x15 then .damaged .wrongAddress
    else .damaged .framing
  | _ :: _, true => .damaged .markedInFrame
  | b :: bs, false =>
    let bs := b :: bs ++ [c.data]
    match frameEnd 24 bs with
    | .more => .more bs
    | .badLength => .damaged .length
    | .badCheck => .damaged .check
    | .complete => .complete bs

/-- The characters of a lane's grant, one after another, each with whether the controller has taken the one before it from the
receive buffer by the time it completes (R163, R168, R172). -/
def hearLane (l : StationLane) (b : LaneBus) (bytes : List Byte) : List (BitVec 11 × Bool) → LaneHeard
  | [] => .more bytes
  | (w, taken) :: ws =>
    match readLaneChar w with
    | .error e => .damaged e
    | .ok c =>
      match (if taken then b.take else b).receive c with
      | .error e => .damaged e
      | .ok b' =>
        match hearLaneChar l bytes c with
        | .more bs => hearLane l b' bs ws
        | h => h

/-- The command a request frame on a terminal port completes (R178, R181). -/
def decodeTerminal (p : Port) (bs : List Byte) : Option Instr :=
  (openFrame 0x5A 64 bs).map fun x => decodePayload (match p with | .office => .office | .accounts => .accounts) x.1 x.2

/-- The command a station frame completes in the grant of a lane: one marked character, its start, and then data characters
(R164, R168, R169). -/
def decodeStation (l : StationLane) (cs : List LaneChar) : Option Instr :=
  if cs.map (·.marked) = true :: List.replicate (cs.length - 1) false then
    (openFrame (stationStart l) 24 (cs.map (·.data))).map fun x => decodePayload .laneBus x.1 x.2
  else none

/-! ### Writing requests -/

/-- The link a request came on and whether its bytes fit; nothing for a command that is no named request. -/
def Instr.source? : Instr → Option Source
  | .openTicket src _ _ | .attachLane src _ _ | .detachLane src _ _ | .closeTicket src _ | .reopen src _ | .void src _
  | .release src _ _ | .setLimits src _ _ | .readTicket src _ | .readTicketTable src | .authorise src _ _ _
  | .revoke src _ | .resolveRetry src _ | .resolveConvert src _ | .resolveManual src _ | .assignStrays src _ _
  | .setClass src _ _ _ _ _ _ _ _ _ _ | .cancelChange src _ | .readClass src _ | .setLaneStation src _ _ _
  | .setLanePulse src _ _ _ _ _ _ _ | .setDispenser src _ _ _ _ _ _ _ | .refill src _ _ | .clearChannel src _
  | .watchAdd src _ | .watchRemove src _ | .watchList src | .setTime src _ _ | .readStatus src | .readNotices src
  | .readAccount src _ | .makeAccount src _ _ | .setAccountState src _ _ | .deleteAccount src _ | .issue src _ _ _
  | .adjust src _ _ _ | .collect src _ _ | .readResidue src | .clearResidue src _ | .peekLog src | .takeLog src _
  | .arrive src _ _ _ _ _ _ | .laneDone src | .laneQuery src => some src
  | _ => none

/-- The name and the field bytes of a request (R195), in the order in which its rule lists the fields. -/
def Instr.payload? : Instr → Option (ReqName × List Byte)
  | .openTicket _ a lanes => some (.open_, be 1 a.val ++ counted (be 1) lanes)
  | .attachLane _ n l => some (.atch, be 2 n ++ be 1 l)
  | .detachLane _ n l => some (.dtch, be 2 n ++ be 1 l)
  | .closeTicket _ n => some (.clos, be 2 n)
  | .reopen _ n => some (.ropn, be 2 n)
  | .void _ n => some (.void, be 2 n)
  | .release _ n rs => some (.rels, be 2 n ++ counted (be 1) rs)
  | .setLimits _ x w => some (.slim, be 4 x ++ be 2 w)
  | .readTicket _ n => some (.rtkt, be 2 n)
  | .readTicketTable _ => some (.rtkt, be 2 0)
  | .authorise _ n m x => some (.auth, be 2 n ++ be 1 m ++ be 4 x)
  | .revoke _ n => some (.rvok, be 2 n)
  | .resolveRetry _ n => some (.rslv, be 2 n ++ be 1 0)
  | .resolveConvert _ n => some (.rslv, be 2 n ++ be 1 1)
  | .resolveManual _ n => some (.rslv, be 2 n ++ be 1 2)
  | .assignStrays _ l n => some (.asgn, be 1 l ++ be 2 n)
  | .setClass _ c st k d f g sl b label e =>
    some (.scls, be 1 c ++ be 1 st ++ be 1 k ++ be 3 d ++ be 3 f ++ be 1 g ++ be 1 sl ++ be 2 b ++ label
      ++ optionalField (fun x : Nat × Nat => be 2 x.1 ++ be 3 x.2) e)
  | .cancelChange _ c => some (.cchg, be 1 c)
  | .readClass _ c => some (.rcls, be 1 c)
  | .setLaneStation _ l p w => some (.slan, be 1 l.val ++ be 1 p ++ be 1 w)
  | .setLanePulse _ i en c e sp st m =>
    some (.slan, be 1 (pulseNumber i) ++ be 1 en ++ be 1 c ++ be 1 e ++ be 2 sp ++ be 1 st ++ be 1 m)
  | .setDispenser _ un uc w j p nl cl =>
    some (.sdsp, be 3 un ++ be 3 uc ++ be 2 w ++ be 2 j ++ be 2 p ++ be 2 nl ++ be 2 cl)
  | .refill _ c n => some (.fill, be 1 c ++ be 2 n)
  | .clearChannel _ c => some (.clrc, be 1 c)
  | .watchAdd _ tag => some (.wtch, be 1 0 ++ be 4 tag)
  | .watchRemove _ tag => some (.wtch, be 1 1 ++ be 4 tag)
  | .watchList _ => some (.wtch, be 1 2)
  | .setTime _ d n => some (.stim, be 2 d ++ be 3 n)
  | .readStatus _ => some (.rsta, [])
  | .readNotices _ => some (.rnot, [])
  | .readAccount _ a => some (.racc, be 1 a.val)
  | .makeAccount _ a c => some (.macc, be 1 a.val ++ be 4 c)
  | .setAccountState _ a st => some (.sacc, be 1 a.val ++ be 1 st)
  | .deleteAccount _ a => some (.sacc, be 1 a.val ++ be 1 0)
  | .issue _ a c n => some (.issu, be 1 a.val ++ be 1 c ++ be 2 n)
  | .adjust _ a c n => some (.adjt, be 1 a.val ++ be 1 c ++ signedBytes n)
  | .collect _ a x => some (.coll, be 1 a.val ++ be 4 x)
  | .readResidue _ => some (.rres, [])
  | .clearResidue _ x => some (.cres, be 4 x)
  | .peekLog _ => some (.peek, [])
  | .takeLog _ n => some (.take, be 2 n)
  | .arrive _ c o k q b tag =>
    some (.arrv, be 1 c ++ be 1 o ++ be 1 k ++ be 1 q ++ be 2 b ++ optionalField (be 4) tag)
  | .laneDone _ => some (.done, [])
  | .laneQuery _ => some (.qury, [])
  | _ => none

/-- The frame of a request on a terminal port (Table 12-1). -/
def encodeTerminal (i : Instr) : Option (List Byte) :=
  i.payload?.map fun x => frame 0x5A (be 1 (4 + x.2.length)) (x.1.chars ++ x.2)

/-- The frame of a request from the station of a lane (Table 12-1). -/
def encodeStation (l : StationLane) (i : Instr) : Option (List LaneChar) :=
  i.payload?.map fun x => laneChars (frame (stationStart l) (be 1 (4 + x.2.length)) (x.1.chars ++ x.2))

end Sys2Proof
end

