-- ==== Sys2Proof/Machine/Accounts.lean ====
section
/-! DEFINITION. The account table (Section 2): the gateway's requests, and the yard residue counter. -/

namespace Sys2Proof.Machine

/-- What a Read Account reply carries (R35). -/
def State.accountBody (a : AccountId) (s : State) : Body := .account a s.accounts[a] (s.ticketsOf a)

/-- The checks every account request begins with: WALK_IN, then UNKNOWN_ACCOUNT (R21). -/
def onAccount (a : AccountId) (block : Account → Answer) (s : State) : Answer :=
  if a.val = 0 then refuse .walkIn s
  else if s.accounts[a].state = .unused then refuse .unknownAccount s
  else block s.accounts[a]

/-- Read Account (R35). -/
def readAccount (a : AccountId) (s : State) : Answer := okay (s.accountBody a) s

/-- Make Account (R22). -/
def makeAccount (a : AccountId) (customer : Nat) (s : State) : Answer :=
  if a.val = 0 then refuse .walkIn s
  else if customer > Config.moneyMax then refuse .badValue s
  else if s.accounts[a].state ≠ .unused then refuse .wrongState s
  else
    let t := s.setAccount a { Account.empty with state := .active, customer := customer }
    okay (t.accountBody a) t

/-- A deletion is refused BUSY while the account holds a count or a balance or a ticket names it (R24). -/
def State.accountBusy (a : AccountId) (s : State) : Bool :=
  s.accounts[a].outstanding.toList.any (· != 0) || s.accounts[a].credit != 0 || s.ticketsOf a != 0

/-- Set Account State with target UNUSED (R24). -/
def deleteAccount (a : AccountId) (s : State) : Answer :=
  onAccount a (fun _ =>
    if s.accountBusy a then refuse .busy s
    else
      let t := s.setAccount a Account.empty
      okay (t.accountBody a) t) s

/-- Set Account State (R23); a target of UNUSED is a deletion. -/
def setAccountState (a : AccountId) (target : Nat) (s : State) : Answer :=
  onAccount a (fun r =>
    match AccountState.ofCode target with
    | none => refuse .badValue s
    | some .unused => deleteAccount a s
    | some st =>
      let t := s.setAccount a { r with state := st }
      okay (t.accountBody a) t) s

/-- What an Issue or Adjust reply carries (R25, R27). -/
def State.floatBody (a : AccountId) (c : ClassId) (s : State) : Body :=
  .float c.val s.accounts[a].outstanding[c] s.accounts[a].saturated

/-- Issue (R25). -/
def issue (a : AccountId) (cls quantity : Nat) (s : State) : Answer :=
  onAccount a (fun r =>
    match classOf cls with
    | none => refuse .badValue s
    | some c =>
      if !inRange 1 9999 quantity then refuse .badValue s
      else
        match s.classes[c].state with
        | .unused => refuse .unknownClass s
        | .retired => refuse .classRetired s
        | .active =>
          let t := s.setAccount a (r.grow c quantity)
          okay (t.floatBody a c) t) s

/-- An outstanding count after an Adjust: the sum, clamped to 0 to 65,535 (R27). -/
def adjusted (count : Nat) (change : Int) : Nat := min Config.countMax ((count : Int) + change).toNat

/-- Adjust (R27). -/
def adjust (a : AccountId) (cls : Nat) (change : Int) (s : State) : Answer :=
  onAccount a (fun r =>
    match classOf cls with
    | none => refuse .badValue s
    | some c =>
      if change < -9999 || 9999 < change then refuse .badValue s
      else if s.classes[c].state = .unused then refuse .unknownClass s
      else
        let t := s.setAccount a { r.setCount c (adjusted r.outstanding[c] change) with saturated := false }
        okay (t.floatBody a c) t) s

/-- Collect (R28). -/
def collect (a : AccountId) (amount : Nat) (s : State) : Answer :=
  onAccount a (fun r =>
    if amount ≤ r.credit then okay (.money (r.credit - amount)) (s.setAccount a (r.debit amount))
    else { state := s, result := .mismatch, body := .money r.credit }) s

/-- Read Residue (R34). -/
def readResidue (s : State) : Answer := okay (.money s.residue) s

/-- Clear Residue (R34). -/
def clearResidue (amount : Nat) (s : State) : Answer :=
  if amount ≤ s.residue then okay (.money (s.residue - amount)) { s with residue := s.residue - amount }
  else { state := s, result := .mismatch, body := .money s.residue }

/-- An addition to the yard residue counter, saturating with RESIDUE_SATURATED; an addition of 0 changes nothing (R33). -/
def State.addResidue (x : Nat) (s : State) : State :=
  if x = 0 then s
  else if s.residue + x ≤ Config.moneyMax then { s with residue := s.residue + x }
  else State.tellAccounts .residueSaturated { s with residue := Config.moneyMax }

/-- READ_ACCOUNT (R35). -/
def execReadAccount (src : Source) (a : AccountId) (s : State) : Host.Outcome State Fault Refusal :=
  request src (.readAccount src a) .racc (readAccount a) s

/-- MAKE_ACCOUNT (R22). -/
def execMakeAccount (src : Source) (a : AccountId) (customer : Nat) (s : State) : Host.Outcome State Fault Refusal :=
  request src (.makeAccount src a customer) .macc (makeAccount a customer) s

/-- SET_ACCOUNT_STATE (R23). -/
def execSetAccountState (src : Source) (a : AccountId) (target : Nat) (s : State) : Host.Outcome State Fault Refusal :=
  request src (.setAccountState src a target) .sacc (setAccountState a target) s

/-- DELETE_ACCOUNT (R24). -/
def execDeleteAccount (src : Source) (a : AccountId) (s : State) : Host.Outcome State Fault Refusal :=
  request src (.deleteAccount src a) .sacc (deleteAccount a) s

/-- ISSUE (R25). -/
def execIssue (src : Source) (a : AccountId) (cls quantity : Nat) (s : State) : Host.Outcome State Fault Refusal :=
  request src (.issue src a cls quantity) .issu (issue a cls quantity) s

/-- ADJUST (R27). -/
def execAdjust (src : Source) (a : AccountId) (cls : Nat) (change : Int) (s : State) :
    Host.Outcome State Fault Refusal :=
  request src (.adjust src a cls change) .adjt (adjust a cls change) s

/-- COLLECT (R28). -/
def execCollect (src : Source) (a : AccountId) (amount : Nat) (s : State) : Host.Outcome State Fault Refusal :=
  request src (.collect src a amount) .coll (collect a amount) s

/-- READ_RESIDUE (R34). -/
def execReadResidue (src : Source) (s : State) : Host.Outcome State Fault Refusal :=
  request src (.readResidue src) .rres readResidue s

/-- CLEAR_RESIDUE (R34). -/
def execClearResidue (src : Source) (amount : Nat) (s : State) : Host.Outcome State Fault Refusal :=
  request src (.clearResidue src amount) .cres (clearResidue amount) s

end Sys2Proof.Machine
end

