-- ==== Sys2Proof/Machine/Valuation.lean ====
section
/-! DEFINITION. Valuation (Section 6): reduced values, the split against the float, line values, the total, the
reservation and the holds; and the restore of a reservation (R32). -/

namespace Sys2Proof.Machine

/-- A per-item value less the damage deduction, rounded down: DV from D and FV from F (R111). -/
def reduced (value damage : Nat) : Nat := value * (100 - damage) / 100

/-- The items of a count that the float covers; the float is unlimited for the walk-in account (R110, R112). -/
def within (float : Option Nat) (count : Nat) : Nat :=
  match float with
  | none => count
  | some o => min count o

/-- What the float leaves after some items took theirs (R112). -/
def floatLeft (float : Option Nat) (used : Nat) : Option Nat := float.map fun o => o - used

/-- The valuation figures of one line (R111 to R113). -/
def lineFigures (r : ClassRecord) (float : Option Nat) (l : Line) : LineFigures :=
  let g1 := within float l.good
  let d1 := within (floatLeft float g1) l.damaged
  { goodIn := g1
    damagedIn := d1
    goodOver := l.good - g1
    damagedOver := l.damaged - d1
    value :=
      g1 * r.deposit + d1 * reduced r.deposit r.damage + (l.good - g1 + l.foreignGood) * r.foreign
        + (l.damaged - d1 + l.foreignDamaged) * reduced r.foreign r.damage + l.bottles * r.bottle }

/-- The float a line of class `c` is set against: unlimited for account 0 (R110). -/
def State.floatOf (a : AccountId) (c : ClassId) (s : State) : Option Nat :=
  if a.val = 0 then none else some s.accounts[a].outstanding[c]

/-- The figures of a ticket's lines, in line order (R118). -/
def State.ticketFigures (t : Ticket) (s : State) : List LineFigures :=
  t.lines.map fun l => lineFigures s.classes[l.cls] (s.floatOf t.account l.cls) l

/-- The exact sum of the line values (R114). -/
def exactSum (fs : List LineFigures) : Nat := (fs.map (·.value)).sum

/-- The count a line reserves: g1 + d1, and 0 for account 0 (R116). -/
def reservedBy (a : AccountId) (f : LineFigures) : Nat := if a.val = 0 then 0 else f.goodIn + f.damagedIn

/-- The account's outstanding counts with each line's reservation taken out, all together (R31). -/
def reserveAll : List (ClassId × Nat) → Account → Account
  | [], a => a
  | (c, r) :: rest, a => reserveAll rest (a.reserve c r)

/-- The account's outstanding counts with each line's reservation added back, all together (R32). -/
def restoreAll : List (ClassId × Nat) → Account → Account
  | [], a => a
  | (c, r) :: rest, a => restoreAll rest (a.grow c r)

/-- A ticket's lines with a reservation, class by class. -/
def Ticket.byClass (t : Ticket) (rs : List Nat) : List (ClassId × Nat) := (t.lines.map (·.cls)).zip rs

/-- The reasons a valuation adds (R117). -/
def valuationHolds (excess blocked forced : Bool) : List HoldReason :=
  (if excess then [.overLimit] else []) ++ (if blocked then [.accountBlocked] else [])
    ++ (if forced then [.forcedClose] else [])

/-- The valued ticket (R114 to R118): figures, total, reservation, valued time, holds, no attachment and no close wait. -/
def State.valuedTicket (forced : Bool) (t : Ticket) (s : State) : Ticket :=
  let fs := s.ticketFigures t
  let sum := exactSum fs
  let total := min sum Config.moneyMax
  let saturated := decide (Config.moneyMax < sum)
  { t with
    state := .valued
    attachments := []
    closeDeadline := none
    forced := t.forced || forced
    saturated := saturated
    figures := some { lines := fs, total := total }
    reservation := some (fs.map (reservedBy t.account))
    valuedAt := some s.stamp
    holds := (valuationHolds (saturated || s.reviewThreshold < total)
        (s.accounts[t.account].state == .blocked) forced).foldl (fun h r => addHold r h) t.holds }

/-- Whether the valuation of a ticket adds a reason (R117). -/
def State.valuationHeld (forced : Bool) (t : Ticket) (s : State) : Bool :=
  let sum := exactSum (s.ticketFigures t)
  decide (Config.moneyMax < sum) || s.reviewThreshold < min sum Config.moneyMax
    || s.accounts[t.account].state == .blocked || forced

/-- The valuation event (R108): figures read and written, the float reserved, the holds added with one HOLD. `forced` says
whether the close ended by force (R50, R64), in which case the forced-close flag is set. -/
def State.valueTicket (forced : Bool) (t : Ticket) (s : State) : State :=
  let v := s.valuedTicket forced t
  let a := if t.account.val = 0 then s.accounts[t.account]
    else reserveAll (t.byClass ((s.ticketFigures t).map (reservedBy t.account))) s.accounts[t.account]
  let s' := (State.leaveClosing t.number (s.putTicket v)).setAccount t.account a
  if s.valuationHeld forced t then s'.tellOffice .hold else s'

/-- The restore of a VALUED ticket's reservation at Reopen or Void (R32); nothing for a walk-in ticket or one without a
reservation. -/
def State.restoreTicket (t : Ticket) (s : State) : State :=
  match t.reservation with
  | none => s
  | some rs =>
    if t.account.val = 0 then s
    else s.setAccount t.account (restoreAll (t.byClass rs) s.accounts[t.account])

end Sys2Proof.Machine
end

