-- ==== Sys2Proof/Machine/Settlement.lean ====
section
/-! DEFINITION. The settlement unit (Section 7): cash planning and Authorise, the payout queue, Revoke, Resolve,
settlement, and the settled log with its waiting order. -/

namespace Sys2Proof.Machine

/-! ### Checks every ticket request begins with -/

/-- Steps 2 and 3 of R40: the ticket a number names, in one of the states the request is taken in. -/
def onTicket (n : Nat) (allowed : Ticket → Bool) (block : Ticket → Answer) (s : State) : Answer :=
  match s.ticket? n with
  | none => refuse .unknownTicket s
  | some t => if allowed t then block t else refuse .wrongState s

/-- The state of a ticket's slot after a request: FREE once its record has entered the log (R58, R126). -/
def State.slotState (n : Nat) (s : State) : TicketState :=
  match s.ticket? n with
  | some t => t.state
  | none => .free

/-! ### Log records -/

/-- Whether any of a record's times carries the suspect flag (R136). -/
def anySuspect (opened settled : Stamp) (valued : Option Stamp) : Bool :=
  opened.suspect || settled.suspect || (match valued with | some v => v.suspect | none => false)

/-- A line entry of a PAID record (Table 7-4). -/
def paidLine (l : Line) (f : LineFigures) : LogLine :=
  { cls := l.cls, goodIn := f.goodIn, damagedIn := f.damagedIn, goodOver := f.goodOver, damagedOver := f.damagedOver
    foreignGood := l.foreignGood, foreignDamaged := l.foreignDamaged, bottles := l.bottles, value := f.value }

/-- A line entry of a VOIDED record: raw own counts in the within-float columns (Table 7-4). -/
def voidedLine (l : Line) (value : Nat) : LogLine :=
  { cls := l.cls, goodIn := l.good, damagedIn := l.damaged, goodOver := 0, damagedOver := 0
    foreignGood := l.foreignGood, foreignDamaged := l.foreignDamaged, bottles := l.bottles, value := value }

/-- The ticket total T, 0 for a ticket without figures. -/
def Ticket.total (t : Ticket) : Nat := match t.figures with | some f => f.total | none => 0

/-- The planned cash A, 0 for a ticket without an authorisation. -/
def Ticket.cash (t : Ticket) : Nat := match t.authorisation with | some a => a.cash | none => 0

/-- The paid value P at the denominations in force (R131, R157). -/
def Ticket.paidValue (d : Dispenser) (t : Ticket) : Nat :=
  match t.progress with
  | some p => p.notesPaid * d.un + p.coinsPaid * d.uc
  | none => 0

/-- The remainder R (R131). -/
def Ticket.remainder (d : Dispenser) (t : Ticket) : Nat := t.cash - t.paidValue d

/-- The PAID record of a ticket (R134, R136). -/
def paidRecord (t : Ticket) (customer paid : Nat) (settled : Stamp) : LogRecord :=
  { number := t.number
    account := t.account
    customer := customer
    outcome := .paid
    suspect := anySuspect t.openedAt settled t.valuedAt
    forced := t.forced
    total := t.total
    credit := match t.authorisation with | some a => a.credit | none => 0
    converted := match t.progress with | some p => p.converted | none => 0
    residue := match t.authorisation with | some a => a.residue | none => 0
    cashPaid := paid
    manual := match t.progress with | some p => p.manual | none => 0
    overpay := paid - t.cash
    opened := t.openedAt
    settled := settled
    valued := t.valuedAt
    lines := match t.figures with | some f => List.zipWith paidLine t.lines f.lines | none => [] }

/-- The VOIDED record of a ticket (R136): total and line values only when it was VALUED, and all amounts 0. -/
def voidedRecord (t : Ticket) (customer : Nat) (settled : Stamp) : LogRecord :=
  { number := t.number
    account := t.account
    customer := customer
    outcome := .voided
    suspect := anySuspect t.openedAt settled t.valuedAt
    forced := t.forced
    total := t.total
    credit := 0
    converted := 0
    residue := 0
    cashPaid := 0
    manual := 0
    overpay := 0
    opened := t.openedAt
    settled := settled
    valued := t.valuedAt
    lines := match t.figures with
      | some f => List.zipWith (fun l g => voidedLine l g.value) t.lines f.lines
      | none => t.lines.map fun l => voidedLine l 0 }

/-! ### Settlement and the log -/

/-- A record joins the tail of the log: LOG_READY, and LOG_FULL on both ports when it brings the log to 64 (R137). -/
def State.enterLog (r : LogRecord) (s : State) : State :=
  let t := State.tellAccounts .logReady { s with log := s.log ++ [r] }
  if t.log.length = Config.logSlots then State.tellAccounts .logFull (State.tellOffice .logFull t) else t

/-- The end of a settling or voiding event (R83, R135): the tags leave the list, and the record enters the log and the slot
becomes FREE, or the ticket waits in its slot with its record. -/
def State.finish (t : Ticket) (r : LogRecord) (s : State) : State :=
  if s.log.length < Config.logSlots then State.enterLog r (State.dropTicket t.number (s.dropTags t.number))
  else
    let w := State.putTicket { t with record := some r } (s.dropTags t.number)
    { w with waiting := w.waiting ++ [t.number] }

/-- Settlement (R134, R135): overpay, outcome PAID, settled time, tags, record and log. DESIGN CHOICE (log entry 33): the payout
progress of a ticket begins when its first job is taken (R129), so one that settles without a job has none, in SETTLED too, and
its overpay of 0 stands in its record alone. -/
def State.settle (t : Ticket) (s : State) : State :=
  let paid := t.paidValue s.disp
  let u := { t with
    state := .settled
    outcome := some .paid
    settledAt := some s.stamp
    progress := t.progress.map fun p => { p with overpay := paid - t.cash } }
  s.finish u (paidRecord u s.accounts[t.account].customer paid s.stamp)

/-! ### Authorise -/

/-- The cash request C (R124). -/
def cashRequest (m : Means) (total amount : Nat) : Nat :=
  match m with
  | .credit => 0
  | .cash => total
  | .split => amount

/-- The plan of an Authorise (R124). -/
def plan (m : Means) (total amount un uc : Nat) : Authorisation :=
  let c := cashRequest m total amount
  let n := c / un
  let k := (c - n * un) / uc
  { means := m, credit := total - c, cash := n * un + k * uc, notes := n, coins := k, residue := c - (n * un + k * uc) }

/-- The units of a plan are not available (step 8 of R123, R125). -/
def State.short (notes coins : Nat) (s : State) : Bool := s.notesAvailable < notes || s.coinsAvailable < coins

/-- The effect of an Authorise that passes its checks (R126). -/
def State.authorised (t : Ticket) (a : Authorisation) (s : State) : State :=
  let s₁ :=
    if t.account.val = 0 then s.addResidue a.residue
    else s.setAccount t.account (s.accounts[t.account].post (t.total - a.cash))
  let u := { t with authorisation := some a }
  if a.cash = 0 then s₁.settle u
  else
    let s₂ := s₁.putTicket { u with state := .authorised }
    { s₂ with queue := s₂.queue ++ [{ ticket := t.number, amount := a.cash, notes := a.notes, coins := a.coins }] }

/-- The reply to an Authorise that was taken (R126). -/
def State.authorisedBody (n : Nat) (a : Authorisation) (s : State) : Body :=
  .authorised n (s.slotState n) a.credit a.cash a.notes a.coins a.residue
    (if s.slotState n = .authorised then some s.queue.length else none)

/-- Authorise's own checks, in the order of R123. -/
def authoriseChecked (m : Means) (amount : Nat) (t : Ticket) (s : State) : Answer :=
  let a := plan m t.total amount s.disp.un s.disp.uc
  if t.saturated then refuse .saturated s
  else if !t.holds.isEmpty then refuse .held s
  else if s.accounts[t.account].state = .blocked then refuse .accountBlocked s
  else if m ≠ .cash ∧ t.account.val = 0 then refuse .walkIn s
  else if m = .split ∧ (amount = 0 ∨ t.total < amount) then refuse .badValue s
  else if m ≠ .credit ∧ s.disp.denoms = none then refuse .stockShort s
  else if 0 < a.cash ∧ Config.queueSlots ≤ s.queue.length then refuse .queueFull s
  else if 0 < a.cash ∧ s.short a.notes a.coins then refuse .stockShort s
  else if t.account.val ≠ 0 ∧ !s.accounts[t.account].fits (t.total - a.cash) then refuse .accountFull s
  else okay ((s.authorised t a).authorisedBody t.number a) (s.authorised t a)

/-- Authorise (R123). -/
def authorise (n means amount : Nat) (s : State) : Answer :=
  match Means.ofCode means with
  | none => refuse .badValue s
  | some m => onTicket n (fun t => t.state == .valued) (fun t => authoriseChecked m amount t s) s

/-! ### Revoke -/

/-- The job of a ticket leaves the payout queue from any place (R128, R129). -/
def State.dropJob (n : Nat) (s : State) : State := { s with queue := s.queue.filter fun j => j.ticket != n }

/-- What Revoke reverses: T − A, and 0 for a walk-in ticket (R129, R30). -/
def Ticket.reversal (t : Ticket) : Nat := if t.account.val = 0 then 0 else t.total - t.cash

/-- Revoke (R129). -/
def revoke (n : Nat) (s : State) : Answer :=
  onTicket n (fun t => t.state == .authorised) (fun t =>
    match t.progress with
    | none =>
      if s.accounts[t.account].credit < t.reversal then refuse .creditCollected s
      else
        okay (.ticketState n .valued)
          (((s.dropJob n).putTicket { t with state := .valued, authorisation := none }).setAccount t.account
            (s.accounts[t.account].debit t.reversal))
    | some _ => okay (.ticketState n .payFault) ((s.dropJob n).putTicket { t with state := .payFault })) s

/-! ### Resolve -/

/-- A ticket's payout progress with some fields changed. -/
def Ticket.withProgress (f : Progress → Progress) (t : Ticket) : Ticket := { t with progress := t.progress.map f }

/-- Retries made of a ticket's payout (Table 3-1). -/
def Ticket.retries (t : Ticket) : Nat := match t.progress with | some p => p.retries | none => 0

/-- Resolve with RETRY (R132). -/
def resolveRetry (n : Nat) (s : State) : Answer :=
  onTicket n (fun t => t.state == .payFault) (fun t =>
    let p := t.paidValue s.disp
    let r := t.remainder s.disp
    let notes := r / s.disp.un
    let coins := (r - notes * s.disp.un) / s.disp.uc
    if Config.retryLimit ≤ t.retries then refuse .retryLimit s
    else if r = 0 then
      let s' := s.settle t
      okay (.resolved n (s'.slotState n) p r none) s'
    else if Config.queueSlots ≤ s.queue.length then refuse .queueFull s
    else if s.short notes coins then refuse .stockShort s
    else
      let u := Ticket.withProgress (fun q => { q with retries := q.retries + 1 }) { t with state := .authorised }
      let s' := s.putTicket u
      let s'' := { s' with queue := s'.queue ++ [{ ticket := n, amount := r, notes := notes, coins := coins }] }
      okay (.resolved n .authorised p r (some (notes, coins, s''.queue.length))) s'') s

/-- Resolve with CONVERT (R133). -/
def resolveConvert (n : Nat) (s : State) : Answer :=
  onTicket n (fun t => t.state == .payFault) (fun t =>
    let r := t.remainder s.disp
    if t.account.val = 0 then refuse .walkIn s
    else if !s.accounts[t.account].fits r then refuse .accountFull s
    else
      let s' := (s.setAccount t.account (s.accounts[t.account].post r)).settle
        (t.withProgress fun q => { q with converted := r })
      okay (.resolved n (s'.slotState n) (t.paidValue s.disp) r none) s') s

/-- Resolve with MANUAL (R133). -/
def resolveManual (n : Nat) (s : State) : Answer :=
  onTicket n (fun t => t.state == .payFault) (fun t =>
    let r := t.remainder s.disp
    let s' := s.settle (t.withProgress fun q => { q with manual := r })
    okay (.resolved n (s'.slotState n) (t.paidValue s.disp) r none) s') s

/-! ### The log -/

/-- Peek Log (R138). -/
def peekLog (s : State) : Answer := okay (.peek s.log.head? s.log.length s.waiting.length) s

/-- The oldest waiting ticket's record joins the log, if a ticket waits (R139). -/
def State.admitWaiting (s : State) : State :=
  match s.waiting with
  | [] => s
  | n :: rest =>
    match s.ticket? n with
    | some t =>
      match t.record with
      | some r => State.enterLog r (State.dropTicket n { s with waiting := rest })
      | none => { s with waiting := rest }
    | none => { s with waiting := rest }

/-- Take Log (R139). -/
def takeLog (n : Nat) (s : State) : Answer :=
  match s.log with
  | [] => { state := s, result := .mismatch, body := .oldest none }
  | r :: rest =>
    if r.number = n then
      let s' := State.admitWaiting { s with log := rest }
      okay (.logCount s'.log.length) s'
    else { state := s, result := .mismatch, body := .oldest (some r.number) }

/-- AUTHORISE (R123). -/
def execAuthorise (src : Source) (n means amount : Nat) (s : State) : Host.Outcome State Fault Refusal :=
  request src (.authorise src n means amount) .auth (authorise n means amount) s

/-- REVOKE (R129). -/
def execRevoke (src : Source) (n : Nat) (s : State) : Host.Outcome State Fault Refusal :=
  request src (.revoke src n) .rvok (revoke n) s

/-- RESOLVE_RETRY (R132). -/
def execResolveRetry (src : Source) (n : Nat) (s : State) : Host.Outcome State Fault Refusal :=
  request src (.resolveRetry src n) .rslv (resolveRetry n) s

/-- RESOLVE_CONVERT (R133). -/
def execResolveConvert (src : Source) (n : Nat) (s : State) : Host.Outcome State Fault Refusal :=
  request src (.resolveConvert src n) .rslv (resolveConvert n) s

/-- RESOLVE_MANUAL (R133). -/
def execResolveManual (src : Source) (n : Nat) (s : State) : Host.Outcome State Fault Refusal :=
  request src (.resolveManual src n) .rslv (resolveManual n) s

/-- PEEK_LOG (R138). -/
def execPeekLog (src : Source) (s : State) : Host.Outcome State Fault Refusal :=
  request src (.peekLog src) .peek peekLog s

/-- TAKE_LOG (R139). -/
def execTakeLog (src : Source) (n : Nat) (s : State) : Host.Outcome State Fault Refusal :=
  request src (.takeLog src n) .take (takeLog n) s

end Sys2Proof.Machine
end

