-- ==== Sys2Proof/Machine/Tickets.lean ====
section
/-! DEFINITION. The ticket table (Section 3): opening, attachment, closing, holds, Reopen, Void, limits and reading. -/

namespace Sys2Proof.Machine

/-- A lane number names a lane (0.7). -/
def laneFits (lane : Nat) : Bool := lane < 10

/-- A list of lanes an Open Ticket may carry: at most 4, each 0 to 9, none twice (R42). -/
def lanesFit (lanes : List Nat) : Bool :=
  decide (lanes.length ≤ Config.attachmentSlots) && lanes.all laneFits && decide lanes.Nodup

/-- The ticket an Open Ticket makes (R42). -/
def State.newTicket (a : AccountId) (lanes : List Nat) (s : State) : Ticket :=
  { number := s.takenNumber
    account := a
    state := .opened
    attachments := lanes.map fun l => { lane := l, taken := 0 }
    holds := []
    saturated := false
    forced := false
    duplicates := 0
    untagged := 0
    unrecorded := 0
    watchedTag := none
    lines := []
    closeDeadline := none
    figures := none
    reservation := none
    authorisation := none
    progress := none
    outcome := none
    openedAt := s.stamp
    valuedAt := none
    settledAt := none
    record := none }

/-- Open Ticket (R42). -/
def openTicket (a : AccountId) (lanes : List Nat) (s : State) : Answer :=
  if s.accounts[a].state = .unused then refuse .unknownAccount s
  else if !lanesFit lanes then refuse .badValue s
  else if lanes.any fun l => (s.feeding l).isSome then refuse .laneBusy s
  else if Config.ticketSlots ≤ s.tickets.length then refuse .tableFull s
  else
    let t := s.newTicket a lanes
    okay (.ticketState t.number .opened)
      { s with tickets := s.tickets ++ [t], nextNumber := nextTicketNumber t.number }

/-- A lane may join a ticket: a station lane while it is OPEN or CLOSING, a pulse lane while it is OPEN (R43). -/
def Ticket.mayAttach (lane : Nat) (t : Ticket) : Bool :=
  t.state == .opened || (t.state == .closing && isStationLane lane)

/-- Attach Lane (R43). -/
def attachLane (n lane : Nat) (s : State) : Answer :=
  if !laneFits lane then refuse .badValue s
  else
    onTicket n (fun t => t.mayAttach lane) (fun t =>
      if (s.feeding lane).isSome then refuse .laneBusy s
      else if Config.attachmentSlots ≤ t.attachments.length then refuse .listFull s
      else
        okay (.ticketState n t.state)
          (s.putTicket { t with attachments := t.attachments ++ [{ lane := lane, taken := 0 }] })) s

/-- A lane's entry leaves its ticket; a CLOSING ticket that keeps no station lane is valued without force (R44, R45,
R49). -/
def State.detachLane (lane : Nat) (t : Ticket) (s : State) : State :=
  let u := t.detach lane
  if u.state = .closing ∧ !u.hasStation then s.valueTicket false u else s.putTicket u

/-- Detach Lane (R44). -/
def detachLane (n lane : Nat) (s : State) : Answer :=
  if !laneFits lane then refuse .badValue s
  else
    onTicket n Ticket.takesArrivals (fun t =>
      if !t.attached lane then refuse .noTicket s
      else
        let s' := s.detachLane lane t
        okay (.detached n (s'.slotState n) (t.takenOn lane)) s') s

/-- The pulse lanes of a closed ticket leave its attachment list (R46). -/
def Ticket.dropPulseLanes (t : Ticket) : Ticket :=
  { t with attachments := t.attachments.filter fun e => isStationLane e.lane }

/-- A ticket enters CLOSING: at the tail of the closing order, with its close wait started (R47). -/
def State.startClosing (t : Ticket) (s : State) : State :=
  let s' := s.putTicket { t with state := .closing, closeDeadline := some (s.now + 1000 * s.closeWait) }
  { s' with closingOrder := s'.closingOrder ++ [t.number] }

/-- Close Ticket (R46, R47). -/
def closeTicket (n : Nat) (s : State) : Answer :=
  onTicket n (fun t => t.state == .opened) (fun t =>
    let u := t.dropPulseLanes
    if u.hasStation then okay (.closed n .closing none) (s.startClosing u)
    else okay (.closed n .valued (some (s.valuedTicket false u).total)) (s.valueTicket false u)) s

/-- The ticket a Reopen leaves (R57). -/
def Ticket.reopened (t : Ticket) : Ticket :=
  { t with
    state := .opened
    attachments := []
    holds := dropHolds [.forcedClose, .overLimit, .accountBlocked] t.holds
    saturated := false
    forced := false
    figures := none
    reservation := none
    valuedAt := none }

/-- Reopen (R57). -/
def reopen (n : Nat) (s : State) : Answer :=
  onTicket n (fun t => t.state == .valued) (fun t =>
    okay (.ticketState n .opened) ((s.restoreTicket t).putTicket t.reopened)) s

/-- A ticket may be voided from OPEN, CLOSING and VALUED (R58). -/
def Ticket.voidable (t : Ticket) : Bool := t.state == .opened || t.state == .closing || t.state == .valued

/-- The effect of a Void (R58). -/
def State.voidTicket (t : Ticket) (s : State) : State :=
  let s' := State.leaveClosing t.number (s.restoreTicket t)
  let u := { t with
    state := .settled
    attachments := []
    closeDeadline := none
    outcome := some .voided
    settledAt := some s.stamp }
  s'.finish u (voidedRecord u s.accounts[t.account].customer s.stamp)

/-- Void (R58). -/
def voidTicket (n : Nat) (s : State) : Answer :=
  onTicket n Ticket.voidable (fun t =>
    let s' := s.voidTicket t
    okay (.ticketState n (s'.slotState n)) s') s

/-- The reasons a Release names, when each code is one and there are at most 5 (R56, R195). -/
def reasonsOf (codes : List Nat) : Option (List HoldReason) :=
  if codes.length ≤ 5 then codes.mapM HoldReason.ofCode else none

/-- Release (R56). -/
def release (n : Nat) (codes : List Nat) (s : State) : Answer :=
  match reasonsOf codes with
  | none => refuse .badValue s
  | some rs =>
    onTicket n Ticket.voidable (fun t =>
      if rs.contains .accountBlocked && s.accounts[t.account].state == .blocked then refuse .accountBlocked s
      else
        okay (.released n t.state (dropHolds rs t.holds)) (s.putTicket { t with holds := dropHolds rs t.holds })) s

/-- Set Limits (R60). -/
def setLimits (threshold closeWait : Nat) (s : State) : Answer :=
  if threshold ≤ Config.moneyMax && inRange 5 600 closeWait then
    okay (.limits threshold closeWait) { s with reviewThreshold := threshold, closeWait := closeWait }
  else refuse .badValue s

/-- Read Ticket with number 0: the table in opening order (R62). -/
def readTicketTable (s : State) : Answer :=
  okay (.table (s.tickets.map fun t => { number := t.number, account := t.account, state := t.state, holds := t.holds })) s

/-- Read Ticket (R61, R62). -/
def readTicket (n : Nat) (s : State) : Answer :=
  if n = 0 then readTicketTable s
  else
    match s.ticket? n with
    | none => refuse .unknownTicket s
    | some t => okay (.ticket t (s.waitSeconds t)) s

/-- OPEN_TICKET (R42). -/
def execOpenTicket (src : Source) (a : AccountId) (lanes : List Nat) (s : State) : Host.Outcome State Fault Refusal :=
  request src (.openTicket src a lanes) .open_ (openTicket a lanes) s

/-- ATTACH_LANE (R43). -/
def execAttachLane (src : Source) (n lane : Nat) (s : State) : Host.Outcome State Fault Refusal :=
  request src (.attachLane src n lane) .atch (attachLane n lane) s

/-- DETACH_LANE (R44). -/
def execDetachLane (src : Source) (n lane : Nat) (s : State) : Host.Outcome State Fault Refusal :=
  request src (.detachLane src n lane) .dtch (detachLane n lane) s

/-- CLOSE_TICKET (R46). -/
def execCloseTicket (src : Source) (n : Nat) (s : State) : Host.Outcome State Fault Refusal :=
  request src (.closeTicket src n) .clos (closeTicket n) s

/-- REOPEN (R57). -/
def execReopen (src : Source) (n : Nat) (s : State) : Host.Outcome State Fault Refusal :=
  request src (.reopen src n) .ropn (reopen n) s

/-- VOID (R58). -/
def execVoid (src : Source) (n : Nat) (s : State) : Host.Outcome State Fault Refusal :=
  request src (.void src n) .void (voidTicket n) s

/-- RELEASE (R56). -/
def execRelease (src : Source) (n : Nat) (codes : List Nat) (s : State) : Host.Outcome State Fault Refusal :=
  request src (.release src n codes) .rels (release n codes) s

/-- SET_LIMITS (R60). -/
def execSetLimits (src : Source) (threshold closeWait : Nat) (s : State) : Host.Outcome State Fault Refusal :=
  request src (.setLimits src threshold closeWait) .slim (setLimits threshold closeWait) s

/-- READ_TICKET (R61). -/
def execReadTicket (src : Source) (n : Nat) (s : State) : Host.Outcome State Fault Refusal :=
  request src (.readTicket src n) .rtkt (readTicket n) s

/-- READ_TICKET_TABLE (R62). -/
def execReadTicketTable (src : Source) (s : State) : Host.Outcome State Fault Refusal :=
  request src (.readTicketTable src) .rtkt readTicketTable s

/-- CLOSE_WAIT_EXPIRY (R50): the close wait of a CLOSING ticket reaches 0, its lanes are detached, and it is given a forced
valuation. -/
def execCloseWaitExpiry (n : Nat) (s : State) : Host.Outcome State Fault Refusal :=
  match s.ticket? n with
  | some t =>
    retainedEvent (s.on && t.state == .closing)
      (fun s => (s.reach (t.closeDeadline.getD s.now)).valueTicket true { t with attachments := [] }) s
  | none => done s

end Sys2Proof.Machine
end

