-- ==== Sys2Proof/Machine/Tally.lean ====
section
/-! DEFINITION. Arrivals, tally lines and keg tags (Section 4): the Arrive request, the placement that station arrivals,
pulse edges and Assign Strays share (R80), Lane Done, Lane Query and the watch list. -/

namespace Sys2Proof.Machine

/-! ### Tally lines -/

/-- A new line: the class, all cells 0, no bottles and no clamps (R75). -/
def Line.fresh (c : ClassId) : Line :=
  { cls := c, good := 0, damaged := 0, foreignGood := 0, foreignDamaged := 0, bottles := 0, clamps := 0 }

/-- The line's total item count: the sum of its four cells (R72). -/
def Line.total (l : Line) : Nat := l.good + l.damaged + l.foreignGood + l.foreignDamaged

/-- The cell of an origin and condition (R76). -/
def Line.cell (o : Origin) (k : Condition) (l : Line) : Nat :=
  match o, k with
  | .own, .good => l.good
  | .own, .damaged => l.damaged
  | .foreign, .good => l.foreignGood
  | .foreign, .damaged => l.foreignDamaged

/-- The cell of an origin and condition takes `n` more items; the other three are not touched (R76). -/
def Line.addItems (o : Origin) (k : Condition) (n : Nat) (l : Line) : Line :=
  match o, k with
  | .own, .good => { l with good := l.good + n }
  | .own, .damaged => { l with damaged := l.damaged + n }
  | .foreign, .good => { l with foreignGood := l.foreignGood + n }
  | .foreign, .damaged => { l with foreignDamaged := l.foreignDamaged + n }

/-- The ticket's line for a class (R75). -/
def Ticket.line? (c : ClassId) (t : Ticket) : Option Line := t.lines.find? fun l => l.cls == c

/-- The line an arrival of a class is aimed at: the ticket's line, or a line of all-0 cells (R75). -/
def Ticket.lineFor (c : ClassId) (t : Ticket) : Line := (t.line? c).getD (Line.fresh c)

/-- The ticket has no line for the class and already has 8 lines (step 5 of R68, R75). -/
def Ticket.linesFull (c : ClassId) (t : Ticket) : Bool :=
  (t.line? c).isNone && Config.lineSlots ≤ t.lines.length

/-- The cell and the quantity would exceed 9,999 (step 6 of R68, R76). -/
def Ticket.cellFull (c : ClassId) (o : Origin) (k : Condition) (n : Nat) (t : Ticket) : Bool :=
  Config.cellMax < (t.lineFor c).cell o k + n

/-- Replaces the line of its class, or adds it at the tail of the line list (R75). -/
def putLine (l : Line) : List Line → List Line
  | [] => [l]
  | x :: xs => if x.cls = l.cls then l :: xs else x :: putLine l xs

/-- The bottle allowance of an arrival: the quantity times S for a CRATE class, and 0 for the others (R77, R69). -/
def allowance (r : ClassRecord) (n : Nat) : Nat := if r.kind = .crate then n * r.slots else 0

/-- The bottles counted: those carried, at most the allowance (R77). -/
def bottlesCounted (r : ClassRecord) (n carried : Nat) : Nat := min carried (allowance r n)

/-- An arrival of a CRATE class is clamped when it carries more bottles than its allowance (R78). -/
def isClamped (r : ClassRecord) (n carried : Nat) : Bool := r.kind == .crate && decide (allowance r n < carried)

/-- A placement (R80): steps 1 to 3 of R71, with the clamp counter of R78. -/
def Ticket.placeItems (r : ClassRecord) (c : ClassId) (o : Origin) (k : Condition) (n carried : Nat) (t : Ticket) :
    Ticket :=
  let l := (t.lineFor c).addItems o k n
  let l' := { l with
    bottles := l.bottles + bottlesCounted r n carried
    clamps := if isClamped r n carried then satAdd 255 l.clamps 1 else l.clamps }
  { t with lines := putLine l' t.lines }

/-! ### Keg tags -/

/-- The keg tag list's entry for a tag (R68, R81). -/
def State.tagEntry? (tag : Nat) (s : State) : Option TagEntry := s.tags.find? fun e => e.tag == tag

/-- A carried tag is recorded at the tail of the list, or counted as unrecorded with TAG_LIST_FULL (R82). -/
def State.recordTag (tag : Nat) (lane : StationLane) (t : Ticket) (s : State) : Ticket × State :=
  if s.tags.length < Config.tagSlots then
    (t, { s with tags := s.tags ++ [{ tag := tag, ticket := t.number, lane := lane, stamp := s.stamp }] })
  else ({ t with unrecorded := satAdd 9999 t.unrecorded 1 }, s.tellOffice .tagListFull)

/-- A carried tag on the watch list sets WATCHED_TAG, and the first such tag of a ticket is kept as its watched tag
(R89). -/
def State.watchTag (tag : Nat) (t : Ticket) (s : State) : Ticket × State :=
  if s.watch.contains tag then
    ({ t.hold .watchedTag with watchedTag := some (t.watchedTag.getD tag) }, s.tellOffice .hold)
  else (t, s)

/-! ### Arrive -/

/-- Step 3 of R68: the fields an Arrive may carry together, for a class that is in use of the schedule (R69). -/
def arriveFits (r : ClassRecord) (quantity bottles : Nat) (tag : Option Nat) : Bool :=
  inRange 1 99 quantity && (r.kind != .crate || bottles ≤ 2376)
    && (tag.isNone || (r.kind == .keg && quantity ≤ 1))

/-- The effects of an accepted arrival, as one event (R71). -/
def State.acceptArrival (lane : StationLane) (c : ClassId) (o : Origin) (k : Condition) (quantity bottles : Nat)
    (tag : Option Nat) (t : Ticket) (s : State) : State :=
  let r := s.classes[c]
  let t₁ := t.placeItems r c o k quantity bottles
  let t₂ := if r.kind = .keg ∧ tag = none then { t₁ with untagged := satAdd 9999 t₁.untagged quantity } else t₁
  let p := match tag with
    | some g =>
      let q := s.recordTag g lane t₂
      q.2.watchTag g q.1
    | none => (t₂, s)
  p.2.putTicket (p.1.countArrival lane.val)

/-- The refusal of a duplicate tag (R85, R86): the duplicates counter grows, and a cross-ticket duplicate holds the
arriving ticket. -/
def State.refuseDuplicate (e : TagEntry) (t : Ticket) (s : State) : Answer :=
  let u := { t with duplicates := satAdd 255 t.duplicates 1 }
  { state := if e.ticket = t.number then s.putTicket u else State.tellOffice .hold (s.putTicket (u.hold .duplicateTag))
    result := .duplicateTag
    body := .duplicate t.number e }

/-- Steps 4 to 6 of R68, for fields that passed step 3. -/
def arriveChecked (lane : StationLane) (c : ClassId) (o : Origin) (k : Condition) (quantity bottles : Nat)
    (tag : Option Nat) (t : Ticket) (s : State) : Answer :=
  match tag.bind s.tagEntry? with
  | some e => s.refuseDuplicate e t
  | none =>
    if t.linesFull c then { state := s, result := .linesFull, body := .onTicket t.number }
    else if t.cellFull c o k quantity then
      { state := s, result := .cellFull, body := .cellFull t.number ((t.lineFor c).cell o k) }
    else
      let r := s.classes[c]
      okay
        (.accepted t.number c.val ((t.lineFor c).total + quantity) (bottlesCounted r quantity bottles)
          (isClamped r quantity bottles))
        (s.acceptArrival lane c o k quantity bottles tag t)

/-- Arrive on a lane (R68). -/
def arrive (lane : StationLane) (cls origin condition quantity bottles : Nat) (tag : Option Nat) (s : State) : Answer :=
  match s.feeding lane.val with
  | none => refuse .noTicket s
  | some t =>
    match classOf cls with
    | none => { state := s, result := .badValue, body := .onTicket t.number }
    | some c =>
      if s.classes[c].state = .unused then { state := s, result := .unknownClass, body := .onTicket t.number }
      else
        match Origin.ofCode origin, Condition.ofCode condition with
        | some o, some k =>
          if arriveFits s.classes[c] quantity bottles tag then arriveChecked lane c o k quantity bottles tag t s
          else { state := s, result := .badValue, body := .onTicket t.number }
        | _, _ => { state := s, result := .badValue, body := .onTicket t.number }

/-! ### Lane Done and Lane Query -/

/-- Lane Done (R45). -/
def laneDone (lane : StationLane) (s : State) : Answer :=
  match s.feeding lane.val with
  | none => refuse .noTicket s
  | some t => okay (.laneDone t.number (t.takenOn lane.val)) (s.detachLane lane.val t)

/-- Lane Query (R91). -/
def laneQuery (lane : StationLane) (s : State) : Answer :=
  okay (.query ((s.feeding lane.val).map fun t =>
    { number := t.number, state := t.state, taken := t.takenOn lane.val, waitSeconds := s.waitSeconds t })) s

/-- The lane of the grant in flight, for the request of its frame (R67, R169). -/
def onGrantedLane (block : StationLane → Answer) (s : State) : Answer :=
  match s.bus.grant with
  | some g => block g.lane
  | none => refuse .noTicket s

/-- ARRIVE (R68). -/
def execArrive (src : Source) (cls origin condition quantity bottles : Nat) (tag : Option Nat) (s : State) :
    Host.Outcome State Fault Refusal :=
  request src (.arrive src cls origin condition quantity bottles tag) .arrv
    (fun s => onGrantedLane (fun l => arrive l cls origin condition quantity bottles tag s) s) s

/-- LANE_DONE (R45). -/
def execLaneDone (src : Source) (s : State) : Host.Outcome State Fault Refusal :=
  request src (.laneDone src) .done (fun s => onGrantedLane (fun l => laneDone l s) s) s

/-- LANE_QUERY (R91). -/
def execLaneQuery (src : Source) (s : State) : Host.Outcome State Fault Refusal :=
  request src (.laneQuery src) .qury (fun s => onGrantedLane (fun l => laneQuery l s) s) s

/-! ### Watch list -/

/-- A tag goes before the first tag of higher rank. -/
def insertByRank (rank : Nat → Nat) (x : Nat) : List Nat → List Nat
  | [] => [x]
  | y :: ys => if rank x ≤ rank y then x :: y :: ys else y :: insertByRank rank x ys

/-- The tags in the order of a rank. -/
def orderByRank (rank : Nat → Nat) : List Nat → List Nat
  | [] => []
  | x :: xs => insertByRank rank x (orderByRank rank xs)

/-- The reply to a Watch that was taken: the list in no defined order (R88), so in the order of a free rank (log entry
8). -/
def watchReply (s : State) : Answer :=
  okay (.watch (orderByRank (Config.watchRank s.draws) s.watch)) { s with draws := s.draws + 1 }

/-- Watch with ADD (R88). -/
def watchAdd (tag : Nat) (s : State) : Answer :=
  if s.watch.contains tag then watchReply s
  else if Config.watchSlots ≤ s.watch.length then refuse .listFull s
  else watchReply { s with watch := s.watch ++ [tag] }

/-- Watch with REMOVE (R88). -/
def watchRemove (tag : Nat) (s : State) : Answer :=
  if s.watch.contains tag then watchReply { s with watch := s.watch.filter (· != tag) } else refuse .wrongState s

/-- WATCH_ADD (R88). -/
def execWatchAdd (src : Source) (tag : Nat) (s : State) : Host.Outcome State Fault Refusal :=
  request src (.watchAdd src tag) .wtch (watchAdd tag) s

/-- WATCH_REMOVE (R88). -/
def execWatchRemove (src : Source) (tag : Nat) (s : State) : Host.Outcome State Fault Refusal :=
  request src (.watchRemove src tag) .wtch (watchRemove tag) s

/-- WATCH_LIST (R88). -/
def execWatchList (src : Source) (s : State) : Host.Outcome State Fault Refusal :=
  request src (.watchList src) .wtch watchReply s

end Sys2Proof.Machine
end

