-- ==== Sys2Proof/Machine/Pulse.lean ====
section
/-! DEFINITION. Pulse lanes (Section 5): filtered transitions, counted edges and bounces, pulse arrivals and strays, the
stall monitor, Assign Strays, and Set Lane for lanes 6 to 9. -/

namespace Sys2Proof.Machine

/-! ### Edges -/

/-- Whether a transition to `blocked` is in the direction of the lane's edge field (R97). -/
def PulseLane.counting (blocked : Bool) (p : PulseLane) : Bool :=
  match p.edge with
  | .leading => blocked
  | .trailing => !blocked

/-- No last counted edge, or at least the spacing since it (R97). -/
def PulseLane.spaced (now : Nat) (p : PulseLane) : Bool :=
  match p.lastCounted with
  | none => true
  | some t => p.spacing ≤ now - t

/-- The bottles a pulse arrival carries (R98). -/
def PulseLane.bottlesFor (r : ClassRecord) (n : Nat) (p : PulseLane) : Nat :=
  match p.mode with
  | .full => n * r.slots
  | .empty => 0

/-- A counted edge that finds no place is a stray (R99). -/
def State.stray (i : PulseIx) (s : State) : State :=
  State.tellOffice .strays (s.setPulse i { s.pulse[i] with strays := satAdd 9999 s.pulse[i].strays 1 })

/-- A counted edge as one arrival (R98): counted into the OPEN ticket the lane feeds, or a stray. -/
def State.pulseArrival (i : PulseIx) (s : State) : State :=
  let p := s.pulse[i]
  match s.feeding (pulseNumber i) with
  | none => s.stray i
  | some t =>
    if t.linesFull p.cls || t.cellFull p.cls .own .good 1 then s.stray i
    else
      let r := s.classes[p.cls]
      s.putTicket ((t.placeItems r p.cls .own .good 1 (p.bottlesFor r 1)).countArrival (pulseNumber i))

/-- A counting edge: counted when the spacing allows, a bounce otherwise (R97). -/
def State.countingEdge (i : PulseIx) (s : State) : State :=
  let p := s.pulse[i]
  if p.spaced s.now then State.pulseArrival i (s.setPulse i { p with lastCounted := some s.now })
  else s.setPulse i { p with bounces := satAdd Config.countMax p.bounces 1 }

/-- The filtered level of a lane moves (R96). -/
def PulseLane.moves (blocked : Bool) (now : Nat) (p : PulseLane) : PulseLane :=
  { p with blocked := p.blocked.move Config.eyeFilterMs blocked now }

/-- The stall monitor of an enabled lane at a filtered transition (R100). -/
def PulseLane.monitor (blocked : Bool) (now : Nat) (p : PulseLane) : PulseLane :=
  if blocked then { p with blockedSince := some now } else { p with blockedSince := none, stalled := false }

/-- A filtered transition of a pulse lane (R96, R97, R100). -/
def State.peye (i : PulseIx) (blocked : Bool) (s : State) : State :=
  let p := s.pulse[i]
  if !p.enabled then s.setPulse i (p.moves blocked s.now)
  else
    let s' := s.setPulse i ((p.moves blocked s.now).monitor blocked s.now)
    if p.counting blocked then s'.countingEdge i else s'

/-- The first millisecond at which a blocked period has lasted longer than the stall time (R100). -/
def PulseLane.stallsAt (since : Nat) (p : PulseLane) : Nat := since + 1000 * p.stallTime + 1

/-- The time at which the stall monitor of an enabled lane sets the flag, once per blocked period (R100). -/
def PulseLane.stallDue (p : PulseLane) : Option Nat :=
  match p.blockedSince with
  | some since => if p.enabled && !p.stalled then some (p.stallsAt since) else none
  | none => none

/-- The stalled flag is set and STALLED is placed (R100). -/
def State.stallLane (i : PulseIx) (s : State) : State :=
  State.tellOffice .stalled (s.setPulse i { s.pulse[i] with stalled := true })

/-- Time passes up to a transition of a lane. A stall of that lane that comes within it takes effect first (R100), whether or
not its own command has come (log entry 3). -/
def State.laneElapse (i : PulseIx) (after : Nat) (s : State) : State :=
  let t := s.elapse after
  match s.pulse[i].stallDue with
  | some due => if due ≤ t.now then (t.stallLane i).sealed else t
  | none => t

/-- PEYE_TRANSITION (R96): once the inputs have settled the filtered level moves, where the 5 ms filter can let it. -/
def execPeyeTransition (i : PulseIx) (blocked : Bool) (after : Nat) (s : State) : Host.Outcome State Fault Refusal :=
  retainedEvent (s.settled && s.pulse[i].blocked.canMove blocked (s.now + after)) (fun s => (s.laneElapse i after).peye i blocked) s

/-- STALL (R100): the beam of an enabled lane has stayed blocked longer than the stall time. -/
def execStall (i : PulseIx) (s : State) : Host.Outcome State Fault Refusal :=
  match s.pulse[i].stallDue with
  | some due => retainedEvent s.on (fun s => (s.reach due).stallLane i) s
  | none => done s

/-! ### Assign Strays -/

/-- Assign Strays (R102). -/
def assignStrays (lane n : Nat) (s : State) : Answer :=
  match pulseOf lane with
  | none => refuse .badValue s
  | some i =>
    onTicket n (fun t => t.state == .opened) (fun t =>
      let p := s.pulse[i]
      if p.strays = 0 then okay (.assigned n .opened 0 (t.lineFor p.cls).total) s
      else if t.linesFull p.cls then refuse .linesFull s
      else if t.cellFull p.cls .own .good p.strays then refuse .cellFull s
      else
        let r := s.classes[p.cls]
        okay (.assigned n .opened p.strays ((t.lineFor p.cls).total + p.strays))
          ((s.setPulse i { p with strays := 0 }).putTicket
            (t.placeItems r p.cls .own .good p.strays (p.bottlesFor r p.strays)))) s

/-- ASSIGN_STRAYS (R102). -/
def execAssignStrays (src : Source) (lane n : Nat) (s : State) : Host.Outcome State Fault Refusal :=
  request src (.assignStrays src lane n) .asgn (assignStrays lane n) s

/-! ### Set Lane for pulse lanes -/

/-- The six fields a Set Lane of a pulse lane carries, in range (R104). -/
structure PulseFields where
  enabled : Bool
  cls : ClassId
  edge : Edge
  spacing : Nat
  stallTime : Nat
  mode : BottleMode

/-- Step 1 of R104. -/
def pulseFields (enabled cls edge spacing stall mode : Nat) : Option PulseFields :=
  match flagOf enabled, classOf cls, Edge.ofCode edge, BottleMode.ofCode mode with
  | some b, some c, some e, some m =>
    if inRange 20 2000 spacing && inRange 1 60 stall then
      some { enabled := b, cls := c, edge := e, spacing := spacing, stallTime := stall, mode := m }
    else none
  | _, _, _, _ => none

/-- The request disables an enabled lane, or changes the class of an enabled lane (steps 3 and 4 of R104). -/
def PulseLane.unbinds (f : PulseFields) (p : PulseLane) : Bool := p.enabled && (!f.enabled || f.cls != p.cls)

/-- The six fields written into a record (R104). -/
def PulseLane.write (f : PulseFields) (p : PulseLane) : PulseLane :=
  { p with
    enabled := f.enabled
    cls := f.cls
    edge := f.edge
    spacing := f.spacing
    stallTime := f.stallTime
    mode := f.mode }

/-- A blocked period that has already lasted longer than the stall time in force (R105). -/
def PulseLane.overdue (now : Nat) (p : PulseLane) : Bool :=
  match p.blockedSince with
  | some t => decide (1000 * p.stallTime < now - t)
  | none => false

/-- A changed stall time finds a blocked period already longer than it, and the flag clear: the flag is set and STALLED is
placed (R105). -/
def PulseLane.newlyStalled (f : PulseFields) (now : Nat) (p : PulseLane) : Bool :=
  p.enabled && f.enabled && f.stallTime != p.stallTime && !p.stalled && (p.write f).overdue now

/-- The record a Set Lane leaves (R104, R105). -/
def PulseLane.configured (f : PulseFields) (now : Nat) (p : PulseLane) : PulseLane :=
  let q := p.write f
  match p.enabled, f.enabled with
  | false, true =>
    { q with lastCounted := none, bounces := 0, stalled := false, blockedSince := if p.blocked.level then some now else none }
  | true, false => { q with lastCounted := none, stalled := false, blockedSince := none }
  | true, true => { q with stalled := q.stalled || p.newlyStalled f now }
  | false, false => q

/-- Set Lane for a pulse lane (R104). -/
def setLanePulse (i : PulseIx) (enabled cls edge spacing stall mode : Nat) (s : State) : Answer :=
  match pulseFields enabled cls edge spacing stall mode with
  | none => refuse .badValue s
  | some f =>
    let p := s.pulse[i]
    if f.enabled && s.classes[f.cls].state == .unused then refuse .unknownClass s
    else if p.unbinds f && (s.feeding (pulseNumber i)).isSome then refuse .busy s
    else if p.unbinds f && p.strays != 0 then refuse .busy s
    else
      let q := p.configured f s.now
      let t := s.setPulse i q
      okay (.pulse q) (if p.newlyStalled f s.now then t.tellOffice .stalled else t)

/-- SET_LANE_PULSE (R104). -/
def execSetLanePulse (src : Source) (i : PulseIx) (enabled cls edge spacing stall mode : Nat) (s : State) :
    Host.Outcome State Fault Refusal :=
  request src (.setLanePulse src i enabled cls edge spacing stall mode) .slan
    (setLanePulse i enabled cls edge spacing stall mode) s

end Sys2Proof.Machine
end

