-- ==== Sys2Proof/Machine/Schedule.lean ====
section
/-! DEFINITION. The deposit schedule (Section 1): Set Class, Cancel Change, Read Class, and the application of pending
changes. -/

namespace Sys2Proof.Machine

/-- Each label character of an ACTIVE or RETIRED record lies in 0x20 to 0x7E (R1, R3). -/
def labelFits (label : List Byte) : Bool := label.all fun b => inRange 0x20 0x7E b.toNat

/-- The stored form of the fields a Set Class carries (R4), or nothing when one of them is out of range (step 1 of R3). A
record carried with state UNUSED is the zero record, and its other fields are not checked. -/
def storedForm (state kind deposit foreign damage slots bottle : Nat) (label : List Byte) : Option ClassRecord :=
  match ClassState.ofCode state with
  | none => none
  | some .unused => some ClassRecord.zero
  | some st =>
    match Kind.ofCode kind with
    | none => none
    | some k =>
      if deposit ≤ 99999 && damage ≤ 100 && labelFits label && (k != .crate || (slots ≤ 24 && bottle ≤ 999)) then
        some
          { state := st
            kind := k
            deposit := deposit
            foreign := min foreign deposit
            damage := damage
            slots := if k = .crate then slots else 0
            bottle := if k = .crate then bottle else 0
            label := label }
      else none

/-- The pending entry of a class with its place from 1 (R14). -/
def pendingView (c : ClassId) : List PendingChange → Nat → Option PendingView
  | [], _ => none
  | e :: es, place =>
    if e.cls = c then some { record := e.record, day := e.day, second := e.second, place := place }
    else pendingView c es (place + 1)

/-- What a Read Class reply carries (R14, R15). -/
def State.classBody (c : ClassId) (s : State) : Body :=
  .cls c.val s.classes[c] (s.classInUse c) (pendingView c s.changes 1)

/-- A new entry goes behind every entry whose effective time is earlier than or equal to its own (R9). -/
def insertChange (e : PendingChange) : List PendingChange → List PendingChange
  | [] => [e]
  | x :: xs => if timeLe x.day x.second e.day e.second then x :: insertChange e xs else e :: x :: xs

/-- Whether a class has a pending entry. -/
def hasChange (c : ClassId) (es : List PendingChange) : Bool := es.any fun e => e.cls == c

/-- The pending entry of a class leaves the list (R9, R10). -/
def removeChange (c : ClassId) (es : List PendingChange) : List PendingChange := es.filter fun e => e.cls != c

/-- Applying the head of the list: the change is made, or dropped with CHANGE_DROPPED when it breaks the in-use rule now
(R12). -/
def State.applyChange (e : PendingChange) (rest : List PendingChange) (s : State) : State :=
  if s.breaksInUse e.cls e.record then State.tellOffice .changeDropped { s with changes := rest }
  else State.setClassRecord e.cls e.record { s with changes := rest }

/-- At most `fuel` due entries are applied one after another, head first (R11). -/
def State.applyDueN : Nat → State → State
  | 0, s => s
  | fuel + 1, s =>
    match s.changes with
    | [] => s
    | e :: rest => if s.clock.reached e.day e.second then State.applyDueN fuel (s.applyChange e rest) else s

/-- Due entries are applied until the head of the list is not due (R11). -/
def State.applyDue (s : State) : State := State.applyDueN s.changes.length s

/-- Set Class (R3, R4, R7 to R9), for a class and a stored form that passed step 1. -/
def setClassChecked (c : ClassId) (r : ClassRecord) (effective : Option (Nat × Nat)) (s : State) : Answer :=
  if s.breaksInUse c r then refuse .classInUse s
  else
    match effective with
    | none =>
      let t := s.setClassRecord c r
      okay (t.classBody c) t
    | some (day, second) =>
      if s.clock.reached day second then
        let t := s.setClassRecord c r
        okay (t.classBody c) t
      else if !hasChange c s.changes && s.changes.length ≥ Config.changeSlots then refuse .listFull s
      else
        let t := { s with
          changes := insertChange { cls := c, record := r, day := day, second := second } (removeChange c s.changes) }
        okay (t.classBody c) t

/-- The second of an effective time is in range (step 1 of R3). -/
def effectiveFits (effective : Option (Nat × Nat)) : Bool :=
  match effective with
  | none => true
  | some (_, second) => second ≤ Config.secondMax

/-- Set Class (R3). -/
def setClass (cls state kind deposit foreign damage slots bottle : Nat) (label : List Byte)
    (effective : Option (Nat × Nat)) (s : State) : Answer :=
  match classOf cls, storedForm state kind deposit foreign damage slots bottle label with
  | some c, some r => if effectiveFits effective then setClassChecked c r effective s else refuse .badValue s
  | _, _ => refuse .badValue s

/-- Cancel Change (R10). -/
def cancelChange (cls : Nat) (s : State) : Answer :=
  match classOf cls with
  | none => refuse .badValue s
  | some c =>
    if hasChange c s.changes then
      let t := { s with changes := removeChange c s.changes }
      okay (t.classBody c) t
    else refuse .wrongState s

/-- Read Class (R14). -/
def readClass (cls : Nat) (s : State) : Answer :=
  match classOf cls with
  | none => refuse .badValue s
  | some c => okay (s.classBody c) s

/-- SET_CLASS (R3). -/
def execSetClass (src : Source) (cls state kind deposit foreign damage slots bottle : Nat) (label : List Byte)
    (effective : Option (Nat × Nat)) (s : State) : Host.Outcome State Fault Refusal :=
  request src (.setClass src cls state kind deposit foreign damage slots bottle label effective) .scls
    (setClass cls state kind deposit foreign damage slots bottle label effective) s

/-- CANCEL_CHANGE (R10). -/
def execCancelChange (src : Source) (cls : Nat) (s : State) : Host.Outcome State Fault Refusal :=
  request src (.cancelChange src cls) .cchg (cancelChange cls) s

/-- READ_CLASS (R14). -/
def execReadClass (src : Source) (cls : Nat) (s : State) : Host.Outcome State Fault Refusal :=
  request src (.readClass src cls) .rcls (readClass cls) s

end Sys2Proof.Machine
end

