-- ==== Sys2Proof/Machine/Clock.lean ====
section
/-! DEFINITION. The yard clock and the crystal monitor (Section 11). -/

namespace Sys2Proof.Machine

/-- One second later: the clock holds at day 65,535, second 86,399 (R188). -/
def YardClock.tick (c : YardClock) : YardClock :=
  if c.second < Config.secondMax then { c with second := c.second + 1 }
  else if c.day < Config.dayMax then { c with day := c.day + 1, second := 0 }
  else c

/-- The oscillator time at which the second in progress is full in source REFERENCE (R188). -/
def YardClock.fullAt (c : YardClock) : Nat :=
  c.anchor + (Config.secondUnits - c.sub + (Config.unitsPerMs - 1)) / Config.unitsPerMs

/-- What is left of the sub-second count when the crystal has counted it to a full second (R188): the count starts again, but
for what it held beyond a second when it was last fixed and the part of a cycle it carries. -/
def YardClock.leftOver (c : YardClock) : Nat :=
  if Config.secondUnits ≤ c.sub then c.sub - Config.secondUnits else c.sub % Config.unitsPerCycle

/-- The crystal has counted the second full: the count is fixed again at what is left over. -/
def State.crystalSecond (s : State) : State :=
  { s with clock := { s.clock with sub := s.clock.leftOver, anchor := s.now } }

/-- The crystal has counted `cycles` cycles since the count was last fixed, and the count is fixed again with them (R188,
R190). -/
def YardClock.counted (cycles now : Nat) (c : YardClock) : YardClock :=
  { c with sub := c.sub + cycles * Config.unitsPerCycle, anchor := now }

/-- The second in progress is full: in source CRYSTAL the cycles have filled it, and in source REFERENCE the oscillator has come
to its end and goes on from there (R188). -/
def State.fullSecond (s : State) : State :=
  match s.clock.source with
  | .crystal => s.crystalSecond
  | .reference =>
    let t := s.reach s.clock.fullAt
    { t with clock := { t.clock with sub := t.subNow - Config.secondUnits, anchor := t.now } }

/-- The clock advances one second (R188). -/
def State.tickClock (s : State) : State := { s with clock := s.clock.tick }

/-- Whether the crystal keeps the clock while the part is stopped (R187, R190). DESIGN CHOICE (log entry 34): while NRST is
held the crystal alone advances the clock, in either source, and the count the oscillator had come to stands. -/
def Power.crystalKeeps : Power → Bool
  | .running _ => false
  | .resetHeld => true
  | .backup crystal => crystal

/-- CLOCK_ADVANCE (R188): the clock advances one second; while the part runs, the pending changes it reaches are applied as
part of the advance (R11). While the part is stopped the crystal alone keeps the clock (R187, R190). -/
def execClockAdvance (s : State) : Host.Outcome State Fault Refusal :=
  if s.on then retainedEvent true (fun s => s.fullSecond.tickClock.applyDue) s
  else event s.power.crystalKeeps (fun s => s.crystalSecond.tickClock) s

/-- The new time of a Set Time is later than the old (step 3 of R189). -/
def YardClock.before (c : YardClock) (day second : Nat) : Bool := !timeLe day second c.day c.second

/-- Set Time (R189). -/
def setTime (day second : Nat) (s : State) : Answer :=
  if Config.dayMax < day ∨ Config.secondMax < second then refuse .badValue s
  else
    let t := { s with clock :=
      { s.clock with
        day := day
        second := second
        sub := 0
        anchor := s.now
        suspect := s.clock.suspect && s.clock.source == .reference } }
    let u := if s.clock.before day second then t.applyDue else t
    okay (.clock u.stamp) u

/-- SET_TIME (R189). -/
def execSetTime (src : Source) (day second : Nat) (s : State) : Host.Outcome State Fault Refusal :=
  request src (.setTime src day second) .stim (setTime day second) s

/-- CRYSTAL_LOSS (R190): in source CRYSTAL no crystal edge has come for more than 4 ms; the oscillator continues the sub-second
count where the crystal left it, `cycles` cycles after it was last fixed. -/
def execCrystalLoss (cycles after : Nat) (s : State) : Host.Outcome State Fault Refusal :=
  event (s.on && s.clock.source == .crystal)
    (fun s =>
      let t := s.elapse after
      State.tellOffice .clockSuspect
        { t with clock := { t.clock.counted cycles t.now with source := .reference, suspect := true } }) s

/-- CRYSTAL_RETURN (R190): in source REFERENCE crystal edges have run for 100 ms without a gap; the sub-second count is
continued and the suspect flag stays set. -/
def execCrystalReturn (after : Nat) (s : State) : Host.Outcome State Fault Refusal :=
  event (s.on && s.clock.source == .reference)
    (fun s =>
      let t := s.elapse after
      { t with clock := { t.clock with source := .crystal, sub := t.subNow, anchor := t.now } }) s

/-- BACKUP_CRYSTAL_STOP (R190): the crystal stops on the backup supply, `cycles` cycles after the sub-second count was last
fixed; the clock stops advancing and the backup loss mark is set. -/
def execBackupCrystalStop (cycles : Nat) (s : State) : Host.Outcome State Fault Refusal :=
  event (s.power == .backup true)
    (fun s =>
      { s with
        power := .backup false
        lossMark := true
        clock := s.clock.counted cycles s.now }) s

end Sys2Proof.Machine
end

