-- ==== Sys2Proof/Machine/Dispenser.lean ====
section
/-! DEFINITION. The cash dispenser (Section 8): configuration, channels and stock, taking a job, the note and coin phases,
faults, completion, and strays. -/

namespace Sys2Proof.Machine

/-! ### Configuration, Refill and Clear Channel -/

/-- Step 1 of R144: every setting in its range, Uc at most Un, and Un a whole multiple of Uc. -/
def settingsFit (v : DispenserSettings) : Bool :=
  inRange 100 100000 v.un && inRange 1 v.un v.uc && v.un % v.uc == 0 && inRange 20 500 v.vendPulse
    && inRange 500 10000 v.jamTime && inRange 10 500 v.doublePick && inRange 0 9999 v.noteLow
    && inRange 0 65535 v.coinLow

/-- Cash is unpaid: a job waits, a ticket is PAYING, or a ticket is in PAY_FAULT (step 2 of R144). -/
def State.cashOpen (s : State) : Bool :=
  !s.queue.isEmpty || s.tickets.any fun t => t.state == .paying || t.state == .payFault

/-- Set Dispenser (R144). -/
def setDispenser (v : DispenserSettings) (s : State) : Answer :=
  if !settingsFit v then refuse .badValue s
  else if s.cashOpen then refuse .busy s
  else
    okay (.settings v)
      (s.setDisp { s.disp with
        denoms := some (v.un, v.uc)
        vendPulse := v.vendPulse
        jamTime := v.jamTime
        doublePick := v.doublePick
        noteLow := v.noteLow
        coinLow := v.coinLow })

/-- The highest stock of a channel (Table 8-3). -/
def stockMax : Channel → Nat
  | .notes => 9999
  | .coins => 65535

/-- The channel record a Refill leaves (R146). -/
def ChannelRecord.refilled (stock : Nat) (r : ChannelRecord) : ChannelRecord :=
  match r.state with
  | .fault => { r with stock := stock }
  | _ => ChannelRecord.rest { r with stock := stock }

/-- What a Refill or Clear Channel reply carries (R146, R147). -/
def State.channelBody (c : Channel) (s : State) : Body := .channel (s.disp.channel c) (s.disp.low c)

/-- Refill (R146). -/
def refill (channel stock : Nat) (s : State) : Answer :=
  match Channel.ofCode channel with
  | none => refuse .badValue s
  | some c =>
    if stockMax c < stock then refuse .badValue s
    else if (s.disp.channel c).state = .running then refuse .busy s
    else
      let t := s.setDisp (s.disp.setChannel c ((s.disp.channel c).refilled stock))
      okay (t.channelBody c) t

/-- Clear Channel (R147). -/
def clearChannel (channel : Nat) (s : State) : Answer :=
  match Channel.ofCode channel with
  | none => refuse .badValue s
  | some c =>
    if (s.disp.channel c).state = .fault then
      let t := s.setDisp (s.disp.setChannel c (s.disp.channel c).rest)
      okay (t.channelBody c) t
    else refuse .wrongState s

/-! ### Stock -/

/-- One unit counted out of a channel (R148): the stock falls by 1 with STOCK_LOW at the threshold, or STOCK_MISMATCH when
it stands at 0. -/
def State.decrement (c : Channel) (s : State) : State :=
  let r := s.disp.channel c
  if r.stock = 0 then s.tellOffice .stockMismatch
  else
    let t := s.setDisp (s.disp.setChannel c { r with stock := r.stock - 1 })
    if s.disp.low c < r.stock ∧ r.stock - 1 ≤ s.disp.low c then t.tellOffice .stockLow else t

/-- A READY channel whose stock has come to 0 becomes EMPTY (R148, R159). -/
def ChannelRecord.settle (r : ChannelRecord) : ChannelRecord :=
  if r.state = .ready ∧ r.stock = 0 then { r with state := .empty } else r

/-- A stray unit (R159): one decrement and DISPENSER_STRAY; it adds nothing to any ticket. -/
def State.strayUnit (c : Channel) (s : State) : State :=
  let t := s.decrement c
  State.tellOffice .dispenserStray (t.setDisp (t.disp.setChannel c (t.disp.channel c).settle))

/-- The stock of a channel whose empty detector contradicts it is set to 0 with STOCK_MISMATCH, and the channel becomes
EMPTY (R152, R154, R155). -/
def State.foundEmpty (c : Channel) (s : State) : State :=
  let t := s.setDisp (s.disp.setChannel c { state := .empty, stock := 0 })
  if (s.disp.channel c).stock = 0 then t else t.tellOffice .stockMismatch

/-! ### The paying job -/

/-- Replaces the job progress. -/
def State.setJob (j : Option JobProgress) (s : State) : State := s.setDisp { s.disp with job := j }

/-- Changes the payout progress of a ticket, which begins at zero when its first job is taken (Table 3-1). -/
def State.onProgress (n : Nat) (f : Progress → Progress) (s : State) : State :=
  match s.ticket? n with
  | some t => s.putTicket { t with progress := t.progress.map f }
  | none => s

/-- A payout progress that has counted nothing. -/
def Progress.zero : Progress :=
  { notesPaid := 0, coinsPaid := 0, retries := 0, fault := none, converted := 0, manual := 0, overpay := 0 }

/-- One note counted in the job (R150, R151): stock, job count and the ticket's notes paid. -/
def State.countNote (j : JobProgress) (s : State) : State :=
  State.setJob (some { j with notes := j.notes + 1 })
    (State.onProgress j.ticket (fun p => { p with notesPaid := p.notesPaid + 1 }) (s.decrement .notes))

/-- One coin counted in the job (R150, R154): stock, job count and the ticket's coins paid. -/
def State.countCoin (j : JobProgress) (s : State) : State :=
  State.setJob (some { j with coins := j.coins + 1 })
    (State.onProgress j.ticket (fun p => { p with coinsPaid := p.coinsPaid + 1 }) (s.decrement .coins))

/-- The job ends on a fault (R158): the ticket becomes PAY_FAULT with the cause, the progress of the job is discarded, and
PAY_FAULT and CHANNEL_FAULT are placed. -/
def State.jobFault (j : JobProgress) (cause : FaultCause) (s : State) : State :=
  let s₁ := s.setDisp { s.disp with job := none, noteVend := false, coinRun := false }
  let s₂ := match s₁.ticket? j.ticket with
    | some t => s₁.putTicket { t with state := .payFault, progress := t.progress.map fun p => { p with fault := some cause } }
    | none => s₁
  State.tellOffice .channelFault (State.tellOffice .payFault s₂)

/-- A running coin channel comes to rest (R157). -/
def Dispenser.coinRest (d : Dispenser) : Dispenser :=
  if d.coin.state = .running then { d with coin := d.coin.rest } else d

/-- The job completes (R157): a running coin channel comes to rest, the progress is discarded, and the ticket settles. -/
def State.jobComplete (j : JobProgress) (s : State) : State :=
  let s₁ := s.setDisp { s.disp.coinRest with job := none, noteVend := false, coinRun := false }
  match s₁.ticket? j.ticket with
  | some t => s₁.settle t
  | none => s₁

/-- The start of the coin phase (R154). -/
def State.startCoins (j : JobProgress) (s : State) : State :=
  if s.disp.coin.stock = 0 ∨ s.disp.coinEmpty.level then State.jobFault j .coinEmpty (s.foundEmpty .coins)
  else
    s.setDisp { s.disp with
      coin := { s.disp.coin with state := .running }
      coinRun := true
      job := some { j with phase := .coins, work := none, since := s.now } }

/-- The coin target at the end of the note phase (R153). -/
def JobProgress.coinTarget (un uc : Nat) (j : JobProgress) : Nat := (j.amount - j.notes * un) / uc

/-- The end of the note phase without fault (R153). -/
def State.endNotes (j : JobProgress) (s : State) : State :=
  let j' := { j with target := j.coinTarget s.disp.un s.disp.uc, work := none }
  let s' := s.setDisp { s.disp with note := s.disp.note.rest, noteVend := false, job := some j' }
  if 0 < j'.target then s'.startCoins j' else s'.jobComplete j'

/-- NOTE_VEND is driven for a vend (step 3 of R151). -/
def State.driveVend (j : JobProgress) (s : State) : State :=
  s.setDisp { s.disp with noteVend := true, job := some { j with work := some (.vend s.now .awaited) } }

/-- A vend is due (steps 1 and 2 of R151): it is refused on an empty store, waits for NOTE_EXIT, or is driven. -/
def State.startVend (j : JobProgress) (s : State) : State :=
  if s.disp.note.stock = 0 ∨ s.disp.noteEmpty.level then State.jobFault j .noteEmpty (s.foundEmpty .notes)
  else if s.disp.noteExit.level then s.setJob (some { j with work := some (.waitClear s.now) })
  else s.driveVend j

/-- After a vend and its exit pulse have ended: the next vend, or the end of the note phase (R151). -/
def State.afterVend (j : JobProgress) (s : State) : State :=
  if j.notes < j.plannedNotes then s.startVend j else s.endNotes j

/-- The empty detectors are read through their 20 ms filters at a moment a rule names (R143; log entry 11). -/
def State.sampleEmpties (e : Empties) (s : State) : State :=
  s.setDisp { s.disp with
    noteEmpty := s.disp.noteEmpty.read Config.emptyFilterMs e.note s.now
    coinEmpty := s.disp.coinEmpty.read Config.emptyFilterMs e.coin s.now }

/-! ### Taking a job -/

/-- A job can run: each channel it needs is READY (R149). -/
def PayoutJob.runnable (d : Dispenser) (j : PayoutJob) : Bool :=
  (j.notes == 0 || d.note.state == .ready) && (j.coins == 0 || d.coin.state == .ready)

/-- The controller is idle while no ticket is PAYING (8.4). -/
def State.idle (s : State) : Bool := s.disp.job.isNone && s.tickets.all fun t => t.state != .paying

/-- The job progress set up when a job is taken (R150). -/
def PayoutJob.begin (j : PayoutJob) : JobProgress :=
  { ticket := j.ticket, amount := j.amount, plannedNotes := j.notes, plannedCoins := j.coins, phase := .notes, notes := 0
    coins := 0, target := 0, fault := none, work := none, since := 0 }

/-- The ticket of a taken job becomes PAYING and has a payout progress from then on (R149, Table 3-1). -/
def Ticket.startPaying (t : Ticket) : Ticket :=
  { t with state := .paying, progress := some (t.progress.getD Progress.zero) }

/-- Taking the head job (R149). A job without notes goes to the coin phase with its planned coins as target. -/
def State.takeJob (j : PayoutJob) (rest : List PayoutJob) (s : State) : State :=
  let s₁ := { s with queue := rest }
  let s₂ := match s₁.ticket? j.ticket with
    | some t => s₁.putTicket t.startPaying
    | none => s₁
  if 0 < j.notes then
    let s₃ := s₂.setDisp { s₂.disp with note := { s₂.disp.note with state := .running }, job := some j.begin }
    s₃.startVend j.begin
  else
    let p := { j.begin with phase := .coins, target := j.coins }
    State.startCoins p (s₂.setJob (some p))

/-- JOB_TAKE (R149): the idle controller takes the head job once the channels it needs are READY and the inputs have
settled (R161). -/
def execJobTake (e : Empties) (s : State) : Host.Outcome State Fault Refusal :=
  match s.queue with
  | [] => done s
  | j :: rest =>
    retainedEvent (s.settled && s.idle && j.runnable s.disp) (fun s => State.takeJob j rest (s.sampleEmpties e)) s

/-! ### Note phase -/

/-- The paying job while it is in the note phase. -/
def Dispenser.noteJob (d : Dispenser) : Option JobProgress :=
  match d.job with
  | some j => if j.phase = .notes then some j else none
  | none => none

/-- The vend pulse ends: NOTE_VEND is off, and once the exit pulse has ended too the empty detectors are read for what
follows (R151). -/
def State.vendEnds (e : Empties) (j : JobProgress) (s : State) : State :=
  match j.work with
  | some (.vend start exit) =>
    let s₁ := s.reach (start + s.disp.vendPulse)
    let s₂ := s₁.setDisp { s₁.disp with noteVend := false }
    if exit = .gone then (s₂.sampleEmpties e).afterVend j else s₂
  | _ => s

/-- The last millisecond within the jam time of the wait the note phase is in (R151, R152): for NOTE_EXIT to clear, for the
exit pulse to start, or for it to end. -/
def NoteWork.limit (jamTime : Nat) : NoteWork → Option Nat
  | .waitClear since => some (since + jamTime)
  | .vend start .awaited => some (start + jamTime)
  | .vend _ (.passing since) => some (since + jamTime)
  | .vend _ .gone => none

/-- A note jam (R152): the millisecond after the limit comes, the note channel becomes FAULT and the job ends. -/
def State.noteJams (j : JobProgress) (limit : Nat) (s : State) : State :=
  let s₁ := s.reach (limit + 1)
  State.jobFault j .noteJam (s₁.setDisp { s₁.disp with note := { s₁.disp.note with state := .fault } })

/-! ### Coin phase and run-on window -/

/-- COIN_RUN is switched off and the run-on window opens, with or without a coin fault held (R154 to R156). -/
def State.openRunOn (j : JobProgress) (cause : Option FaultCause) (s : State) : State :=
  s.setDisp { s.disp with
    coinRun := false
    job := some { j with phase := .runOn, fault := cause, since := s.now } }

/-- The paying job while it is in the coin phase. -/
def Dispenser.coinJob (d : Dispenser) : Option JobProgress :=
  match d.job with
  | some j => if j.phase = .coins then some j else none
  | none => none

/-- A gap exceeds the jam time; COIN_JAM is held and the run-on window opens (R154, R155). -/
def State.coinGapEnds (j : JobProgress) (s : State) : State :=
  State.openRunOn j (some .coinJam) (s.reach (j.since + s.disp.jamTime + 1))

/-- The coin channel at the end of a run-on window that holds a fault (R155). -/
def State.endCoinFault (cause : FaultCause) (s : State) : State :=
  match cause with
  | .coinEmpty => s.foundEmpty .coins
  | _ => s.setDisp { s.disp with coin := { s.disp.coin with state := .fault } }

/-- The run-on window ends; the job completes, or ends on its held coin fault (R156). -/
def State.runOnEnds (j : JobProgress) (s : State) : State :=
  let s₁ := s.reach (j.since + Config.runOnMs)
  match j.fault with
  | none => s₁.jobComplete j
  | some cause => State.jobFault j cause (s₁.endCoinFault cause)

/-! ### The controller's own timers -/

/-- The timers of a paying job (R151, R152, R154, R156). -/
inductive DispenserTimer where
  | vendEnd | noteJam | coinGap | runOn
deriving DecidableEq, Repr

/-- The timer of the paying job that ends next, and the last millisecond that lies within it. A vend pulse is no longer than
the jam time (Table 8-2), so it ends before a jam. -/
def JobProgress.timer (d : Dispenser) (j : JobProgress) : Option (DispenserTimer × Nat) :=
  match j.phase, j.work with
  | .notes, some (.vend start exit) =>
    if d.noteVend then some (.vendEnd, start + d.vendPulse)
    else ((NoteWork.vend start exit).limit d.jamTime).map fun m => (.noteJam, m)
  | .notes, some w => (w.limit d.jamTime).map fun m => (.noteJam, m)
  | .notes, none => none
  | .coins, _ => some (.coinGap, j.since + d.jamTime)
  | .runOn, _ => some (.runOn, j.since + Config.runOnMs)

/-- The levels of the empty detectors as they were last read. -/
def Dispenser.empties (d : Dispenser) : Empties := { note := d.noteEmpty.level, coin := d.coinEmpty.level }

/-- What the end of a timer does. A vend pulse whose end a later event passes reads the empty detectors as they were last read
(log entry 11). -/
def State.timerEnds (k : DispenserTimer) (m : Nat) (j : JobProgress) (s : State) : State :=
  match k with
  | .vendEnd => s.vendEnds s.disp.empties j
  | .noteJam => s.noteJams j m
  | .coinGap => s.coinGapEnds j
  | .runOn => s.runOnEnds j

/-- The timers that end before time `t`, one after another. At most three can: a vend pulse, and the next vend's pulse and
jam, or a coin gap and its run-on window. -/
def State.dispenserTimers : Nat → Nat → State → State
  | 0, _, s => s
  | fuel + 1, t, s =>
    match s.disp.job with
    | none => s
    | some j =>
      match j.timer s.disp with
      | none => s
      | some (k, m) => if m < t then State.dispenserTimers fuel t (s.timerEnds k m j).sealed else s

/-- Time passes up to an event at the dispenser's inputs. A timer of the paying job that ends within it takes effect first
(R151, R152, R154, R156), whether or not its own command has come (log entry 3). -/
def State.dispenserElapse (after : Nat) (s : State) : State :=
  (State.dispenserTimers 3 (s.now + after) s).reach (s.now + after)

/-! ### Timer events -/

/-- NOTE_VEND_END (R151): the vend pulse ends, and the next vend or the end of the phase follows if the exit pulse has
ended too. -/
def execNoteVendEnd (e : Empties) (s : State) : Host.Outcome State Fault Refusal :=
  match s.disp.noteJob with
  | some j => retainedEvent (s.on && s.disp.noteVend) (State.vendEnds e j) s
  | none => done s

/-- NOTE_JAM_TIMEOUT (R152): the jam time passes in the note phase; the note channel becomes FAULT and the job ends. -/
def execNoteJamTimeout (s : State) : Host.Outcome State Fault Refusal :=
  match s.disp.noteJob with
  | some j =>
    match j.work.bind (NoteWork.limit s.disp.jamTime) with
    | some m => retainedEvent s.on (State.noteJams j m) s
    | none => done s
  | none => done s

/-- COIN_GAP_TIMEOUT (R154, R155): a gap exceeds the jam time; COIN_JAM is held and the run-on window opens. -/
def execCoinGapTimeout (s : State) : Host.Outcome State Fault Refusal :=
  match s.disp.coinJob with
  | some j => retainedEvent s.on (State.coinGapEnds j) s
  | none => done s

/-- RUN_ON_END (R156): the run-on window ends; the job completes, or ends on its held coin fault. -/
def execRunOnEnd (s : State) : Host.Outcome State Fault Refusal :=
  match s.disp.job with
  | some j => retainedEvent (s.on && j.phase == .runOn) (State.runOnEnds j) s
  | none => done s

/-! ### Input events -/

/-- The filtered level of NOTE_EXIT changes (R143). A pulse found at a start has ended with the first change. -/
def Dispenser.noteExitMoves (level : Bool) (now : Nat) (d : Dispenser) : Dispenser :=
  { d with noteExit := d.noteExit.move Config.exitFilterMs level now, noteFound := false }

/-- COIN_EXIT, and COIN_EMPTY, before it becomes asserted: clear, by a change that no command tells (log entry 12). -/
def Dispenser.coinExitClear (d : Dispenser) : FilteredInput := d.coinExit.cleared Config.exitFilterMs
@[inherit_doc Dispenser.coinExitClear]
def Dispenser.coinEmptyClear (d : Dispenser) : FilteredInput := d.coinEmpty.cleared Config.emptyFilterMs

/-- The filtered level of COIN_EXIT becomes asserted (R143). -/
def Dispenser.coinExitStarts (now : Nat) (d : Dispenser) : Dispenser :=
  { d with coinExit := d.coinExitClear.move Config.exitFilterMs true now }

/-- The filtered level of COIN_EMPTY becomes asserted (R143). -/
def Dispenser.coinEmptyStarts (now : Nat) (d : Dispenser) : Dispenser :=
  { d with coinEmpty := d.coinEmptyClear.move Config.emptyFilterMs true now }

/-- NOTE_EXIT_START (R151): a note exit pulse starts. It is the exit of the vend that awaits one, since a vend whose jam time
has passed is a jam by now; otherwise it is counted as a stray when it ends (R159). -/
def execNoteExitStart (after : Nat) (s : State) : Host.Outcome State Fault Refusal :=
  retainedEvent (s.settled && s.disp.noteExit.canMove true (s.now + after))
    (fun s =>
      let s₁ := s.dispenserElapse after
      let s₂ := s₁.setDisp (s₁.disp.noteExitMoves true s₁.now)
      match s₂.disp.noteJob with
      | some j =>
        match j.work with
        | some (.vend start .awaited) => s₂.setJob (some { j with work := some (.vend start (.passing s₂.now)) })
        | _ => s₂
      | none => s₂) s

/-- The exit pulse of a vend ends: one note, or two when it is wider than the double-pick threshold (step 5 of R151). -/
def State.countExit (start since : Nat) (j : JobProgress) (s : State) : State :=
  let j₀ := { j with work := some (.vend start .gone) }
  let s₁ := s.countNote j₀
  let j₁ := { j₀ with notes := j.notes + 1 }
  if s.disp.doublePick < s.now - since then s₁.countNote j₁ else s₁

/-- A pulse that is no vend's exit ends: a stray note (R159), unless the pulse was in progress through a start, which is not
counted (R161; log entry 9). -/
def State.loosePulse (found : Bool) (s : State) : State := if found then s else s.strayUnit .notes

/-- NOTE_EXIT_END (R151): the exit pulse ends. A vend's exit is counted, and the next vend or the end of the phase follows
once the vend pulse has ended; any other pulse is a stray, and a vend that waited for it is driven (R159; log entry 10). -/
def execNoteExitEnd (e : Empties) (after : Nat) (s : State) : Host.Outcome State Fault Refusal :=
  retainedEvent (s.settled && s.disp.noteExit.canMove false (s.now + after))
    (fun s =>
      let s₁ := s.dispenserElapse after
      let s₂ := s₁.setDisp (s₁.disp.noteExitMoves false s₁.now)
      match s₂.disp.noteJob with
      | some j =>
        match j.work with
        | some (.vend start (.passing since)) =>
          let s₃ := s₂.countExit start since j
          match s₃.disp.job with
          | some j' => if s₃.disp.noteVend then s₃ else (s₃.sampleEmpties e).afterVend j'
          | none => s₃
        | some (.waitClear _) => (s₂.loosePulse s.disp.noteFound).driveVend j
        | _ => s₂.loosePulse s.disp.noteFound
      | none => s₂.loosePulse s.disp.noteFound) s

/-- COIN_EXIT_START (R154, R156, R159): a coin counts in the coin phase and in the run-on window, and is a stray
otherwise; the coin that reaches the target stops the motor. -/
def execCoinExitStart (after : Nat) (s : State) : Host.Outcome State Fault Refusal :=
  retainedEvent (s.settled && s.disp.coinExitClear.canMove true (s.now + after))
    (fun s =>
      let s₀ := s.dispenserElapse after
      let s₁ := s₀.setDisp (s₀.disp.coinExitStarts s₀.now)
      match s₁.disp.job with
      | some j =>
        match j.phase with
        | .notes => s₁.strayUnit .coins
        | .coins =>
          let s₂ := s₁.countCoin { j with since := s₁.now }
          let j' := { j with since := s₁.now, coins := j.coins + 1 }
          if j'.target ≤ j'.coins then s₂.openRunOn j' none else s₂
        | .runOn => s₁.countCoin j
      | none => s₁.strayUnit .coins) s

/-- COIN_EMPTY_ASSERTED (R155): COIN_EMPTY becomes asserted; while COIN_RUN is driven, COIN_EMPTY is held and the run-on
window opens. -/
def execCoinEmptyAsserted (after : Nat) (s : State) : Host.Outcome State Fault Refusal :=
  retainedEvent (s.settled && s.disp.coinEmptyClear.canMove true (s.now + after))
    (fun s =>
      let s₁ := s.dispenserElapse after
      let s₂ := s₁.setDisp (s₁.disp.coinEmptyStarts s₁.now)
      match s₂.disp.coinJob with
      | some j => s₂.openRunOn j (some .coinEmpty)
      | none => s₂) s

/-- SET_DISPENSER (R144). -/
def execSetDispenser (src : Source) (un uc vend jam pick noteLow coinLow : Nat) (s : State) :
    Host.Outcome State Fault Refusal :=
  request src (.setDispenser src un uc vend jam pick noteLow coinLow) .sdsp
    (setDispenser
      { un := un, uc := uc, vendPulse := vend, jamTime := jam, doublePick := pick, noteLow := noteLow, coinLow := coinLow })
    s

/-- REFILL (R146). -/
def execRefill (src : Source) (channel stock : Nat) (s : State) : Host.Outcome State Fault Refusal :=
  request src (.refill src channel stock) .fill (refill channel stock) s

/-- CLEAR_CHANNEL (R147). -/
def execClearChannel (src : Source) (channel : Nat) (s : State) : Host.Outcome State Fault Refusal :=
  request src (.clearChannel src channel) .clrc (clearChannel channel) s

end Sys2Proof.Machine
end

