-- ==== Sys2Proof/Machine/Start.lean ====
section
/-! DEFINITION. Stops and starts (R192, R193): the stop, the backup supply, the choice of the start kind, the warm and cold
starts with the stops that can cut them, and the settling of the inputs. -/

namespace Sys2Proof.Machine

/-! ### Stops -/

/-- Where the part stands after a stop (R192). DESIGN CHOICE (log entry 35): a fall of the main supply leaves the crystal
running and the backup loss mark as it was, in source REFERENCE too; a crystal that does not run is then told by
BACKUP_CRYSTAL_STOP. -/
def stoppedBy : StopCause → Power
  | .supplyFell => .backup true
  | .resetLow => .resetHeld

/-- An attention line is released at a stop (R192). -/
def PortRecord.released (p : PortRecord) : PortRecord := { p with attention := false }

/-- The part stops (R192): no further event is taken, and the outputs, LBUS_DE and the attention lines are released. -/
def State.halt (cause : StopCause) (s : State) : State :=
  { s with
    power := stoppedBy cause
    disp := { s.disp with noteVend := false, coinRun := false }
    bus := { s.bus with lbusDe := false, buffer := none }
    office := s.office.released
    acctPort := s.acctPort.released
    clock := { s.clock with sub := s.subNow, anchor := s.now } }

/-- POWER_STOP (R192). A part held by NRST whose main supply falls goes over to the backup supply. -/
def execPowerStop (cause : StopCause) (s : State) : Host.Outcome State Fault Refusal :=
  if s.on then done (s.halt cause)
  else event (s.power == .resetHeld && cause == .supplyFell) (fun s => { s with power := .backup true }) s

/-- BACKUP_LOW (R192): the backup supply falls below 2.2 V with the main supply absent. -/
def execBackupLow (s : State) : Host.Outcome State Fault Refusal :=
  event (s.power == .backup true || s.power == .backup false) (fun s => { s with marker := .invalid }) s

/-! ### The start kind -/

/-- Table 11-3: the start is warm when the marker is VALID, CLEAR is open, and the retained content passes its check: it is
found as the last event left it, and the check field matches it (R192; log entry 16). -/
def State.startsWarm (found : StartFound) (s : State) : Bool :=
  s.marker == .valid && found.strap == .opened && found.intact && s.check == Config.checkOf s.retained

/-! ### Warm start -/

/-- A pulse lane at a warm start: the record kept, the working state afresh, the stalled flag clear (R106). -/
def PulseLane.warm (p : PulseLane) : PulseLane :=
  { p with stalled := false, blocked := .clear, lastCounted := none, blockedSince := none }

/-- A station lane at a warm start: priority and mark kept (R175). -/
def StationRecord.warm (r : StationRecord) : StationRecord :=
  { r with state := .active, misses := 0, lineErrors := 0, low := .clear }

/-- A channel at a warm start (R161). -/
def ChannelRecord.warm (r : ChannelRecord) : ChannelRecord := if r.state = .running then r.rest else r

/-- The dispenser at a warm start: settings, stock and channel states kept, outputs off, the job progress discarded
(R161). -/
def Dispenser.warm (d : Dispenser) : Dispenser :=
  { d with
    note := d.note.warm
    coin := d.coin.warm
    job := none
    noteVend := false
    coinRun := false
    noteExit := .clear
    noteFound := false
    coinExit := .clear
    noteEmpty := .clear
    coinEmpty := .clear }

/-- Phases 1 and 2 of a warm start: the ports take their start values, and what a block does not retain takes its warm
value (R106, R161, R175, R186, R193). -/
def State.warmBlocks (s : State) : State :=
  { s with
    pulse := s.pulse.map PulseLane.warm
    disp := s.disp.warm
    bus := { s.bus with lanes := s.bus.lanes.map StationRecord.warm, grant := none, lbusDe := false, buffer := none }
    office := PortRecord.started .warmStart
    acctPort := PortRecord.started .warmStart
    clock := { s.clock with source := .crystal, anchor := s.now }
    power := .running false }

/-- Phase 3, first: a backup loss mark sets the suspect flag, places CLOCK_SUSPECT and is cleared (R190). -/
def State.lossPhase (s : State) : State :=
  if s.lossMark then
    State.tellOffice .clockSuspect { s with clock := { s.clock with suspect := true }, lossMark := false }
  else s

/-- Phase 3, then: at most `fuel` CLOSING tickets are valued as forced closes in closing order (R64). -/
def State.forceClosesN : Nat → State → State
  | 0, s => s
  | fuel + 1, s =>
    match s.closingOrder with
    | [] => s
    | n :: _ =>
      match s.ticket? n with
      | some t => State.forceClosesN fuel (s.valueTicket true { t with attachments := [] })
      | none => State.forceClosesN fuel (s.leaveClosing n)

/-- All CLOSING tickets are valued as forced closes (R64). -/
def State.forceCloses (s : State) : State := State.forceClosesN s.closingOrder.length s

/-- Phase 3, last: a PAYING ticket becomes PAY_FAULT with cause RESTART, and PAY_FAULT is placed (R65). -/
def State.restartFault (s : State) : State :=
  match s.tickets.find? fun t => t.state == .paying with
  | none => s
  | some t =>
    State.tellOffice .payFault
      (s.putTicket { t with
        state := .payFault
        progress := t.progress.map fun p => { p with fault := some .restart } })

/-- The effect of a warm start up to the end of phase 4 (R193). -/
def State.warmStart (s : State) : State :=
  { s.warmBlocks.lossPhase.applyDue.forceCloses.restartFault with marker := .valid }

/-- The content a warm start that is cut leaves: as the last completed event left it (R193). -/
def State.warmUpTo (point : WarmPoint) (s : State) : State :=
  match point with
  | .afterPorts => s.warmBlocks
  | .afterLossMark => s.warmBlocks.lossPhase
  | .afterChanges n => State.applyDueN n s.warmBlocks.lossPhase
  | .afterCloses n => State.forceClosesN n s.warmBlocks.lossPhase.applyDue
  | .afterPaying => s.warmBlocks.lossPhase.applyDue.forceCloses.restartFault

/-- WARM_START (R193). DESIGN CHOICE (log entry 36): a part that NRST has stopped starts from there whatever the length of
the hold, since R192 stops it as soon as NRST is low. -/
def execWarmStart (found : StartFound) (cut : Option (WarmPoint × StopCause)) (s : State) :
    Host.Outcome State Fault Refusal :=
  retainedEvent (!s.on && s.startsWarm found)
    (fun s =>
      match cut with
      | none => s.warmStart
      | some (point, cause) => (s.warmUpTo point).halt cause) s

/-! ### Cold start -/

/-- The retained content of the blocks of Table 0-1 that `cleared` names, by their number there, takes its cold values. -/
def State.clearBlocks (cleared : Nat → Bool) (s : State) : State :=
  let r := State.reset
  { s with
    classes := if cleared 1 then r.classes else s.classes
    changes := if cleared 1 then r.changes else s.changes
    accounts := if cleared 2 then r.accounts else s.accounts
    residue := if cleared 2 then r.residue else s.residue
    tickets := if cleared 3 then r.tickets else s.tickets
    nextNumber := if cleared 3 then r.nextNumber else s.nextNumber
    reviewThreshold := if cleared 3 then r.reviewThreshold else s.reviewThreshold
    closeWait := if cleared 3 then r.closeWait else s.closeWait
    closingOrder := if cleared 3 then r.closingOrder else s.closingOrder
    tags := if cleared 4 then r.tags else s.tags
    watch := if cleared 4 then r.watch else s.watch
    pulse := if cleared 5 then r.pulse else s.pulse
    queue := if cleared 7 then r.queue else s.queue
    log := if cleared 7 then r.log else s.log
    waiting := if cleared 7 then r.waiting else s.waiting
    disp := if cleared 8 then r.disp else s.disp
    bus := if cleared 9 then r.bus else s.bus
    clock := if cleared 11 then r.clock else s.clock
    lossMark := if cleared 11 then r.lossMark else s.lossMark }

/-- The effect of a cold start up to the end of phase 4 (R193): every block at its cold values. The commands that wait and
the count of free values drawn are the model's own and stay. -/
def State.coldStart (s : State) : State := { State.reset with draws := s.draws, pending := s.pending }

/-- A cold start that a stop cuts: the marker INVALID and the content partly cleared (R193; log entry 17). The check field
stands as it was, since no event has been completed; with the marker INVALID no start reads it. -/
def State.coldCut (cause : StopCause) (s : State) : State :=
  State.halt cause
    { s.clearBlocks (Config.clearedByCut s.draws) with marker := .invalid, draws := s.draws + 1 }

/-- COLD_START (R193), from a stop of any length (log entry 36). -/
def execColdStart (found : StartFound) (cut : Option StopCause) (s : State) : Host.Outcome State Fault Refusal :=
  event (!s.on && !s.startsWarm found)
    (fun s =>
      match cut with
      | none => s.coldStart
      | some cause => s.coldCut cause) s

/-! ### Phase 5 -/

/-- A pulse lane's working state starts afresh from the level its input is found at: no last counted edge, the stalled flag
clear, and on an enabled lane that is found blocked the stall monitor started (R106). -/
def PulseLane.found (blocked : Bool) (now : Nat) (p : PulseLane) : PulseLane :=
  { p with
    stalled := false
    blocked := .found blocked now
    lastCounted := none
    blockedSince := if p.enabled && blocked then some now else none }

/-- The filtered levels are established (R106, R161, R175), all in one millisecond: DESIGN CHOICE (log entry 41). -/
def State.establish (v : InputLevels) (s : State) : State :=
  { s with
    power := .running true
    pulse := Vector.ofFn fun i : PulseIx => s.pulse[i].found v.blocked[i] s.now
    disp := { s.disp with
        noteExit := .found v.noteExit s.now
        noteFound := v.noteExit
        coinExit := .found v.coinExit s.now
        noteEmpty := .found v.noteEmpty s.now
        coinEmpty := .found v.coinEmpty s.now }
    bus := { s.bus with lanes := Vector.ofFn fun l : StationLane => { s.bus.lanes[l] with low := .found v.lreqLow[l] s.now } } }

/-- INPUTS_SETTLED (R193): at phase 5 the inputs settle, and the arbiter arbitrates among the lanes found requesting. From
here the dispenser controller may take the head of the payout queue (log entry 29). DESIGN CHOICE (log entry 41): all inputs settle
at this one moment, taken at any time after the start; the time of each filter, such as the 5 ms of R106, is left to the sender. -/
def execInputsSettled (v : InputLevels) (after : Nat) (s : State) : Host.Outcome State Fault Refusal :=
  retainedEvent (s.on && !s.settled) (fun s => ((s.elapse after).establish v).arbitrate) s

/-! ### Idling -/

/-- With no command waiting a millisecond of the internal oscillator passes while the part runs (log entry 1). -/
def State.idleTick (s : State) : State := if s.on then s.elapse 1 else s

end Sys2Proof.Machine
end

