-- ==== Sys2Proof/Machine/Dispatch.lean ====
section
/-! DEFINITION. One arm per command: the meaning each calls. -/

namespace Sys2Proof.Machine

def exec (i : Instr) (s : State) : Host.Outcome State Fault Refusal :=
  match i with
  | .openTicket src account lanes => Sys2Proof.Machine.execOpenTicket src account lanes s
  | .attachLane src ticket lane => Sys2Proof.Machine.execAttachLane src ticket lane s
  | .detachLane src ticket lane => Sys2Proof.Machine.execDetachLane src ticket lane s
  | .closeTicket src ticket => Sys2Proof.Machine.execCloseTicket src ticket s
  | .reopen src ticket => Sys2Proof.Machine.execReopen src ticket s
  | .void src ticket => Sys2Proof.Machine.execVoid src ticket s
  | .release src ticket reasons => Sys2Proof.Machine.execRelease src ticket reasons s
  | .setLimits src threshold closeWait => Sys2Proof.Machine.execSetLimits src threshold closeWait s
  | .readTicket src ticket => Sys2Proof.Machine.execReadTicket src ticket s
  | .readTicketTable src => Sys2Proof.Machine.execReadTicketTable src s
  | .authorise src ticket means amount => Sys2Proof.Machine.execAuthorise src ticket means amount s
  | .revoke src ticket => Sys2Proof.Machine.execRevoke src ticket s
  | .resolveRetry src ticket => Sys2Proof.Machine.execResolveRetry src ticket s
  | .resolveConvert src ticket => Sys2Proof.Machine.execResolveConvert src ticket s
  | .resolveManual src ticket => Sys2Proof.Machine.execResolveManual src ticket s
  | .assignStrays src lane ticket => Sys2Proof.Machine.execAssignStrays src lane ticket s
  | .setClass src cls state kind deposit foreign damage slots bottle label effective => Sys2Proof.Machine.execSetClass src cls state kind deposit foreign damage slots bottle label effective s
  | .cancelChange src cls => Sys2Proof.Machine.execCancelChange src cls s
  | .readClass src cls => Sys2Proof.Machine.execReadClass src cls s
  | .setLaneStation src lane priority window => Sys2Proof.Machine.execSetLaneStation src lane priority window s
  | .setLanePulse src lane enabled cls edge spacing stall mode => Sys2Proof.Machine.execSetLanePulse src lane enabled cls edge spacing stall mode s
  | .setDispenser src un uc vend jam pick noteLow coinLow => Sys2Proof.Machine.execSetDispenser src un uc vend jam pick noteLow coinLow s
  | .refill src channel stock => Sys2Proof.Machine.execRefill src channel stock s
  | .clearChannel src channel => Sys2Proof.Machine.execClearChannel src channel s
  | .watchAdd src tag => Sys2Proof.Machine.execWatchAdd src tag s
  | .watchRemove src tag => Sys2Proof.Machine.execWatchRemove src tag s
  | .watchList src => Sys2Proof.Machine.execWatchList src s
  | .setTime src day second => Sys2Proof.Machine.execSetTime src day second s
  | .readStatus src => Sys2Proof.Machine.execReadStatus src s
  | .readNotices src => Sys2Proof.Machine.execReadNotices src s
  | .readAccount src account => Sys2Proof.Machine.execReadAccount src account s
  | .makeAccount src account customer => Sys2Proof.Machine.execMakeAccount src account customer s
  | .setAccountState src account target => Sys2Proof.Machine.execSetAccountState src account target s
  | .deleteAccount src account => Sys2Proof.Machine.execDeleteAccount src account s
  | .issue src account cls quantity => Sys2Proof.Machine.execIssue src account cls quantity s
  | .adjust src account cls change => Sys2Proof.Machine.execAdjust src account cls change s
  | .collect src account amount => Sys2Proof.Machine.execCollect src account amount s
  | .readResidue src => Sys2Proof.Machine.execReadResidue src s
  | .clearResidue src amount => Sys2Proof.Machine.execClearResidue src amount s
  | .peekLog src => Sys2Proof.Machine.execPeekLog src s
  | .takeLog src ticket => Sys2Proof.Machine.execTakeLog src ticket s
  | .unknownRequest link name => Sys2Proof.Machine.execUnknownRequest link name s
  | .arrive src cls origin condition quantity bottles tag => Sys2Proof.Machine.execArrive src cls origin condition quantity bottles tag s
  | .laneDone src => Sys2Proof.Machine.execLaneDone src s
  | .laneQuery src => Sys2Proof.Machine.execLaneQuery src s
  | .closeWaitExpiry ticket => Sys2Proof.Machine.execCloseWaitExpiry ticket s
  | .clockAdvance => Sys2Proof.Machine.execClockAdvance s
  | .crystalLoss cycles after => Sys2Proof.Machine.execCrystalLoss cycles after s
  | .crystalReturn after => Sys2Proof.Machine.execCrystalReturn after s
  | .backupCrystalStop cycles => Sys2Proof.Machine.execBackupCrystalStop cycles s
  | .backupLow => Sys2Proof.Machine.execBackupLow s
  | .powerStop cause => Sys2Proof.Machine.execPowerStop cause s
  | .warmStart found cut => Sys2Proof.Machine.execWarmStart found cut s
  | .coldStart found cut => Sys2Proof.Machine.execColdStart found cut s
  | .portLineError port kind after => Sys2Proof.Machine.execPortLineError port kind after s
  | .portGapTimeout port after => Sys2Proof.Machine.execPortGapTimeout port after s
  | .portIdleRecover port after => Sys2Proof.Machine.execPortIdleRecover port after s
  | .portOverrun port after => Sys2Proof.Machine.execPortOverrun port after s
  | .portReplyEnd port after => Sys2Proof.Machine.execPortReplyEnd port after s
  | .lreqChange lane low after => Sys2Proof.Machine.execLreqChange lane low after s
  | .frameStart after => Sys2Proof.Machine.execFrameStart after s
  | .grantMiss => Sys2Proof.Machine.execGrantMiss s
  | .laneFrameError kind after => Sys2Proof.Machine.execLaneFrameError kind after s
  | .laneCharTimeout after => Sys2Proof.Machine.execLaneCharTimeout after s
  | .laneReplyEnd after => Sys2Proof.Machine.execLaneReplyEnd after s
  | .peyeTransition lane blocked after => Sys2Proof.Machine.execPeyeTransition lane blocked after s
  | .stall lane => Sys2Proof.Machine.execStall lane s
  | .jobTake empties => Sys2Proof.Machine.execJobTake empties s
  | .noteVendEnd empties => Sys2Proof.Machine.execNoteVendEnd empties s
  | .noteExitStart after => Sys2Proof.Machine.execNoteExitStart after s
  | .noteExitEnd empties after => Sys2Proof.Machine.execNoteExitEnd empties after s
  | .noteJamTimeout => Sys2Proof.Machine.execNoteJamTimeout s
  | .coinExitStart after => Sys2Proof.Machine.execCoinExitStart after s
  | .coinGapTimeout => Sys2Proof.Machine.execCoinGapTimeout s
  | .coinEmptyAsserted after => Sys2Proof.Machine.execCoinEmptyAsserted after s
  | .runOnEnd => Sys2Proof.Machine.execRunOnEnd s
  | .requestFrameStart port after => Sys2Proof.Machine.execRequestFrameStart port after s
  | .inputsSettled levels after => Sys2Proof.Machine.execInputsSettled levels after s

end Sys2Proof.Machine
end

