-- ==== Sys2Proof/Safety.lean ====
section
/-! DEFINITION. The terms statements use: how a request stands answered on its link, and the invariants of the part, each
gathered from the rules that say what holds "at all times". An invariant says nothing of the queue of waiting commands. -/

namespace Sys2Proof

/-- The link of a terminal port. -/
def Port.link : Port → Link
  | .office => .office
  | .accounts => .accounts

/-- A request that came in on a terminal port with field bytes that fit its name. -/
def Port.sent (p : Port) : Source := { link := p.link, fits := true }

/-- A station's request with field bytes that fit its name. -/
def sentByStation : Source := { link := .laneBus, fits := true }

end Sys2Proof

namespace Sys2Proof.Machine

/-! ### Requests and replies -/

/-- The part runs and a port is taking the characters of a frame (R178). -/
abbrev State.receiving (p : Port) (s : State) : Prop := s.on = true ∧ (s.port p).receiver = .receiving

/-- The part runs and a lane's grant is in flight with its frame in reception (R168). -/
abbrev State.hears (l : StationLane) (s : State) : Prop := s.on = true ∧ s.bus.grant = some { lane := l, phase := .reception }

/-- A port that holds the request it has taken, with its reply on the way (R178, R181): no overrun marked, and notices,
counts and attention line as they were. -/
def PortRecord.answering (i : Instr) (r : Reply) (q : PortRecord) : PortRecord :=
  { q with receiver := .held, overrunMarked := false, buffer := some i, reply := some r }

/-- The state in which the reply to the request of a port is on its way, and the check field matches the retained content the
request has left (R192). -/
def State.answered (p : Port) (i : Instr) (r : Reply) (s : State) : State :=
  State.sealed (s.setPort p ((s.port p).answering i r))

/-- The state in which the reply in a lane's grant is on its way, with LBUS_DE driven (R163, R169) and the check field matching
(R192). -/
def State.answeredOnLane (l : StationLane) (r : Reply) (s : State) : State :=
  State.sealed { s with bus := { s.bus with grant := some { lane := l, phase := .reply r }, lbusDe := true, buffer := none } }

/-- A reply to a named request (12.1). -/
def ReqName.reply (n : ReqName) (r : Result) (b : Body) : Reply := { name := n.chars, result := r, body := b }

/-- The result of the reply that is on its way on a port. -/
def State.resultOn (p : Port) (s : State) : Option Result := (s.port p).reply.map (·.result)

/-- The requests Table 10-2 permits on a terminal port. -/
def requestsOf : Port → List ReqName
  | .office =>
    [.open_, .atch, .dtch, .clos, .ropn, .void, .rels, .auth, .rvok, .rslv, .asgn, .scls, .cchg, .slan, .slim, .sdsp,
     .fill, .clrc, .wtch, .stim, .rtkt, .rcls, .racc, .rsta, .rnot]
  | .accounts => [.macc, .sacc, .issu, .adjt, .coll, .racc, .rres, .cres, .peek, .take, .rtkt, .rcls, .rsta, .rnot]

/-- The requests Table 10-2 permits on the lane bus (R169). -/
def stationRequests : List ReqName := [.arrv, .done, .qury]

/-- No ticket in OPEN or CLOSING holds an entry for a lane: it is attached to no ticket (3.3). -/
abbrev State.laneFree (lane : Nat) (s : State) : Prop :=
  ∀ t ∈ s.tickets, t.state = .opened ∨ t.state = .closing → ∀ e ∈ t.attachments, e.lane ≠ lane

/-! ### Limits -/

/-- Ranges of the ticket table, the clock and the collections (R9, R33, R38, R60, R81, R88, R128, R137, R188). -/
structure LimitsInv (s : State) : Prop where
  clockDay : s.clock.day ≤ 65535
  clockSecond : s.clock.second ≤ 86399
  threshold : s.reviewThreshold ≤ 4294967295
  closeWait : 5 ≤ s.closeWait ∧ s.closeWait ≤ 600
  nextNumber : 1 ≤ s.nextNumber ∧ s.nextNumber ≤ 65535
  residue : s.residue ≤ 4294967295
  changes : s.changes.length ≤ 8
  tickets : s.tickets.length ≤ 16
  tags : s.tags.length ≤ 256 ∧ (s.tags.map (·.tag)).Nodup
  watch : s.watch.length ≤ 8 ∧ s.watch.Nodup
  queue : s.queue.length ≤ 8
  log : s.log.length ≤ 64

/-! ### Notices -/

/-- The notices Table 10-4 names for the accounts port. -/
def accountsNotices : List Notice := [.logFull, .logReady, .residueSaturated, .warmStart, .coldStart]

/-- Whether Table 10-4 names a notice for a port. -/
abbrev Notice.namedFor (p : Port) (n : Notice) : Prop :=
  match p with
  | .office => n ≠ .logReady ∧ n ≠ .residueSaturated
  | .accounts => n ∈ accountsNotices

/-- A port (R178 to R183): a notice stands in its set at most once and only if it is named for the port; the attention line
is driven exactly while the part runs with the set not empty; and a request and its reply are held exactly in HELD. -/
structure PortInv (p : Port) (on : Bool) (q : PortRecord) : Prop where
  once : q.notices.Nodup
  named : ∀ n ∈ q.notices, n.namedFor p
  attention : q.attention = (on && !q.notices.isEmpty)
  holds : q.receiver = .held ↔ q.reply.isSome = true
  buffer : q.buffer.isSome = q.reply.isSome
  overrun : q.overrunMarked = true → q.receiver = .held
  errors : q.lineErrors ≤ 65535 ∧ q.overruns ≤ 65535

/-- Both ports. -/
def PortsInv (s : State) : Prop := PortInv .office s.on s.office ∧ PortInv .accounts s.on s.acctPort

/-! ### Schedule -/

/-- A class record with each field in its range (R1). -/
structure ClassRecord.Ok (r : ClassRecord) : Prop where
  deposit : r.deposit ≤ 99999
  foreign : r.foreign ≤ r.deposit
  damage : r.damage ≤ 100
  crate : r.kind = .crate → r.slots ≤ 24 ∧ r.bottle ≤ 999
  other : r.kind ≠ .crate → r.slots = 0 ∧ r.bottle = 0
  unused : r.state = .unused → r = ClassRecord.zero
  label : r.state ≠ .unused → ∀ b ∈ r.label, 0x20 ≤ b.toNat ∧ b.toNat ≤ 0x7E

/-- An entry does not stand behind one of later effective time (R9). -/
abbrev PendingChange.notLater (e f : PendingChange) : Prop := e.day < f.day ∨ (e.day = f.day ∧ e.second ≤ f.second)

/-- The schedule unit (R1, R9): every stored record in its ranges; at most one pending entry a class, in order of effective
time. -/
structure ScheduleInv (s : State) : Prop where
  classes : ∀ c : ClassId, s.classes[c].Ok
  changes : ∀ e ∈ s.changes, e.record.Ok ∧ e.second ≤ 86399
  onePerClass : (s.changes.map (·.cls)).Nodup
  inOrder : s.changes.Pairwise PendingChange.notLater

/-! ### Accounts -/

/-- The account table (R18, R19): every count and balance in its range, and account 0 as it is fixed. With the retained
content VALID, an UNUSED account holds the empty record, and no ticket names one (R24). -/
structure AccountsInv (s : State) : Prop where
  counts : ∀ (a : AccountId) (c : ClassId), s.accounts[a].outstanding[c] ≤ 65535
  credit : ∀ a : AccountId, s.accounts[a].credit ≤ 4294967295
  customer : ∀ a : AccountId, s.accounts[a].customer ≤ 4294967295
  walkIn : s.accounts[(0 : AccountId)] = Account.walkIn
  unused : s.marker = .valid → ∀ a : AccountId, s.accounts[a].state = .unused → s.accounts[a] = Account.empty
  named : s.marker = .valid → ∀ t ∈ s.tickets, s.accounts[t.account].state ≠ .unused

/-! ### Tickets -/

/-- A tally line (R74): cells at most 9,999, bottles at most 24 times the items, clamps at most 255. -/
structure Line.Ok (l : Line) : Prop where
  good : l.good ≤ 9999
  damaged : l.damaged ≤ 9999
  foreignGood : l.foreignGood ≤ 9999
  foreignDamaged : l.foreignDamaged ≤ 9999
  bottles : l.bottles ≤ 24 * (l.good + l.damaged + l.foreignGood + l.foreignDamaged)
  clamps : l.clamps ≤ 255

/-- The tally of a ticket (R41, R55, R74, Table 3-1). -/
structure Ticket.TallyOk (t : Ticket) : Prop where
  lines : ∀ l ∈ t.lines, l.Ok
  oneLinePerClass : (t.lines.map (·.cls)).Nodup
  lineCount : t.lines.length ≤ 8
  attachments : t.attachments.length ≤ 4
  taken : ∀ e ∈ t.attachments, e.taken ≤ 65535
  holds : t.holds.Nodup
  duplicates : t.duplicates ≤ 255
  untagged : t.untagged ≤ 9999
  unrecorded : t.unrecorded ≤ 9999

/-- Every ticket of the table. -/
def TallyInv (s : State) : Prop := ∀ t ∈ s.tickets, t.TallyOk

/-- Ticket numbers (R38, R39, R137): none is 0 or stands twice across the ticket table and the settled log, and the record of
a ticket that waits carries the ticket's number. -/
structure NumbersInv (s : State) : Prop where
  distinct : (s.tickets.map (·.number) ++ s.log.map (·.number)).Nodup
  inRange : ∀ t ∈ s.tickets, 1 ≤ t.number ∧ t.number ≤ 65535
  next : 1 ≤ s.nextNumber ∧ s.nextNumber ≤ 65535
  room : s.tickets.length ≤ 16 ∧ s.log.length ≤ 64
  records : ∀ t ∈ s.tickets, ∀ r, t.record = some r → r.number = t.number

/-- The tickets a lane can feed (R41): entries stand only in OPEN and CLOSING tickets, and a pulse lane's only in an OPEN
one. -/
structure Ticket.AttachOk (t : Ticket) : Prop where
  open_or_closing : t.attachments ≠ [] → t.state = .opened ∨ t.state = .closing
  lanes : ∀ e ∈ t.attachments, e.lane ≤ 9
  pulse : ∀ e ∈ t.attachments, 6 ≤ e.lane → t.state = .opened

/-- The flow of tickets (R38, R41, R128, R135), while the retained content is VALID: a lane is attached to at most one
ticket; the closing order is the CLOSING tickets; a job waits for each AUTHORISED ticket and for no other; the paying job's
ticket is PAYING and at most one is; a ticket waits for log room exactly while SETTLED, with its record. -/
structure FlowInv (s : State) : Prop where
  numbers : (s.tickets.map (·.number)).Nodup
  attach : ∀ t ∈ s.tickets, t.AttachOk
  oneTicketPerLane : (s.tickets.flatMap fun t => t.attachments.map (·.lane)).Nodup
  closing : s.closingOrder.Nodup ∧ ∀ n, n ∈ s.closingOrder ↔ ∃ t ∈ s.tickets, t.number = n ∧ t.state = .closing
  jobs : (s.queue.map (·.ticket)).Nodup ∧ ∀ n, (∃ j ∈ s.queue, j.ticket = n) ↔ ∃ t ∈ s.tickets, t.number = n ∧ t.state = .authorised
  amounts : ∀ j ∈ s.queue, 0 < j.amount
  paying : ∀ j, s.disp.job = some j → ∃ t ∈ s.tickets, t.number = j.ticket ∧ t.state = .paying
  onePaying : ∀ t ∈ s.tickets, ∀ u ∈ s.tickets, t.state = .paying → u.state = .paying → t = u
  waiting : s.waiting.Nodup ∧ ∀ n, n ∈ s.waiting ↔ ∃ t ∈ s.tickets, t.number = n ∧ t.state = .settled
  records : ∀ t ∈ s.tickets, t.record.isSome = true ↔ t.state = .settled
  notFree : ∀ t ∈ s.tickets, t.state ≠ .free

/-! ### Pulse lanes -/

/-- A pulse lane record (R95, R96, R100). -/
structure PulseLane.Ok (p : PulseLane) : Prop where
  spacing : 20 ≤ p.spacing ∧ p.spacing ≤ 2000
  stallTime : 1 ≤ p.stallTime ∧ p.stallTime ≤ 60
  strays : p.strays ≤ 9999
  bounces : p.bounces ≤ 65535
  disabled : p.enabled = false → p.strays = 0 ∧ p.stalled = false ∧ p.lastCounted = none ∧ p.blockedSince = none
  monitor : p.enabled = true → (p.blocked.level = true ↔ p.blockedSince.isSome = true)
  stalled : p.stalled = true → p.blockedSince.isSome = true

/-- The pulse lane unit (R95): every record in its ranges and, with the retained content VALID, the class of an enabled lane
is ACTIVE or RETIRED. -/
structure PulseInv (s : State) : Prop where
  lanes : ∀ i : PulseIx, s.pulse[i].Ok
  bound : s.marker = .valid → ∀ i : PulseIx, s.pulse[i].enabled = true → s.classes[s.pulse[i].cls].state ≠ .unused

/-! ### Dispenser -/

/-- The phase of the paying job, if a job is paying. -/
def Dispenser.phase (d : Dispenser) : Option JobPhase := d.job.map (·.phase)

/-- The dispenser controller (R143 to R145, R148): settings and stocks in their ranges; a READY channel holds stock and an
EMPTY one none; a channel is RUNNING exactly in its phase of the paying job; COIN_RUN is driven exactly in the coin phase of
a part that runs, and NOTE_VEND only for a vend of the note phase; and a pulse found at a start is in progress. -/
structure DispenserInv (s : State) : Prop where
  denoms : ∀ un uc, s.disp.denoms = some (un, uc) → 100 ≤ un ∧ un ≤ 100000 ∧ 1 ≤ uc ∧ uc ≤ un ∧ uc ∣ un
  vendPulse : 20 ≤ s.disp.vendPulse ∧ s.disp.vendPulse ≤ 500
  jamTime : 500 ≤ s.disp.jamTime ∧ s.disp.jamTime ≤ 10000
  doublePick : 10 ≤ s.disp.doublePick ∧ s.disp.doublePick ≤ 500
  lows : s.disp.noteLow ≤ 9999 ∧ s.disp.coinLow ≤ 65535
  stocks : s.disp.note.stock ≤ 9999 ∧ s.disp.coin.stock ≤ 65535
  noteRest : (s.disp.note.state = .ready → 0 < s.disp.note.stock) ∧ (s.disp.note.state = .empty → s.disp.note.stock = 0)
  coinRest : (s.disp.coin.state = .ready → 0 < s.disp.coin.stock) ∧ (s.disp.coin.state = .empty → s.disp.coin.stock = 0)
  noteRuns : s.disp.note.state = .running ↔ s.disp.phase = some .notes
  coinRuns : s.disp.coin.state = .running ↔ s.disp.phase = some .coins ∨ s.disp.phase = some .runOn
  coinMotor : s.disp.coinRun = true ↔ s.on = true ∧ s.disp.phase = some .coins
  found : s.disp.noteFound = true → s.disp.noteExit.level = true
  vend : s.disp.noteVend = true →
    s.on = true ∧ ∃ j start exit, s.disp.job = some j ∧ j.phase = .notes ∧ j.work = some (.vend start exit)

/-! ### Lane bus -/

/-- A station lane record (Table 9-2, R170, R171). -/
structure StationRecord.Ok (r : StationRecord) : Prop where
  priority : r.priority ≤ 3
  misses : r.misses ≤ 3
  silent : r.state = .silent ↔ r.misses = 3
  lineErrors : r.lineErrors ≤ 65535

/-- The lane bus controller (R163, R166, R170): every record in its ranges; at most one lane of a level carries the
last-granted mark; a grant is in flight to an ACTIVE lane, and its window was not opened later than now; LBUS_DE is driven
exactly while a running part sends a reply or, in the millisecond a window opens, the grant character (log entry 22); and the
controller has taken every character from the receive buffer that a command tells of (log entry 6). -/
structure LaneBusInv (s : State) : Prop where
  lanes : ∀ l : StationLane, s.bus.lanes[l].Ok
  window : 10 ≤ s.bus.window ∧ s.bus.window ≤ 200
  oneMark : ∀ l m : StationLane, s.bus.lanes[l].lastGranted = true → s.bus.lanes[m].lastGranted = true →
    s.bus.lanes[l].priority = s.bus.lanes[m].priority → l = m
  granted : ∀ g, s.bus.grant = some g → s.bus.lanes[g.lane].state = .active
  opened : ∀ l since length, s.bus.grant = some { lane := l, phase := .window since length } → since ≤ s.now
  driver : s.bus.lbusDe = true ↔ s.on = true ∧
    ((∃ l r, s.bus.grant = some { lane := l, phase := .reply r }) ∨
     ∃ l length, s.bus.grant = some { lane := l, phase := .window s.now length })
  buffer : s.bus.buffer = none

/-! ### Retained memory -/

/-- The check field matches the retained content while the validity marker is VALID (R192). -/
def CheckInv (s : State) : Prop := s.marker = .valid → s.check = Config.checkOf s.retained

/-! ### Amounts -/

/-- The amounts of a log record add up to its total (R134). -/
abbrev LogRecord.addsUp (r : LogRecord) : Prop :=
  r.credit + r.converted + r.residue + r.cashPaid + r.manual = r.total + r.overpay

/-- The amounts of an authorisation add up to a total (R134). -/
abbrev Authorisation.addsUp (total : Nat) (a : Authorisation) : Prop := a.credit + a.residue + a.cash = total

/-- A ticket whose cash is not yet fully accounted for (R131). -/
abbrev Ticket.cashOpen (t : Ticket) : Prop := t.state = .authorised ∨ t.state = .paying ∨ t.state = .payFault

/-- The amounts kept in a ticket (R118, R124, R134, Table 3-1), at the denominations `d` holds: none is authorised before it
is VALUED and authorised, an authorisation adds up to the total, its cash is its plan, and nothing stands converted or
manual while cash is open. -/
structure Ticket.MoneyOk (d : Dispenser) (t : Ticket) : Prop where
  before : t.state = .opened ∨ t.state = .closing ∨ t.state = .valued → t.authorisation = none ∧ t.progress = none
  authorised : t.cashOpen → ∃ a, t.authorisation = some a ∧ a.addsUp t.total ∧ a.cash = a.notes * d.un + a.coins * d.uc
  denoms : t.cashOpen → d.denoms.isSome = true
  open_ : t.cashOpen → ∀ p, t.progress = some p → p.converted = 0 ∧ p.manual = 0
  begun : t.state = .paying ∨ t.state = .payFault → t.progress.isSome = true
  record : ∀ r, t.record = some r → r.outcome = .paid → r.addsUp

/-- The amounts of the part (R128, R131, R134, R150, R153, R157): a waiting job is the part of its ticket's planned cash not
yet paid, and a whole number of its planned units; the paying job has counted what its ticket has been paid beyond that,
and its coin target reaches its amount; and every PAID record adds up to its total. -/
structure MoneyInv (s : State) : Prop where
  tickets : ∀ t ∈ s.tickets, t.MoneyOk s.disp
  jobs : ∀ j ∈ s.queue, j.notes * s.disp.un + j.coins * s.disp.uc = j.amount ∧
    ∀ t ∈ s.tickets, t.number = j.ticket → j.amount + t.paidValue s.disp = t.cash
  paying : ∀ j, s.disp.job = some j → j.plannedNotes * s.disp.un + j.plannedCoins * s.disp.uc = j.amount ∧
    ∀ t ∈ s.tickets, t.number = j.ticket →
      j.amount + t.paidValue s.disp = t.cash + j.notes * s.disp.un + j.coins * s.disp.uc
  target : ∀ j, s.disp.job = some j → j.phase ≠ .notes → j.amount ≤ j.notes * s.disp.un + j.target * s.disp.uc
  reached : ∀ j, s.disp.job = some j → j.phase = .runOn → j.fault = none → j.target ≤ j.coins
  log : ∀ r ∈ s.log, r.outcome = .paid → r.addsUp

end Sys2Proof.Machine
end

