-- ==== Sys2Proof/Certificates/Slice0/Obligations.lean ====
section
/-! DEFINITION. The statements for the provers, section by section of the manual. Each is a Prop over every state, unless it
says otherwise; what each formalises stands in OBLIGATIONS.json. -/

section Statements

open Sys2Proof Sys2Proof.Machine

/-! ### The queue, requests and ports (Section 10) -/

/-- A step takes the command at the front of the queue and runs it with the queue's rest. With no command waiting it is a
millisecond of the internal oscillator, which a part that does not run lets pass unmarked: the model's choice (log entry 1).
What passing time does: it ends a grant character and nothing else (log entry 22), and a time already come is not waited for
(log entry 3). -/
def Obligations.StepRunsTheFrontCommandOrIdles : Prop :=
  (∀ (c : Instr) (rest : List Instr) (s : State),
      s.pending = c :: rest → step s = exec c { s with pending := rest }) ∧
  (∀ s : State, s.pending = [] →
      (s.on = true → step s = .next (s.elapse 1)) ∧ (s.on = false → step s = .next s)) ∧
  (∀ (ms t : Nat) (s : State),
      (ms = 0 ∨ (∃ l r, s.bus.grant = some { lane := l, phase := .reply r }) → s.elapse ms = { s with now := s.now + ms }) ∧
      (0 < ms → (∀ l r, s.bus.grant ≠ some { lane := l, phase := .reply r }) →
        s.elapse ms = { s with now := s.now + ms, bus := { s.bus with lbusDe := false } }) ∧
      s.reach t = s.elapse (t - s.now))

/-- No command stops the part, and none touches the queue of waiting commands: the model's reading of a manual that names no
event that stops it in error (log entry 25). -/
def Obligations.EveryCommandAnswersANextState : Prop :=
  ∀ (c : Instr) (s : State), ∃ t, exec c s = .next t ∧ t.pending = s.pending

/-- A request whose frame is not the one in reception changes nothing (log entry 6): on a terminal port that is not
RECEIVING, and on the lane bus outside a grant's reception. R192: nor does any command while the part is stopped, but for
those that concern the stop itself: the crystal and the backup supply, the supply's fall under NRST, and the starts. -/
def Obligations.WhatIsNotTakenChangesNothing : Prop :=
  (∀ (c : Instr) (src : Source) (s : State), c.source? = some src →
    (∀ p : Port, src.link = p.link → s.on = false ∨ (s.port p).receiver ≠ .receiving → exec c s = .next s) ∧
    (src.link = .laneBus → s.on = false ∨ (∀ l, s.bus.grant ≠ some { lane := l, phase := .reception }) → exec c s = .next s)) ∧
  (∀ (c : Instr) (s : State), s.on = false → c ≠ .clockAdvance → c ≠ .backupLow → (∀ k, c ≠ .backupCrystalStop k) →
    (∀ k, c ≠ .powerStop k) → (∀ f k, c ≠ .warmStart f k) → (∀ f k, c ≠ .coldStart f k) → exec c s = .next s)

/-- R181, R169: before any block sees a named request it is refused NOT_PERMITTED when Table 10-2 does not list it for the
port, UNKNOWN_REQUEST in a grant when it is no station request, and BAD_VALUE when the number of its field bytes does not fit.
Nothing but the reply changes. A frame whose four characters are the name of no request is answered UNKNOWN_REQUEST with those
characters. -/
def Obligations.RequestsRefusedBeforeTheirBlock : Prop :=
  (∀ (c : Instr) (n : ReqName) (bs : List Byte) (fits : Bool) (s : State), c.payload? = some (n, bs) →
      (∀ p : Port, c.source? = some { link := p.link, fits := fits } → s.receiving p →
        (n ∉ requestsOf p → exec c s = .next (s.answered p c (n.reply .notPermitted .none))) ∧
        (n ∈ requestsOf p → fits = false → exec c s = .next (s.answered p c (n.reply .badValue .none)))) ∧
      (∀ l : StationLane, c.source? = some { link := .laneBus, fits := fits } → s.hears l →
        (n ∉ stationRequests → exec c s = .next (s.answeredOnLane l (n.reply .unknownRequest .none))) ∧
        (n ∈ stationRequests → fits = false → exec c s = .next (s.answeredOnLane l (n.reply .badValue .none))))) ∧
  (∀ (name : List Byte) (s : State), (∀ n : ReqName, n.chars ≠ name) →
      (∀ p : Port, s.receiving p →
        exec (.unknownRequest p.link name) s = .next
          (s.answered p (.unknownRequest p.link name) { name := name, result := .unknownRequest, body := .none })) ∧
      (∀ l : StationLane, s.hears l →
        exec (.unknownRequest .laneBus name) s = .next
          (s.answeredOnLane l { name := name, result := .unknownRequest, body := .none })))

/-- R178 to R180: the receiver states of a port and its two counts, each event with its whole effect. -/
def Obligations.PortReceptionEvents : Prop :=
  ∀ (p : Port) (kind : PortError) (after : Nat) (s : State), s.on = true →
    ((s.port p).receiver = .hunt →
      exec (.requestFrameStart p after) s = .next
        ((s.elapse after).setPort p { s.port p with receiver := .receiving, buffer := none })) ∧
    ((s.port p).receiver = .receiving →
      exec (.portLineError p kind after) s = .next
        ((s.elapse after).setPort p
          { s.port p with receiver := .recover, lineErrors := min 65535 ((s.port p).lineErrors + 1) }) ∧
      exec (.portGapTimeout p after) s = .next
        ((s.elapse after).setPort p
          { s.port p with receiver := .hunt, lineErrors := min 65535 ((s.port p).lineErrors + 1) })) ∧
    ((s.port p).receiver = .recover →
      exec (.portIdleRecover p after) s = .next
        ((s.elapse after).setPort p { s.port p with receiver := .hunt })) ∧
    ((s.port p).receiver = .held →
      ((s.port p).overrunMarked = false →
        exec (.portOverrun p after) s = .next
          ((s.elapse after).setPort p
            { s.port p with overrunMarked := true, overruns := min 65535 ((s.port p).overruns + 1) })) ∧
      exec (.portReplyEnd p after) s = .next
        ((s.elapse after).setPort p
          { s.port p with
            receiver := if (s.port p).overrunMarked then .recover else .hunt
            overrunMarked := false
            buffer := none
            reply := none }))

/-- R184: Read Notices copies the port's set into the reply, empties it and releases the attention line; the other port's set
stands. -/
def Obligations.ReadNoticesEmptiesItsSet : Prop :=
  ∀ (p : Port) (s : State), s.receiving p →
    exec (.readNotices p.sent) s = .next
      ((s.setPort p { s.port p with notices := [], attention := false }).answered p (.readNotices p.sent)
        (ReqName.rnot.reply .ok (.notices (s.port p).notices)))

/-- R14, R61, R62, R185: the four reads of the office's books change nothing but the reply, and show the records as they
stand. -/
def Obligations.ReadsShowTheRecordsUnchanged : Prop :=
  ∀ (p : Port) (s : State), s.receiving p →
    exec (.readStatus p.sent) s = .next
      (s.answered p (.readStatus p.sent) (ReqName.rsta.reply .ok (.status
        { stations := s.bus.lanes.toList, window := s.bus.window, pulse := s.pulse.toList
          note := s.disp.note, noteLow := s.disp.noteLow, coin := s.disp.coin, coinLow := s.disp.coinLow
          denoms := s.disp.denoms
          job := s.disp.job.map fun j => { ticket := j.ticket, phase := j.phase, notes := j.notes, coins := j.coins }
          queue := s.queue.length
          clock := { day := s.clock.day, second := s.clock.second, suspect := s.clock.suspect }
          source := s.clock.source
          officeErrors := s.office.lineErrors, officeOverruns := s.office.overruns
          accountsErrors := s.acctPort.lineErrors, accountsOverruns := s.acctPort.overruns }))) ∧
    exec (.readTicketTable p.sent) s = .next
      (s.answered p (.readTicketTable p.sent) (ReqName.rtkt.reply .ok
        (.table (s.tickets.map fun t => { number := t.number, account := t.account, state := t.state, holds := t.holds })))) ∧
    (∀ n, n ≠ 0 →
      (∀ t, s.ticket? n = some t →
        exec (.readTicket p.sent n) s = .next (s.answered p (.readTicket p.sent n) (ReqName.rtkt.reply .ok
          (.ticket t (if t.state = .closing then some ((t.closeDeadline.getD s.now - s.now) / 1000) else none))))) ∧
      (s.ticket? n = none →
        exec (.readTicket p.sent n) s = .next
          (s.answered p (.readTicket p.sent n) (ReqName.rtkt.reply .unknownTicket .none)))) ∧
    (∀ c : ClassId, exec (.readClass p.sent c.val) s = .next
      (s.answered p (.readClass p.sent c.val) (ReqName.rcls.reply .ok
        (.cls c.val s.classes[c] (s.classInUse c) (pendingView c s.changes 1))))) ∧
    (∀ k, 15 < k → exec (.readClass p.sent k) s = .next
      (s.answered p (.readClass p.sent k) (ReqName.rcls.reply .badValue .none)))

/-- R178, R180, R182, R183, R192: every step keeps each port's notice set within its notices, each at most once, and its
attention line at the level the set gives it. -/
def Obligations.PortsInvariantKept : Prop :=
  ∀ s t : State, PortsInv s → step s = .next t → PortsInv t

/-- The invariants hold in the state after reset. -/
def Obligations.InvariantsHoldAtReset : Prop :=
  CheckInv State.reset ∧ LimitsInv State.reset ∧ PortsInv State.reset ∧ ScheduleInv State.reset ∧ AccountsInv State.reset ∧ TallyInv State.reset ∧
  NumbersInv State.reset ∧ FlowInv State.reset ∧ PulseInv State.reset ∧ DispenserInv State.reset ∧ LaneBusInv State.reset ∧
  MoneyInv State.reset

/-! ### Deposit schedule (Section 1) -/

/-- R4, R7 to R9: Set Class of a record that passes its checks. Its stored form clamps F to D, clears S and B of a class that
is no CRATE, and is the zero record when UNUSED is carried. A change now, or dated for a time the clock has reached, replaces
the record; one dated later enters the pending list, behind every entry of an earlier or equal time and before every
later one, in the place of the entry the class had. -/
def Obligations.SetClassTakesEffect : Prop :=
  ∀ (c : ClassId) (st : ClassState) (k : Kind) (kindCode d f g sl b : Nat) (label : List Byte) (eff : Option (Nat × Nat))
    (s : State), s.receiving .office → ScheduleInv s →
    (st ≠ .unused → kindCode = k.code ∧ d ≤ 99999 ∧ g ≤ 100 ∧ (∀ x ∈ label, 0x20 ≤ x.toNat ∧ x.toNat ≤ 0x7E) ∧
      (k = .crate → sl ≤ 24 ∧ b ≤ 999)) →
    (s.classInUse c = true → st ≠ .unused ∧ (s.classes[c].state ≠ .unused → k = s.classes[c].kind)) →
    (∀ day second, eff = some (day, second) → second ≤ 86399) →
    let r : ClassRecord :=
      if st = .unused then ClassRecord.zero
      else { state := st, kind := k, deposit := d, foreign := min f d, damage := g,
             slots := if k = .crate then sl else 0, bottle := if k = .crate then b else 0, label := label }
    let i : Instr := .setClass Port.office.sent c.val st.code kindCode d f g sl b label eff
    let now : State := { s with classes := s.classes.set c.val r c.isLt }
    ((∀ day second, eff = some (day, second) → day < s.clock.day ∨ (day = s.clock.day ∧ second ≤ s.clock.second)) →
      exec i s = .next (now.answered .office i
        (ReqName.scls.reply .ok (.cls c.val r (now.classInUse c) (pendingView c s.changes 1))))) ∧
    (∀ day second, eff = some (day, second) → (s.clock.day < day ∨ (day = s.clock.day ∧ s.clock.second < second)) →
      (s.changes.length < 8 ∨ ∃ e ∈ s.changes, e.cls = c) →
      ∃ before behind, before ++ behind = s.changes.filter (fun e => e.cls != c) ∧
        (∀ e ∈ before, e.day < day ∨ (e.day = day ∧ e.second ≤ second)) ∧
        (∀ e ∈ behind, day < e.day ∨ (day = e.day ∧ second < e.second)) ∧
        exec i s = .next (({ s with
            changes := before ++ { cls := c, record := r, day := day, second := second } :: behind } : State).answered
          .office i (ReqName.scls.reply .ok (.cls c.val s.classes[c] (s.classInUse c)
            (some { record := r, day := day, second := second, place := before.length + 1 })))))

/-- R3: the checks of Set Class in their order, for every carried value; a refused Set Class changes neither a class record
nor the pending list, nor anything else but the reply. -/
def Obligations.SetClassChecksInOrder : Prop :=
  ∀ (cls st kind d f g sl b : Nat) (label : List Byte) (eff : Option (Nat × Nat)) (s : State), s.receiving .office →
    let i : Instr := .setClass Port.office.sent cls st kind d f g sl b label eff
    let bad : Prop :=
      15 < cls ∨ 2 < st ∨ (st ≠ 0 ∧ 2 < kind) ∨ (∃ day second, eff = some (day, second) ∧ 86399 < second) ∨
      (st ≠ 0 ∧ (99999 < d ∨ 100 < g ∨ (∃ x ∈ label, x.toNat < 0x20 ∨ 0x7E < x.toNat))) ∨
      (st ≠ 0 ∧ kind = 0 ∧ (24 < sl ∨ 999 < b))
    let breaks : Prop := ∃ c : ClassId, c.val = cls ∧ s.classInUse c = true ∧
      (st = 0 ∨ (s.classes[c].state ≠ .unused ∧ kind ≠ s.classes[c].kind.code))
    let later : Prop := ∃ day second, eff = some (day, second) ∧
      (s.clock.day < day ∨ (s.clock.day = day ∧ s.clock.second < second))
    let refusedWith : Result → Prop := fun r => exec i s = .next (s.answered .office i (ReqName.scls.reply r .none))
    (bad → refusedWith .badValue) ∧
    (¬bad → breaks → refusedWith .classInUse) ∧
    (¬bad → ¬breaks → later → (∀ e ∈ s.changes, e.cls.val ≠ cls) → 8 ≤ s.changes.length → refusedWith .listFull) ∧
    (¬bad → ¬breaks → (later → (∃ e ∈ s.changes, e.cls.val = cls) ∨ s.changes.length < 8) →
      ∃ t, exec i s = .next t ∧ t.resultOn .office = some .ok)

/-- R10: Cancel Change takes the class's pending entry out of the list and leaves the class record as it is. -/
def Obligations.CancelChangeRemovesThePendingEntry : Prop :=
  ∀ (k : Nat) (s : State), s.receiving .office →
    let i : Instr := .cancelChange Port.office.sent k
    (15 < k → exec i s = .next (s.answered .office i (ReqName.cchg.reply .badValue .none))) ∧
    (∀ c : ClassId, k = c.val →
      ((∀ e ∈ s.changes, e.cls ≠ c) → exec i s = .next (s.answered .office i (ReqName.cchg.reply .wrongState .none))) ∧
      ((∃ e ∈ s.changes, e.cls = c) →
        exec i s = .next (({ s with changes := s.changes.filter (fun e => e.cls != c) } : State).answered .office i
          (ReqName.cchg.reply .ok (.cls c.val s.classes[c] (s.classInUse c) none)))))

/-- R1, R9: every step keeps every class record within its ranges, and the pending list with at most one entry a class, in
order of effective time. -/
def Obligations.ScheduleInvariantKept : Prop :=
  ∀ s t : State, ScheduleInv s → step s = .next t → ScheduleInv t

/-! ### Accounts (Section 2) -/

/-- R19, R21 to R24, R35: Read Account shows any account; Make Account makes an ACTIVE account of the empty record from an UNUSED one,
and refuses account 0 and an account that exists; Set Account State changes the state alone; a deletion leaves the empty
record, and is refused BUSY while a count or the balance is not 0 or a ticket names the account. Set Account State is refused
WALK_IN for account 0 and UNKNOWN_ACCOUNT for an UNUSED account before anything else. -/
def Obligations.AccountsAreMadeReadAndDeleted : Prop :=
  (∀ (a : AccountId) (customer : Nat) (s : State),
      (∀ p : Port, s.receiving p →
        exec (.readAccount p.sent a) s = .next (s.answered p (.readAccount p.sent a)
          (ReqName.racc.reply .ok (.account a s.accounts[a] (s.tickets.filter fun t => t.account == a).length)))) ∧
      (s.receiving .accounts → customer ≤ 4294967295 →
        let i : Instr := .makeAccount Port.accounts.sent a customer
        let r : Account := { state := .active, customer := customer, outstanding := Vector.replicate 16 0, credit := 0
                             saturated := false }
        (a.val = 0 → exec i s = .next (s.answered .accounts i (ReqName.macc.reply .walkIn .none))) ∧
        (a.val ≠ 0 → s.accounts[a].state ≠ .unused →
          exec i s = .next (s.answered .accounts i (ReqName.macc.reply .wrongState .none))) ∧
        (a.val ≠ 0 → s.accounts[a].state = .unused →
          exec i s = .next (({ s with accounts := s.accounts.set a.val r a.isLt } : State).answered .accounts i
            (ReqName.macc.reply .ok (.account a r (s.tickets.filter fun t => t.account == a).length)))))) ∧
  (∀ (a : AccountId) (s : State), s.receiving .accounts →
      let del : Instr := .deleteAccount Port.accounts.sent a
      let held : Prop := (∃ c : ClassId, s.accounts[a].outstanding[c] ≠ 0) ∨ s.accounts[a].credit ≠ 0 ∨
        ∃ t ∈ s.tickets, t.account = a
      (a.val ≠ 0 → s.accounts[a].state ≠ .unused →
        (∀ st : AccountState, st ≠ .unused →
          let set : Instr := .setAccountState Port.accounts.sent a st.code
          let r : Account := { s.accounts[a] with state := st }
          exec set s = .next (({ s with accounts := s.accounts.set a.val r a.isLt } : State).answered .accounts set
            (ReqName.sacc.reply .ok (.account a r (s.tickets.filter fun t => t.account == a).length)))) ∧
        (∀ k, 2 < k → exec (.setAccountState Port.accounts.sent a k) s = .next
          (s.answered .accounts (.setAccountState Port.accounts.sent a k) (ReqName.sacc.reply .badValue .none))) ∧
        (held → exec del s = .next (s.answered .accounts del (ReqName.sacc.reply .busy .none))) ∧
        (¬held → exec del s = .next (({ s with accounts := s.accounts.set a.val Account.empty a.isLt } : State).answered
          .accounts del (ReqName.sacc.reply .ok (.account a Account.empty 0))))) ∧
      (∀ i : Instr, (i = del ∨ ∃ k, i = .setAccountState Port.accounts.sent a k) →
        (a.val = 0 → exec i s = .next (s.answered .accounts i (ReqName.sacc.reply .walkIn .none))) ∧
        (a.val ≠ 0 → s.accounts[a].state = .unused →
          exec i s = .next (s.answered .accounts i (ReqName.sacc.reply .unknownAccount .none)))))

/-- R21, R25 to R28: Issue, Adjust and Collect are refused WALK_IN for account 0 and UNKNOWN_ACCOUNT for an UNUSED account before
any other check. R25 to R27: Issue grows one outstanding count, stopping at 65,535 with the saturated flag set; Adjust adds a signed change,
clamped to 0 to 65,535, and clears the flag; the refusals of both. R28, R34: Collect and Clear Residue lower the balance or the counter by an
amount that it covers and are refused MISMATCH otherwise, showing it as it stands; Read Residue shows the counter. -/
def Obligations.IssueAdjustCollectAndResidue : Prop :=
  (∀ (a : AccountId) (k n : Nat) (change : Int) (s : State), s.receiving .accounts → ∀ x : Instr × ReqName,
      x ∈ [(.issue Port.accounts.sent a k n, .issu), (.adjust Port.accounts.sent a k change, .adjt),
        (.collect Port.accounts.sent a n, .coll)] →
      (a.val = 0 → exec x.1 s = .next (s.answered .accounts x.1 (x.2.reply .walkIn .none))) ∧
      (a.val ≠ 0 → s.accounts[a].state = .unused →
        exec x.1 s = .next (s.answered .accounts x.1 (x.2.reply .unknownAccount .none)))) ∧
  (∀ (a : AccountId) (c : ClassId) (n : Nat) (change : Int) (s : State),
      s.receiving .accounts → a.val ≠ 0 → s.accounts[a].state ≠ .unused →
      (s.classes[c].state = .active → 1 ≤ n → n ≤ 9999 →
        let i : Instr := .issue Port.accounts.sent a c.val n
        let count := min 65535 (s.accounts[a].outstanding[c] + n)
        let flag := s.accounts[a].saturated || decide (65535 < s.accounts[a].outstanding[c] + n)
        let r : Account := { s.accounts[a] with
          outstanding := s.accounts[a].outstanding.set c.val count c.isLt, saturated := flag }
        exec i s = .next (({ s with accounts := s.accounts.set a.val r a.isLt } : State).answered .accounts i
          (ReqName.issu.reply .ok (.float c.val count flag)))) ∧
      (s.classes[c].state ≠ .unused → -9999 ≤ change → change ≤ 9999 →
        let i : Instr := .adjust Port.accounts.sent a c.val change
        let sum : Int := (s.accounts[a].outstanding[c] : Int) + change
        let count : Nat := if sum < 0 then 0 else if 65535 < sum then 65535 else sum.toNat
        let r : Account := { s.accounts[a] with
          outstanding := s.accounts[a].outstanding.set c.val count c.isLt, saturated := false }
        exec i s = .next (({ s with accounts := s.accounts.set a.val r a.isLt } : State).answered .accounts i
          (ReqName.adjt.reply .ok (.float c.val count false)))) ∧
      (s.classes[c].state = .retired → 1 ≤ n → n ≤ 9999 →
        exec (.issue Port.accounts.sent a c.val n) s = .next (s.answered .accounts (.issue Port.accounts.sent a c.val n)
          (ReqName.issu.reply .classRetired .none))) ∧
      (∀ k m : Nat, 15 < k ∨ m = 0 ∨ 9999 < m →
        exec (.issue Port.accounts.sent a k m) s = .next (s.answered .accounts (.issue Port.accounts.sent a k m)
          (ReqName.issu.reply .badValue .none))) ∧
      (s.classes[c].state = .unused → 1 ≤ n → n ≤ 9999 →
        exec (.issue Port.accounts.sent a c.val n) s = .next (s.answered .accounts (.issue Port.accounts.sent a c.val n)
          (ReqName.issu.reply .unknownClass .none))) ∧
      (∀ (k : Nat) (x : Int), 15 < k ∨ x < -9999 ∨ 9999 < x →
        exec (.adjust Port.accounts.sent a k x) s = .next (s.answered .accounts (.adjust Port.accounts.sent a k x)
          (ReqName.adjt.reply .badValue .none))) ∧
      (s.classes[c].state = .unused → -9999 ≤ change → change ≤ 9999 →
        exec (.adjust Port.accounts.sent a c.val change) s = .next (s.answered .accounts
          (.adjust Port.accounts.sent a c.val change) (ReqName.adjt.reply .unknownClass .none)))) ∧
  (∀ (a : AccountId) (x : Nat) (s : State), s.receiving .accounts →
      let coll : Instr := .collect Port.accounts.sent a x
      let cres : Instr := .clearResidue Port.accounts.sent x
      let rres : Instr := .readResidue Port.accounts.sent
      (a.val ≠ 0 → s.accounts[a].state ≠ .unused →
        (x ≤ s.accounts[a].credit →
          exec coll s = .next (({ s with
              accounts := s.accounts.set a.val { s.accounts[a] with credit := s.accounts[a].credit - x } a.isLt } : State).answered
            .accounts coll (ReqName.coll.reply .ok (.money (s.accounts[a].credit - x))))) ∧
        (s.accounts[a].credit < x →
          exec coll s = .next (s.answered .accounts coll (ReqName.coll.reply .mismatch (.money s.accounts[a].credit))))) ∧
      (x ≤ s.residue →
        exec cres s = .next (({ s with residue := s.residue - x } : State).answered .accounts cres
          (ReqName.cres.reply .ok (.money (s.residue - x))))) ∧
      (s.residue < x →
        exec cres s = .next (s.answered .accounts cres (ReqName.cres.reply .mismatch (.money s.residue)))) ∧
      exec rres s = .next (s.answered .accounts rres (ReqName.rres.reply .ok (.money s.residue))))

/-- R18, R19, R24: every step keeps every count and balance within its range and account 0 as it is fixed; with the retained
content VALID an UNUSED account is the empty record and no ticket names one. -/
def Obligations.AccountsInvariantKept : Prop :=
  ∀ s t : State, AccountsInv s → step s = .next t → AccountsInv t

/-! ### Return tickets (Section 3) -/

/-- R17, R37, R66, R94, R107, R142, R162, R176, R186: what a cold start leaves in each block, from whatever stood before. The
start kind is cold by Table 11-3; the inputs have yet to settle. A stop that cuts it leaves the marker INVALID and some blocks
cleared; which ones is free (log entry 17). -/
def Obligations.ColdStartValues : Prop :=
  ∀ (found : StartFound) (s : State), s.on = false →
    (s.marker = .invalid ∨ s.check ≠ Config.checkOf s.retained ∨ found.intact = false ∨ found.strap = .grounded) →
    ∃ t, exec (.coldStart found none) s = .next t ∧
      (∀ c : ClassId, t.classes[c] = { state := .unused, kind := .crate, deposit := 0, foreign := 0, damage := 0, slots := 0,
                                       bottle := 0, label := List.replicate 12 0 }) ∧ t.changes = [] ∧
      (∀ a : AccountId, t.accounts[a] = { state := if a.val = 0 then .active else .unused, customer := 0,
                                          outstanding := Vector.replicate 16 0, credit := 0, saturated := false }) ∧
      t.residue = 0 ∧ t.tickets = [] ∧ t.nextNumber = 1 ∧ t.reviewThreshold = 50000 ∧ t.closeWait = 120 ∧ t.closingOrder = [] ∧
      t.tags = [] ∧ t.watch = [] ∧
      (∀ i : PulseIx, t.pulse[i].enabled = false ∧ t.pulse[i].cls = 0 ∧ t.pulse[i].edge = .leading ∧ t.pulse[i].spacing = 150 ∧
        t.pulse[i].stallTime = 10 ∧ t.pulse[i].mode = .empty ∧ t.pulse[i].strays = 0 ∧ t.pulse[i].bounces = 0 ∧
        t.pulse[i].stalled = false ∧ t.pulse[i].lastCounted = none ∧ t.pulse[i].blockedSince = none) ∧
      t.queue = [] ∧ t.log = [] ∧ t.waiting = [] ∧
      t.disp.denoms = none ∧ t.disp.vendPulse = 100 ∧ t.disp.jamTime = 3000 ∧ t.disp.doublePick = 60 ∧ t.disp.noteLow = 0 ∧
      t.disp.coinLow = 0 ∧ t.disp.note = { state := .empty, stock := 0 } ∧ t.disp.coin = { state := .empty, stock := 0 } ∧
      t.disp.job = none ∧ t.disp.noteVend = false ∧ t.disp.coinRun = false ∧
      (∀ l : StationLane, t.bus.lanes[l].priority = 0 ∧ t.bus.lanes[l].state = .active ∧ t.bus.lanes[l].misses = 0 ∧
        t.bus.lanes[l].lineErrors = 0 ∧ t.bus.lanes[l].lastGranted = false) ∧
      t.bus.window = 40 ∧ t.bus.grant = none ∧ t.bus.lbusDe = false ∧ t.bus.buffer = none ∧
      (∀ p : Port, t.port p = { receiver := .recover, overrunMarked := false, buffer := none, reply := none, lineErrors := 0,
                                overruns := 0, notices := [.coldStart], attention := true }) ∧
      t.clock.day = 0 ∧ t.clock.second = 0 ∧ t.clock.sub = 0 ∧ t.clock.suspect = true ∧ t.clock.source = .crystal ∧
      t.lossMark = false ∧ t.marker = .valid ∧ t.check = Config.checkOf t.retained ∧ t.on = true ∧ t.settled = false ∧
      ∀ cause : StopCause, ∃ (cleared : Nat → Bool) (draws : Nat), exec (.coldStart found (some cause)) s = .next
        (State.halt cause { s.clearBlocks cleared with marker := .invalid, draws := draws })

/-- R39, R42: Open Ticket's checks in their order, and the ticket it makes at the tail of the opening order. The number it takes is
the first one from the next ticket number on that neither a ticket of the table nor a record of the log holds, with the
numbers going round from 65,535 to 1; it is found within 81 numbers. -/
def Obligations.OpenTicketMakesATicket : Prop :=
  (∀ (a : AccountId) (lanes : List Nat) (s : State), s.receiving .office →
      let i : Instr := .openTicket Port.office.sent a lanes
      let bad : Prop := 4 < lanes.length ∨ (∃ l ∈ lanes, 9 < l) ∨ ¬lanes.Nodup
      let busy : Prop := ∃ l ∈ lanes, ¬s.laneFree l
      let refusedWith : Result → Prop := fun r => exec i s = .next (s.answered .office i (ReqName.open_.reply r .none))
      let n := s.takenNumber
      (s.accounts[a].state = .unused → refusedWith .unknownAccount) ∧
      (s.accounts[a].state ≠ .unused →
        (bad → refusedWith .badValue) ∧
        (¬bad → busy → refusedWith .laneBusy) ∧
        (¬bad → ¬busy → 16 ≤ s.tickets.length → refusedWith .tableFull) ∧
        (¬bad → ¬busy → s.tickets.length < 16 →
          exec i s = .next (({ s with
            nextNumber := if 65535 ≤ n then 1 else n + 1
            tickets := s.tickets ++
              [{ number := n, account := a, state := .opened, attachments := lanes.map fun l => { lane := l, taken := 0 }
                 holds := [], saturated := false, forced := false, duplicates := 0, untagged := 0, unrecorded := 0
                 watchedTag := none, lines := [], closeDeadline := none, figures := none, reservation := none
                 authorisation := none, progress := none, outcome := none
                 openedAt := { day := s.clock.day, second := s.clock.second, suspect := s.clock.suspect }
                 valuedAt := none, settledAt := none, record := none }] } : State).answered .office i
            (ReqName.open_.reply .ok (.ticketState n .opened)))))) ∧
  (∀ s : State, NumbersInv s →
      let used : Nat → Prop := fun n => (∃ t ∈ s.tickets, t.number = n) ∨ ∃ r ∈ s.log, r.number = n
      let following : Nat → Nat := fun n => if 65535 ≤ n then 1 else n + 1
      ¬used s.takenNumber ∧ 1 ≤ s.takenNumber ∧ s.takenNumber ≤ 65535 ∧
      ∃ k < 81, s.takenNumber = following^[k] s.nextNumber ∧ ∀ j < k, used (following^[j] s.nextNumber))

/-- R43, R44: Attach Lane adds an entry with count 0 at the tail of the attachment list, and Detach Lane takes the lane's entry
out and answers its count; the refusals of both, in their order. The valuation that the last station lane of a CLOSING
ticket sets off is the one of `TicketValuation`. -/
def Obligations.AttachAndDetachLanes : Prop :=
  ∀ (n lane : Nat) (t : Ticket) (s : State), s.receiving .office → s.ticket? n = some t →
    let atch : Instr := .attachLane Port.office.sent n lane
    let dtch : Instr := .detachLane Port.office.sent n lane
    let may : Prop := t.state = .opened ∨ (t.state = .closing ∧ lane ≤ 5)
    let refusedWith : Instr → ReqName → Result → Prop := fun i q r => exec i s = .next (s.answered .office i (q.reply r .none))
    (9 < lane → refusedWith atch .atch .badValue ∧ refusedWith dtch .dtch .badValue) ∧
    (lane ≤ 9 →
      (¬may → refusedWith atch .atch .wrongState) ∧
      (may → ¬s.laneFree lane → refusedWith atch .atch .laneBusy) ∧
      (may → s.laneFree lane → 4 ≤ t.attachments.length → refusedWith atch .atch .listFull) ∧
      (may → s.laneFree lane → t.attachments.length < 4 →
        exec atch s = .next ((s.putTicket { t with attachments := t.attachments ++ [{ lane := lane, taken := 0 }] }).answered
          .office atch (ReqName.atch.reply .ok (.ticketState n t.state)))) ∧
      (¬(t.state = .opened ∨ t.state = .closing) → refusedWith dtch .dtch .wrongState) ∧
      ((t.state = .opened ∨ t.state = .closing) →
        ((∀ e ∈ t.attachments, e.lane ≠ lane) → refusedWith dtch .dtch .noTicket) ∧
        (∀ e, t.attachments.find? (fun e => e.lane == lane) = some e →
          let u : Ticket := { t with attachments := t.attachments.filter fun e => e.lane != lane }
          (t.state = .opened ∨ (∃ e ∈ u.attachments, e.lane ≤ 5) →
            exec dtch s = .next ((s.putTicket u).answered .office dtch
              (ReqName.dtch.reply .ok (.detached n t.state e.taken)))) ∧
          (t.state = .closing → (∀ e ∈ u.attachments, 5 < e.lane) →
            exec dtch s = .next ((s.valueTicket false u).answered .office dtch
              (ReqName.dtch.reply .ok (.detached n .valued e.taken)))))))

/-- R46, R47, R50: Close Ticket takes the pulse lanes off, and starts the close wait of a ticket that keeps a station lane or
values one that keeps none; the close wait's expiry is a forced valuation with every lane taken off. What a valuation does is
`TicketValuation`. -/
def Obligations.CloseTicketAndExpiry : Prop :=
  ∀ (n : Nat) (t : Ticket) (s : State), s.ticket? n = some t →
    (s.receiving .office →
      let i : Instr := .closeTicket Port.office.sent n
      let kept := t.attachments.filter fun e => e.lane < 6
      (t.state ≠ .opened → exec i s = .next (s.answered .office i (ReqName.clos.reply .wrongState .none))) ∧
      (t.state = .opened → kept ≠ [] →
        exec i s = .next (({ s.putTicket { t with
            attachments := kept, state := .closing, closeDeadline := some (s.now + 1000 * s.closeWait) } with
            closingOrder := s.closingOrder ++ [n] } : State).answered .office i (ReqName.clos.reply .ok (.closed n .closing none)))) ∧
      (t.state = .opened → kept = [] →
        exec i s = .next ((s.valueTicket false { t with attachments := [] }).answered .office i
          (ReqName.clos.reply .ok (.closed n .valued (some (min 4294967295 (exactSum (s.ticketFigures t))))))))) ∧
    (∀ d, s.on = true → t.state = .closing → t.closeDeadline = some d →
      exec (.closeWaitExpiry n) s = .next
        ((s.reach d).valueTicket true { t with attachments := [] }).sealed)

/-- R108, R114, R116 to R118: a valuation as one event. It writes the figures, the total with its cap, the reservation, the
valued time and the holds into the ticket, takes the reservation out of the account's outstanding counts, and tells the
office of a hold it adds; nothing else changes. The figures of a line are those of `LineFiguresFollowTheFloat`. -/
def Obligations.TicketValuation : Prop :=
  ∀ (forced : Bool) (t : Ticket) (s : State), (t.lines.map (·.cls)).Nodup →
    let v := s.valueTicket forced t
    let a := t.account
    let figs := t.lines.map fun l =>
      lineFigures s.classes[l.cls] (if a.val = 0 then none else some s.accounts[a].outstanding[l.cls]) l
    let sum := (figs.map (·.value)).sum
    let above : Prop := 4294967295 < sum ∨ s.reviewThreshold < sum
    let blocked : Prop := s.accounts[a].state = .blocked
    (∃ holds : List HoldReason,
      (∀ r, r ∈ holds ↔ r ∈ t.holds ∨ (r = .overLimit ∧ above) ∨ (r = .accountBlocked ∧ blocked) ∨
        (r = .forcedClose ∧ forced = true)) ∧
      v.tickets = s.tickets.map fun u => if u.number = t.number then
        { t with
          state := .valued, attachments := [], closeDeadline := none, forced := t.forced || forced
          saturated := decide (4294967295 < sum)
          figures := some { lines := figs, total := min sum 4294967295 }
          reservation := some (figs.map fun f => if a.val = 0 then 0 else f.goodIn + f.damagedIn)
          valuedAt := some { day := s.clock.day, second := s.clock.second, suspect := s.clock.suspect }
          holds := holds } else u) ∧
    (∀ p ∈ t.lines.zip figs, a.val ≠ 0 →
      v.accounts[a].outstanding[p.1.cls] = s.accounts[a].outstanding[p.1.cls] - (p.2.goodIn + p.2.damagedIn)) ∧
    (∀ c : ClassId, (a.val = 0 ∨ c ∉ t.lines.map (·.cls)) → v.accounts[a].outstanding[c] = s.accounts[a].outstanding[c]) ∧
    { v.accounts[a] with outstanding := s.accounts[a].outstanding } = s.accounts[a] ∧
    (∀ b : AccountId, b ≠ a → v.accounts[b] = s.accounts[b]) ∧
    (above ∨ blocked ∨ forced = true → v.office = s.office.place .hold) ∧
    (¬(above ∨ blocked ∨ forced = true) → v.office = s.office) ∧
    v = { s with tickets := v.tickets, accounts := v.accounts, office := v.office
                 closingOrder := s.closingOrder.filter (· != t.number) }

/-- R111 to R113: the split of a line against the float and its value. -/
def Obligations.LineFiguresFollowTheFloat : Prop :=
  ∀ (r : ClassRecord) (float : Option Nat) (l : Line),
    let f := lineFigures r float l
    let dv := r.deposit * (100 - r.damage) / 100
    let fv := r.foreign * (100 - r.damage) / 100
    (float = none → f.goodIn = l.good ∧ f.damagedIn = l.damaged) ∧
    (∀ o, float = some o → f.goodIn = min l.good o ∧ f.damagedIn = min l.damaged (o - f.goodIn) ∧ f.goodIn + f.damagedIn ≤ o) ∧
    f.goodIn + f.goodOver = l.good ∧ f.damagedIn + f.damagedOver = l.damaged ∧
    f.value = f.goodIn * r.deposit + f.damagedIn * dv + (f.goodOver + l.foreignGood) * r.foreign
      + (f.damagedOver + l.foreignDamaged) * fv + l.bottles * r.bottle ∧
    (r.Ok → fv ≤ dv ∧ dv ≤ 99999 ∧ (l.Ok → f.value ≤ 4958504100)) ∧
    (l.Ok → f.goodIn ≤ 9999 ∧ f.damagedIn ≤ 9999 ∧ f.goodOver ≤ 9999 ∧ f.damagedOver ≤ 9999)

/-- R57: Reopen of a VALUED ticket restores its reservation and takes its figures, its valued time, its valuation holds and both
flags away. What a
valuation takes out of the float, the restore puts back where nothing has come between (R31, R32, R116). -/
def Obligations.ReopenBringsATicketBack : Prop :=
  (∀ (n : Nat) (t : Ticket) (s : State), s.receiving .office → s.ticket? n = some t →
      let i : Instr := .reopen Port.office.sent n
      let a := t.account
      (t.state ≠ .valued → exec i s = .next (s.answered .office i (ReqName.ropn.reply .wrongState .none))) ∧
      (t.state = .valued →
        ∃ accounts : Vector Account 256,
          exec i s = .next (({ s with
            accounts := accounts
            tickets := s.tickets.map fun u => if u.number = n then
              { t with
                state := .opened, attachments := [], saturated := false, forced := false, figures := none
                reservation := none, valuedAt := none
                holds := t.holds.filter fun r => r == .watchedTag || r == .duplicateTag } else u } : State).answered
            .office i (ReqName.ropn.reply .ok (.ticketState n .opened))) ∧
          (∀ b : AccountId, b ≠ a ∨ a.val = 0 ∨ t.reservation = none → accounts[b] = s.accounts[b]) ∧
          (∀ rs, t.reservation = some rs → a.val ≠ 0 → (t.lines.map (·.cls)).Nodup →
            (∀ p ∈ t.lines.zip rs,
              accounts[a].outstanding[p.1.cls] = min 65535 (s.accounts[a].outstanding[p.1.cls] + p.2)) ∧
            (∀ c : ClassId, (∀ p ∈ t.lines.zip rs, p.1.cls ≠ c) →
              accounts[a].outstanding[c] = s.accounts[a].outstanding[c]) ∧
            (accounts[a].saturated = true ↔ s.accounts[a].saturated = true ∨
              ∃ p ∈ t.lines.zip rs, 65535 < s.accounts[a].outstanding[p.1.cls] + p.2) ∧
            accounts[a].state = s.accounts[a].state ∧ accounts[a].credit = s.accounts[a].credit ∧
            accounts[a].customer = s.accounts[a].customer))) ∧
  (∀ (forced : Bool) (t v : Ticket) (s : State), AccountsInv s → (t.lines.map (·.cls)).Nodup →
      (s.valueTicket forced t).ticket? t.number = some v →
      ((s.valueTicket forced t).restoreTicket v).accounts = s.accounts)

/-- R58: Void of an OPEN, CLOSING or VALUED ticket: its close wait, its lanes and its float go as the rule says, and it finishes
(`SettlementAndTheSettledLog`) with the VOIDED record of its raw own counts. -/
def Obligations.VoidEndsATicket : Prop :=
  ∀ (n : Nat) (t : Ticket) (s : State), s.receiving .office → s.ticket? n = some t →
    let i : Instr := .void Port.office.sent n
    let now : Stamp := { day := s.clock.day, second := s.clock.second, suspect := s.clock.suspect }
    let rec_ : LogRecord :=
      { number := n, account := t.account, customer := s.accounts[t.account].customer, outcome := .voided
        suspect := t.openedAt.suspect || now.suspect || t.valuedAt.any (·.suspect)
        forced := t.forced, total := (t.figures.map (·.total)).getD 0
        credit := 0, converted := 0, residue := 0, cashPaid := 0, manual := 0, overpay := 0
        opened := t.openedAt, settled := now, valued := t.valuedAt
        lines := List.zipWith (fun l v =>
          { cls := l.cls, goodIn := l.good, damagedIn := l.damaged, goodOver := 0, damagedOver := 0
            foreignGood := l.foreignGood, foreignDamaged := l.foreignDamaged, bottles := l.bottles, value := v })
          t.lines ((t.figures.map fun f => f.lines.map (·.value)).getD (t.lines.map fun _ => 0)) }
    let u : Ticket :=
      { t with state := .settled, attachments := [], closeDeadline := none, outcome := some .voided, settledAt := some now }
    (t.state = .authorised ∨ t.state = .paying ∨ t.state = .payFault ∨ t.state = .settled →
      exec i s = .next (s.answered .office i (ReqName.void.reply .wrongState .none))) ∧
    (t.state = .opened ∨ t.state = .closing ∨ t.state = .valued →
      exec i s = .next ((({ s.restoreTicket t with closingOrder := s.closingOrder.filter (· != n) } : State).finish
        u rec_).answered .office i
        (ReqName.void.reply .ok (.ticketState n (if s.log.length < 64 then .free else .settled)))))

/-- R56, R60: Release takes the reasons it names out of the hold set and nothing else, is refused WRONG_STATE from AUTHORISED on,
and is refused whole where it names ACCOUNT_BLOCKED for a BLOCKED account; Set Limits stores both limits or neither. R40: a ticket request naming a number that
no ticket of the table holds is refused UNKNOWN_TICKET. -/
def Obligations.ReleaseAndSetLimits : Prop :=
  ∀ (n : Nat) (rs : List HoldReason) (threshold wait : Nat) (s : State), s.receiving .office →
    let rels : Instr := .release Port.office.sent n (rs.map HoldReason.code)
    let slim : Instr := .setLimits Port.office.sent threshold wait
    (∀ t, s.ticket? n = some t → rs.length ≤ 5 → t.state ≠ .opened → t.state ≠ .closing → t.state ≠ .valued →
      exec rels s = .next (s.answered .office rels (ReqName.rels.reply .wrongState .none))) ∧
    (∀ t, s.ticket? n = some t → rs.length ≤ 5 → (t.state = .opened ∨ t.state = .closing ∨ t.state = .valued) →
      (HoldReason.accountBlocked ∈ rs → s.accounts[t.account].state = .blocked →
        exec rels s = .next (s.answered .office rels (ReqName.rels.reply .accountBlocked .none))) ∧
      ((HoldReason.accountBlocked ∉ rs ∨ s.accounts[t.account].state ≠ .blocked) →
        let kept := t.holds.filter fun r => decide (r ∉ rs)
        exec rels s = .next ((s.putTicket { t with holds := kept }).answered .office rels
          (ReqName.rels.reply .ok (.released n t.state kept))))) ∧
    (∀ codes : List Nat, (5 < codes.length ∨ ∃ k ∈ codes, 4 < k) →
      exec (.release Port.office.sent n codes) s = .next (s.answered .office (.release Port.office.sent n codes)
        (ReqName.rels.reply .badValue .none))) ∧
    (threshold ≤ 4294967295 → 5 ≤ wait → wait ≤ 600 →
      exec slim s = .next (({ s with reviewThreshold := threshold, closeWait := wait } : State).answered .office slim
        (ReqName.slim.reply .ok (.limits threshold wait)))) ∧
    (wait < 5 ∨ 600 < wait → exec slim s = .next (s.answered .office slim (ReqName.slim.reply .badValue .none))) ∧
    (s.ticket? n = none → rs.length ≤ 5 → ∀ (lane : Nat) (m : Means) (amount : Nat) (i : PulseIx) (x : Instr × ReqName),
      lane ≤ 9 →
      x ∈ [(rels, .rels), (.attachLane Port.office.sent n lane, .atch), (.detachLane Port.office.sent n lane, .dtch),
        (.closeTicket Port.office.sent n, .clos), (.reopen Port.office.sent n, .ropn), (.void Port.office.sent n, .void),
        (.authorise Port.office.sent n m.code amount, .auth), (.revoke Port.office.sent n, .rvok),
        (.resolveRetry Port.office.sent n, .rslv), (.resolveConvert Port.office.sent n, .rslv),
        (.resolveManual Port.office.sent n, .rslv), (.assignStrays Port.office.sent (6 + i.val) n, .asgn)] →
      exec x.1 s = .next (s.answered .office x.1 (x.2.reply .unknownTicket .none)))

/-! ### Arrivals, tally lines and keg tags (Section 4) -/

/-- R71, R72, R75 to R78, R82, R89: an accepted arrival as one event, and its reply. The four cells: an addition to one leaves the other three. The line
of a class takes its old place in the list, or the tail. -/
def Obligations.ArriveAccepted : Prop :=
  (∀ (l : StationLane) (c : ClassId) (o : Origin) (k : Condition) (q bottles : Nat) (tag : Option Nat) (t : Ticket) (s : State),
      s.hears l → s.feeding l.val = some t →
      let r := s.classes[c]
      let old := (t.lines.find? fun x => x.cls == c).getD (Line.fresh c)
      r.state ≠ .unused → 1 ≤ q → q ≤ 99 → (r.kind = .crate → bottles ≤ 2376) →
      (tag ≠ none → r.kind = .keg ∧ q = 1) → (∀ e ∈ s.tags, tag ≠ some e.tag) →
      ((∃ x ∈ t.lines, x.cls = c) ∨ t.lines.length < 8) → old.cell o k + q ≤ 9999 →
      let i : Instr := .arrive sentByStation c.val o.code k.code q bottles tag
      let most := if r.kind = .crate then q * r.slots else 0
      let clamped := decide (r.kind = .crate ∧ most < bottles)
      let placed : Line := { old.addItems o k q with
        bottles := old.bottles + min bottles most
        clamps := if clamped then min 255 (old.clamps + 1) else old.clamps }
      let full := tag.isSome && decide (256 ≤ s.tags.length)
      let seen := tag.any fun g => s.watch.contains g
      let u : Ticket := { t with
        lines := putLine placed t.lines
        untagged := if r.kind = .keg ∧ tag = none then min 9999 (t.untagged + q) else t.untagged
        unrecorded := if full then min 9999 (t.unrecorded + 1) else t.unrecorded
        holds := if seen then addHold .watchedTag t.holds else t.holds
        watchedTag := if seen then t.watchedTag.or tag else t.watchedTag
        attachments := t.attachments.map fun e => if e.lane = l.val then { e with taken := min 65535 (e.taken + 1) } else e }
      let office := if full then s.office.place .tagListFull else s.office
      exec i s = .next (({ s with
          tickets := s.tickets.map fun x => if x.number = t.number then u else x
          tags := match tag with
            | some g => if s.tags.length < 256 then
                s.tags ++ [{ tag := g, ticket := t.number, lane := l
                             stamp := { day := s.clock.day, second := s.clock.second, suspect := s.clock.suspect } }]
                else s.tags
            | none => s.tags
          office := if seen then office.place .hold else office } : State).answeredOnLane l
        (ReqName.arrv.reply .ok (.accepted t.number c.val (old.total + q) (min bottles most) clamped)))) ∧
  ((∀ (o o' : Origin) (k k' : Condition) (n : Nat) (l : Line),
      (l.addItems o k n).cell o' k' = l.cell o' k' + (if o = o' ∧ k = k' then n else 0) ∧
      (l.addItems o k n).cls = l.cls ∧ (l.addItems o k n).bottles = l.bottles ∧ (l.addItems o k n).clamps = l.clamps ∧
      l.cell .own .good = l.good ∧ l.cell .own .damaged = l.damaged ∧ l.cell .foreign .good = l.foreignGood ∧
      l.cell .foreign .damaged = l.foreignDamaged ∧ l.total = l.good + l.damaged + l.foreignGood + l.foreignDamaged) ∧
    (∀ (l : Line) (ls : List Line), (ls.map (·.cls)).Nodup →
      (l.cls ∈ ls.map (·.cls) → putLine l ls = ls.map fun x => if x.cls = l.cls then l else x) ∧
      (l.cls ∉ ls.map (·.cls) → putLine l ls = ls ++ [l])))

/-- R68 to R70, R85, R86: the checks of an Arrive in their order, with what each refusal replies; only a duplicate tag changes
the ticket, and one of another ticket's holds it. -/
def Obligations.ArriveRefusedInOrder : Prop :=
  ∀ (l : StationLane) (cls o k q bottles : Nat) (tag : Option Nat) (s : State), s.hears l →
    let i : Instr := .arrive sentByStation cls o k q bottles tag
    let refusedWith : Result → Body → Prop := fun r b => exec i s = .next (s.answeredOnLane l (ReqName.arrv.reply r b))
    (s.laneFree l.val → refusedWith .noTicket .none) ∧
    (∀ t, s.feeding l.val = some t →
      (15 < cls → refusedWith .badValue (.onTicket t.number)) ∧
      (∀ c : ClassId, c.val = cls →
        let r := s.classes[c]
        let old := (t.lines.find? fun x => x.cls == c).getD (Line.fresh c)
        let bad : Prop := 1 < o ∨ 1 < k ∨ q = 0 ∨ 99 < q ∨ (r.kind = .crate ∧ 2376 < bottles) ∨
          (tag ≠ none ∧ (r.kind ≠ .keg ∨ 1 < q))
        let known : Prop := ∃ e ∈ s.tags, tag = some e.tag
        (r.state = .unused → refusedWith .unknownClass (.onTicket t.number)) ∧
        (r.state ≠ .unused →
          (bad → refusedWith .badValue (.onTicket t.number)) ∧
          (¬bad → ∀ e g, tag = some g → s.tags.find? (fun e => e.tag == g) = some e →
            let u : Ticket := { t with duplicates := min 255 (t.duplicates + 1) }
            let reply := ReqName.arrv.reply .duplicateTag (.duplicate t.number e)
            (e.ticket = t.number → exec i s = .next ((s.putTicket u).answeredOnLane l reply)) ∧
            (e.ticket ≠ t.number →
              exec i s = .next (({ s.putTicket { u with holds := addHold .duplicateTag t.holds } with
                office := s.office.place .hold } : State).answeredOnLane l reply))) ∧
          (¬bad → ¬known → (∀ x ∈ t.lines, x.cls ≠ c) → 8 ≤ t.lines.length →
            refusedWith .linesFull (.onTicket t.number)) ∧
          (¬bad → ¬known → ((∃ x ∈ t.lines, x.cls = c) ∨ t.lines.length < 8) →
            ∀ (origin : Origin) (cond : Condition), origin.code = o → cond.code = k → 9999 < old.cell origin cond + q →
              refusedWith .cellFull (.cellFull t.number (old.cell origin cond))))))

/-- R45, R91: Lane Done takes the lane off its ticket, as Detach Lane does, and answers its count; Lane Query answers the
attachment and changes nothing. -/
def Obligations.LaneDoneAndLaneQuery : Prop :=
  ∀ (l : StationLane) (s : State), s.hears l →
    let done_ : Instr := .laneDone sentByStation
    let qury : Instr := .laneQuery sentByStation
    (s.laneFree l.val →
      exec done_ s = .next (s.answeredOnLane l (ReqName.done.reply .noTicket .none)) ∧
      exec qury s = .next (s.answeredOnLane l (ReqName.qury.reply .ok (.query none)))) ∧
    (∀ t e, s.feeding l.val = some t → t.attachments.find? (fun e => e.lane == l.val) = some e →
      let u : Ticket := { t with attachments := t.attachments.filter fun e => e.lane != l.val }
      let reply := ReqName.done.reply .ok (.laneDone t.number e.taken)
      (t.state = .opened ∨ (∃ e ∈ u.attachments, e.lane ≤ 5) →
        exec done_ s = .next ((s.putTicket u).answeredOnLane l reply)) ∧
      (t.state = .closing → (∀ e ∈ u.attachments, 5 < e.lane) →
        exec done_ s = .next ((s.valueTicket false u).answeredOnLane l reply)) ∧
      (t.state = .opened →
        exec qury s = .next (s.answeredOnLane l (ReqName.qury.reply .ok (.query (some
          { number := t.number, state := .opened, taken := e.taken, waitSeconds := none }))))) ∧
      (∀ d, t.state = .closing → t.closeDeadline = some d →
        exec qury s = .next (s.answeredOnLane l (ReqName.qury.reply .ok (.query (some
          { number := t.number, state := .closing, taken := e.taken, waitSeconds := some ((d - s.now) / 1000) }))))))

/-- R88: the watch list as Watch changes it, with its refusals. The reply shows the list after the request in an order the
manual leaves open: of it this says only that it is an order of the list (log entry 8). -/
def Obligations.WatchListRequests : Prop :=
  ∀ (tag : Nat) (s : State), s.receiving .office →
    let add : Instr := .watchAdd Port.office.sent tag
    let remove : Instr := .watchRemove Port.office.sent tag
    let list : Instr := .watchList Port.office.sent
    let takes : Instr → List Nat → Prop := fun i after => ∃ (shown : List Nat) (draws : Nat), shown.Perm after ∧
      exec i s = .next (({ s with watch := after, draws := draws } : State).answered .office i
        (ReqName.wtch.reply .ok (.watch shown)))
    (tag ∈ s.watch → takes add s.watch ∧ takes remove (s.watch.filter (· != tag))) ∧
    (tag ∉ s.watch →
      (s.watch.length < 8 → takes add (s.watch ++ [tag])) ∧
      (8 ≤ s.watch.length → exec add s = .next (s.answered .office add (ReqName.wtch.reply .listFull .none))) ∧
      exec remove s = .next (s.answered .office remove (ReqName.wtch.reply .wrongState .none))) ∧
    takes list s.watch

/-- R74, R41, R55: every step keeps every tally line, counter, attachment list and hold set within its limits. -/
def Obligations.TallyInvariantKept : Prop :=
  ∀ s t : State, ScheduleInv s → TallyInv s → step s = .next t → TallyInv t

/-- R9, R38, R60, R81, R88, R128, R137, R188: every step keeps every collection within its size and every setting of the ticket
table and the clock within its range; and R39: every ticket number in its range and standing once across the ticket table
and the settled log. R192: and the check field matching the retained content. -/
def Obligations.LimitsAndNumbersKept : Prop :=
  (∀ s t : State, LimitsInv s → step s = .next t → LimitsInv t) ∧
  (∀ s t : State, NumbersInv s → step s = .next t → NumbersInv t) ∧
  (∀ s t : State, CheckInv s → step s = .next t → CheckInv t)

/-- R38, R41, R128, R135: while the retained content is VALID, every step keeps each lane on one ticket at most, the closing
order the CLOSING tickets, a job for each AUTHORISED ticket, one PAYING ticket at most, and the waiting order the SETTLED
ones. -/
def Obligations.FlowInvariantKept : Prop :=
  ∀ s t : State, NumbersInv s → (s.marker = .valid → FlowInv s) → step s = .next t → t.marker = .valid → FlowInv t

/-! ### Pulse lanes (Section 5) -/

/-- R96 to R100: a filtered transition of a pulse lane. A disabled lane takes the level alone; on an enabled one the monitor
starts or stops, and a transition in the direction of the edge field is a bounce within the spacing, or is counted: into the
ticket the lane feeds, or as a stray where no line or cell takes it. The moment is `after` ms on. A transition that the 5 ms
filter cannot have let through is not seen (log entry 12).
The stall of an enabled lane whose beam stays blocked comes once per blocked period, at the first millisecond beyond the
stall time (log entry 19), and before a transition of the lane that comes at that moment or later.
R96, R143, R165: a filter changes its level once the raw input has held the other for the whole filter time, an excursion shorter
than that is not seen, and two changes lie at least the filter time apart. -/
def Obligations.PulseTransitionsAndStalls : Prop :=
  (∀ (i : PulseIx) (blocked : Bool) (after : Nat) (s : State), s.settled = true →
      (s.pulse[i].blocked.level = blocked ∨ s.now + after < s.pulse[i].blocked.next →
        exec (.peyeTransition i blocked after) s = .next s) ∧
      (s.pulse[i].blocked.level ≠ blocked → s.pulse[i].blocked.next ≤ s.now + after →
      let now := s.now + after
      let late : Bool := s.pulse[i].enabled && !s.pulse[i].stalled && (match s.pulse[i].blockedSince with
        | some since => decide (since + 1000 * s.pulse[i].stallTime + 1 ≤ now)
        | none => false)
      let moved : PulseLane := { s.pulse[i] with blocked := { level := blocked, next := now + 5 } }
      let p : PulseLane := if late then { moved with stalled := true } else moved
      let office := if late then s.office.place .stalled else s.office
      let seen : PulseLane :=
        if blocked then { p with blockedSince := some now } else { p with blockedSince := none, stalled := false }
      let counts : Prop := (p.edge = .leading ∧ blocked = true) ∨ (p.edge = .trailing ∧ blocked = false)
      let spaced : Prop := ∀ last, p.lastCounted = some last → p.spacing ≤ now - last
      let with_ : PulseLane → State := fun q => { s.elapse after with pulse := s.pulse.set i.val q i.isLt, office := office }
      let leaves : State → Prop := fun t => exec (.peyeTransition i blocked after) s = .next t.sealed
      let counted : PulseLane := { seen with lastCounted := some now }
      let stray : Prop := leaves { with_ { counted with strays := min 9999 (p.strays + 1) } with office := office.place .strays }
      (p.enabled = false → leaves (with_ p)) ∧
      (p.enabled = true →
        (¬counts → leaves (with_ seen)) ∧
        (counts → ¬spaced → leaves (with_ { seen with bounces := min 65535 (p.bounces + 1) })) ∧
        (counts → spaced → s.laneFree (6 + i.val) → stray) ∧
        (counts → spaced → ∀ t, s.feeding (6 + i.val) = some t →
          let c := p.cls
          let old := (t.lines.find? fun x => x.cls == c).getD (Line.fresh c)
          let fits : Prop := ((∃ x ∈ t.lines, x.cls = c) ∨ t.lines.length < 8) ∧ old.good + 1 ≤ 9999
          (¬fits → stray) ∧
          (fits → (s.classes[c].kind ≠ .crate → s.classes[c].slots = 0) →
            leaves ((with_ counted).putTicket
              { t with
                lines := putLine { old with
                  good := old.good + 1
                  bottles := old.bottles + (if p.mode = .full then s.classes[c].slots else 0) } t.lines
                attachments := t.attachments.map fun e =>
                  if e.lane = 6 + i.val then { e with taken := min 65535 (e.taken + 1) } else e })))))) ∧
  (∀ (i : PulseIx) (since : Nat) (s : State), s.on = true → s.pulse[i].enabled = true → s.pulse[i].blockedSince = some since →
      (s.pulse[i].stalled = false →
        exec (.stall i) s = .next (State.sealed { s.reach (since + 1000 * s.pulse[i].stallTime + 1) with
          pulse := s.pulse.set i.val { s.pulse[i] with stalled := true } i.isLt
          office := s.office.place .stalled })) ∧
      (s.pulse[i].stalled = true → exec (.stall i) s = .next s)) ∧
  (∀ (hold m n : Nat) (f : NoiseFilter) (moves : List Nat),
      ((f.since :: moves).Pairwise (· ≤ ·) → ((f.changes hold moves).map (·.1)).Pairwise fun a b => a + hold ≤ b) ∧
      (f.raw = f.level → f.changes hold [m] = [(m + hold, !f.level)] ∧ (n < m + hold → f.changes hold [m, n] = [])))

/-- R102: Assign Strays, with its checks in their order: it places the whole stray count as own good items of the lane's class,
with the bottles of that many crates in mode FULL, and empties the count. That the reply carries the ticket's state beside the
fields R102 lists is the model's reading of R40 (log entry 13). -/
def Obligations.AssignStraysMovesTheCount : Prop :=
  ∀ (i : PulseIx) (n : Nat) (s : State), s.receiving .office →
    let r : Instr := .assignStrays Port.office.sent (6 + i.val) n
    let p := s.pulse[i]
    let c := p.cls
    let refusedWith : Result → Prop := fun x => exec r s = .next (s.answered .office r (ReqName.asgn.reply x .none))
    (s.ticket? n = none → refusedWith .unknownTicket) ∧
    (∀ t, s.ticket? n = some t →
      let old := (t.lines.find? fun x => x.cls == c).getD (Line.fresh c)
      let line : Prop := (∃ x ∈ t.lines, x.cls = c) ∨ t.lines.length < 8
      (t.state ≠ .opened → refusedWith .wrongState) ∧
      (t.state = .opened →
        (p.strays = 0 → exec r s = .next (s.answered .office r (ReqName.asgn.reply .ok (.assigned n .opened 0 old.total)))) ∧
        (0 < p.strays → ¬line → refusedWith .linesFull) ∧
        (0 < p.strays → line → 9999 < old.good + p.strays → refusedWith .cellFull) ∧
        (0 < p.strays → line → old.good + p.strays ≤ 9999 → (s.classes[c].kind ≠ .crate → s.classes[c].slots = 0) →
          exec r s = .next ((({ s with pulse := s.pulse.set i.val { p with strays := 0 } i.isLt } : State).putTicket
            { t with lines := putLine { old with
                good := old.good + p.strays
                bottles := old.bottles + (if p.mode = .full then p.strays * s.classes[c].slots else 0) } t.lines }).answered
              .office r (ReqName.asgn.reply .ok (.assigned n .opened p.strays (old.total + p.strays))))))) ∧
    (∀ lane, lane < 6 ∨ 9 < lane →
      exec (.assignStrays Port.office.sent lane n) s = .next (s.answered .office (.assignStrays Port.office.sent lane n)
        (ReqName.asgn.reply .badValue .none)))

/-- R104, R105: Set Lane of a pulse lane, with its checks in their order, for every carried value, the working state it leaves when it enables or disables
the lane, and the stall a shortened stall time finds. -/
def Obligations.SetLaneConfiguresAPulseLane : Prop :=
  (∀ (i : PulseIx) (en c e sp st m : Nat) (s : State), s.receiving .office →
    let r : Instr := .setLanePulse Port.office.sent i en c e sp st m
    (1 < en ∨ 15 < c ∨ 1 < e ∨ sp < 20 ∨ 2000 < sp ∨ st < 1 ∨ 60 < st ∨ 1 < m) →
      exec r s = .next (s.answered .office r (ReqName.slan.reply .badValue .none))) ∧
  ∀ (i : PulseIx) (en : Bool) (c : ClassId) (e : Edge) (sp st : Nat) (m : BottleMode) (s : State), s.receiving .office →
    let r : Instr := .setLanePulse Port.office.sent i (if en then 1 else 0) c.val e.code sp st m.code
    let p := s.pulse[i]
    let q : PulseLane :=
      { p with enabled := en, cls := c, edge := e, spacing := sp, stallTime := st, mode := m }
    let unbinds : Prop := p.enabled = true ∧ (en = false ∨ c ≠ p.cls)
    let refusedWith : Result → Prop := fun x => exec r s = .next (s.answered .office r (ReqName.slan.reply x .none))
    let takes : PulseLane → Prop := fun q => exec r s = .next
      (({ s with pulse := s.pulse.set i.val q i.isLt } : State).answered .office r (ReqName.slan.reply .ok (.pulse q)))
    let ranges : Prop := 20 ≤ sp ∧ sp ≤ 2000 ∧ 1 ≤ st ∧ st ≤ 60
    (¬ranges → refusedWith .badValue) ∧
    (ranges → en = true → s.classes[c].state = .unused → refusedWith .unknownClass) ∧
    (ranges → (en = true → s.classes[c].state ≠ .unused) →
      (unbinds → (¬s.laneFree (6 + i.val) ∨ 0 < p.strays) → refusedWith .busy) ∧
      (¬unbinds ∨ (s.laneFree (6 + i.val) ∧ p.strays = 0) →
        (p.enabled = false → en = false → takes q) ∧
        (p.enabled = false → en = true → takes { q with
          lastCounted := none, bounces := 0, stalled := false, blockedSince := if p.blocked.level then some s.now else none }) ∧
        (p.enabled = true → en = false → takes { q with lastCounted := none, stalled := false, blockedSince := none }) ∧
        (p.enabled = true → en = true →
          let newly : Prop := st ≠ p.stallTime ∧ p.stalled = false ∧ ∃ t, p.blockedSince = some t ∧ 1000 * st < s.now - t
          (¬newly → takes q) ∧
          (newly → exec r s = .next (({ s with
              pulse := s.pulse.set i.val { q with stalled := true } i.isLt
              office := s.office.place .stalled } : State).answered .office r
            (ReqName.slan.reply .ok (.pulse { q with stalled := true })))))))

/-- R95, R96, R100: every step keeps every pulse lane record in its ranges, a disabled lane without strays, stall or monitor, and,
with the retained content VALID, an enabled lane bound to a class that is not UNUSED. -/
def Obligations.PulseInvariantKept : Prop :=
  ∀ s t : State, PulseInv s → step s = .next t → PulseInv t

/-! ### Settlement and the settled log (Section 7) -/

/-- R124: the plan of an Authorise. The cash request splits into whole notes, whole coins and a residue below one coin, and the
parts add up to the total. The note denomination is a whole multiple of the coin denomination (Table 8-2). -/
def Obligations.PlanAddsUp : Prop :=
  ∀ (m : Means) (total x un uc : Nat), (m = .split → x ≤ total) → (m ≠ .credit → 0 < uc ∧ uc ∣ un ∧ uc ≤ un) →
    let a := plan m total x un uc
    let c := match m with | .credit => 0 | .cash => total | .split => x
    a.means = m ∧ a.credit = total - c ∧ a.credit + a.residue + a.cash = total ∧
    (m = .credit → a.credit = total ∧ a.notes = 0 ∧ a.coins = 0 ∧ a.cash = 0 ∧ a.residue = 0) ∧
    (m ≠ .credit →
      a.notes = c / un ∧ a.coins = (c - a.notes * un) / uc ∧ a.cash = a.notes * un + a.coins * uc ∧
      a.residue = c - a.cash ∧ a.residue < uc ∧ uc ∣ a.cash)

/-- R123, R125, R126: Authorise's checks in their order, and its effect: the post or the residue, and the job and the
AUTHORISED ticket, or the settlement at once of a ticket without cash. The plan is that of `PlanAddsUp`. -/
def Obligations.AuthorisePlansAndQueues : Prop :=
  ∀ (n x : Nat) (m : Means) (t : Ticket) (s : State), s.receiving .office → s.ticket? n = some t →
    let i : Instr := .authorise Port.office.sent n m.code x
    let total := (t.figures.map (·.total)).getD 0
    let un := (s.disp.denoms.map (·.1)).getD 0
    let uc := (s.disp.denoms.map (·.2)).getD 0
    let a := plan m total x un uc
    let acct := s.accounts[t.account]
    let committed : (PayoutJob → Nat) → (JobProgress → Nat) → Nat := fun f g =>
      (s.queue.map f).sum + (s.disp.job.map g).getD 0
    let notes := s.disp.note.stock - committed (·.notes) fun j => j.plannedNotes - j.notes
    let coins := s.disp.coin.stock - committed (·.coins) fun j => j.plannedCoins - j.coins
    let refusedWith : Result → Prop := fun r => exec i s = .next (s.answered .office i (ReqName.auth.reply r .none))
    let held : Prop := t.saturated = true ∨ t.holds ≠ [] ∨ acct.state = .blocked
    let unmet : Prop := (m ≠ .cash ∧ t.account.val = 0) ∨ (m = .split ∧ (x = 0 ∨ total < x)) ∨ (m ≠ .credit ∧ s.disp.denoms = none)
    let short : Prop := notes < a.notes ∨ coins < a.coins
    let stuck : Prop := 0 < a.cash ∧ (8 ≤ s.queue.length ∨ short)
    let full : Prop := t.account.val ≠ 0 ∧ 4294967295 < acct.credit + (total - a.cash)
    let paidIn : State :=
      if t.account.val = 0 then
        (if a.residue = 0 then s
         else if s.residue + a.residue ≤ 4294967295 then { s with residue := s.residue + a.residue }
         else { s with residue := 4294967295, acctPort := s.acctPort.place .residueSaturated })
      else
        { s with
          accounts := s.accounts.set t.account.val { acct with credit := acct.credit + (total - a.cash) } t.account.isLt }
    (∀ k, 2 < k → exec (.authorise Port.office.sent n k x) s = .next
      (s.answered .office (.authorise Port.office.sent n k x) (ReqName.auth.reply .badValue .none))) ∧
    (t.state ≠ .valued → refusedWith .wrongState) ∧
    (t.state = .valued →
      (t.saturated = true → refusedWith .saturated) ∧
      (t.saturated = false → t.holds ≠ [] → refusedWith .held) ∧
      (t.saturated = false → t.holds = [] → acct.state = .blocked → refusedWith .accountBlocked) ∧
      (¬held → m ≠ .cash → t.account.val = 0 → refusedWith .walkIn) ∧
      (¬held → ¬(m ≠ .cash ∧ t.account.val = 0) → m = .split → (x = 0 ∨ total < x) → refusedWith .badValue) ∧
      (¬held → ¬(m ≠ .cash ∧ t.account.val = 0) → ¬(m = .split ∧ (x = 0 ∨ total < x)) → m ≠ .credit →
        s.disp.denoms = none → refusedWith .stockShort) ∧
      (¬held → ¬unmet → 0 < a.cash → 8 ≤ s.queue.length → refusedWith .queueFull) ∧
      (¬held → ¬unmet → 0 < a.cash → s.queue.length < 8 → short → refusedWith .stockShort) ∧
      (¬held → ¬unmet → ¬stuck → full → refusedWith .accountFull) ∧
      (¬held → ¬unmet → ¬stuck → ¬full → 0 < a.cash →
        exec i s = .next (({ paidIn with
          tickets := s.tickets.map fun u => if u.number = n then { t with state := .authorised, authorisation := some a } else u
          queue := s.queue ++ [{ ticket := n, amount := a.cash, notes := a.notes, coins := a.coins }] } : State).answered
          .office i (ReqName.auth.reply .ok
            (.authorised n .authorised a.credit a.cash a.notes a.coins a.residue (some (s.queue.length + 1)))))) ∧
      (¬held → ¬unmet → ¬stuck → ¬full → a.cash = 0 →
        exec i s = .next ((paidIn.settle { t with authorisation := some a }).answered .office i (ReqName.auth.reply .ok
          (.authorised n (if s.log.length < 64 then .free else .settled) a.credit 0 a.notes a.coins a.residue none)))))

/-- R134 to R136: a settlement sets the overpay, stamps the ticket and finishes it with the
PAID record of its amounts; a ticket that settles without a job has no payout progress, and so no overpay of its own (the model's
reading, log entry 33). A ticket that finishes takes its keg tags out of the list
(R83, R137). With room its record joins the tail of the log and its slot becomes FREE; else it waits in its slot with its
record, at the tail of the waiting order. -/
def Obligations.SettlementAndTheSettledLog : Prop :=
  (∀ (t : Ticket) (f : Figures) (a : Authorisation) (s : State), t.figures = some f → t.authorisation = some a →
      let un := (s.disp.denoms.map (·.1)).getD 0
      let uc := (s.disp.denoms.map (·.2)).getD 0
      let paid := (t.progress.map fun p => p.notesPaid * un + p.coinsPaid * uc).getD 0
      let now : Stamp := { day := s.clock.day, second := s.clock.second, suspect := s.clock.suspect }
      s.settle t = s.finish
        { t with
          state := .settled, outcome := some .paid, settledAt := some now
          progress := t.progress.map fun p => { p with overpay := paid - a.cash } }
        { number := t.number, account := t.account, customer := s.accounts[t.account].customer, outcome := .paid
          suspect := t.openedAt.suspect || now.suspect || t.valuedAt.any (·.suspect)
          forced := t.forced, total := f.total, credit := a.credit, converted := (t.progress.map (·.converted)).getD 0
          residue := a.residue, cashPaid := paid, manual := (t.progress.map (·.manual)).getD 0, overpay := paid - a.cash
          opened := t.openedAt, settled := now, valued := t.valuedAt
          lines := List.zipWith (fun l v =>
            { cls := l.cls, goodIn := v.goodIn, damagedIn := v.damagedIn, goodOver := v.goodOver, damagedOver := v.damagedOver
              foreignGood := l.foreignGood, foreignDamaged := l.foreignDamaged, bottles := l.bottles, value := v.value })
            t.lines f.lines }) ∧
  (∀ (t : Ticket) (r : LogRecord) (s : State),
      let tags := s.tags.filter fun e => e.ticket != t.number
      let accounts := s.acctPort.place .logReady
      (s.log.length < 63 →
        s.finish t r = { s with
          tags := tags, log := s.log ++ [r], tickets := s.tickets.filter fun u => u.number != t.number
          acctPort := accounts }) ∧
      (s.log.length = 63 →
        s.finish t r = { s with
          tags := tags, log := s.log ++ [r], tickets := s.tickets.filter fun u => u.number != t.number
          acctPort := accounts.place .logFull, office := s.office.place .logFull }) ∧
      (64 ≤ s.log.length →
        s.finish t r = { s with
          tags := tags, waiting := s.waiting ++ [t.number]
          tickets := s.tickets.map fun u => if u.number = t.number then { t with record := some r } else u }))

/-- R30, R129: Revoke of an AUTHORISED ticket. One that was never paid from goes back to VALUED with its post reversed, and is
refused where the balance no longer holds it; one returned by a retry goes back to PAY_FAULT and keeps its authorisation. -/
def Obligations.RevokeTakesTheJobBack : Prop :=
  ∀ (n : Nat) (t : Ticket) (s : State), s.receiving .office → s.ticket? n = some t →
    let i : Instr := .revoke Port.office.sent n
    let acct := s.accounts[t.account]
    let total := (t.figures.map (·.total)).getD 0
    let cash := (t.authorisation.map (·.cash)).getD 0
    let back := if t.account.val = 0 then 0 else total - cash
    let left : Ticket → Vector Account 256 → State := fun u accounts => { s with
      queue := s.queue.filter fun j => j.ticket != n
      tickets := s.tickets.map fun x => if x.number = n then u else x
      accounts := accounts }
    (t.state ≠ .authorised → exec i s = .next (s.answered .office i (ReqName.rvok.reply .wrongState .none))) ∧
    (t.state = .authorised →
      (t.progress = none → acct.credit < back →
        exec i s = .next (s.answered .office i (ReqName.rvok.reply .creditCollected .none))) ∧
      (t.progress = none → back ≤ acct.credit →
        exec i s = .next ((left { t with state := .valued, authorisation := none }
          (s.accounts.set t.account.val { acct with credit := acct.credit - back } t.account.isLt)).answered .office i
          (ReqName.rvok.reply .ok (.ticketState n .valued)))) ∧
      (t.progress.isSome = true →
        exec i s = .next ((left { t with state := .payFault } s.accounts).answered .office i
          (ReqName.rvok.reply .ok (.ticketState n .payFault)))))

/-- R40, R131 to R133: the three actions of Resolve on a ticket in PAY_FAULT, each with its checks in their order; on a ticket in
any other state each is refused WRONG_STATE. P is what has been paid and R what remains. That a refused Resolve replies with
its result alone is the model's reading (log entry 23). -/
def Obligations.ResolveEndsAPayoutFault : Prop :=
  (∀ (n : Nat) (t : Ticket) (s : State), s.receiving .office → s.ticket? n = some t → t.state ≠ .payFault →
    ∀ i ∈ [Instr.resolveRetry Port.office.sent n, .resolveConvert Port.office.sent n, .resolveManual Port.office.sent n],
      exec i s = .next (s.answered .office i (ReqName.rslv.reply .wrongState .none))) ∧
  ∀ (n un uc : Nat) (t : Ticket) (p : Progress) (s : State), s.receiving .office → s.ticket? n = some t →
    t.state = .payFault → t.progress = some p → s.disp.denoms = some (un, uc) →
    let retry : Instr := .resolveRetry Port.office.sent n
    let convert : Instr := .resolveConvert Port.office.sent n
    let manual : Instr := .resolveManual Port.office.sent n
    let acct := s.accounts[t.account]
    let paid := p.notesPaid * un + p.coinsPaid * uc
    let rest := (t.authorisation.map (·.cash)).getD 0 - paid
    let notes := rest / un
    let coins := (rest - notes * un) / uc
    let slot : TicketState := if s.log.length < 64 then .free else .settled
    let refusedWith : Instr → Result → Prop := fun i r => exec i s = .next (s.answered .office i (ReqName.rslv.reply r .none))
    let short : Prop := s.notesAvailable < notes ∨ s.coinsAvailable < coins
    let settles : Instr → State → Progress → Prop := fun i s' q =>
      exec i s = .next ((s'.settle { t with progress := some q }).answered .office i
        (ReqName.rslv.reply .ok (.resolved n slot paid rest none)))
    (3 ≤ p.retries → refusedWith retry .retryLimit) ∧
    (p.retries < 3 → rest = 0 → settles retry s p) ∧
    (p.retries < 3 → 0 < rest → 8 ≤ s.queue.length → refusedWith retry .queueFull) ∧
    (p.retries < 3 → 0 < rest → s.queue.length < 8 → short → refusedWith retry .stockShort) ∧
    (p.retries < 3 → 0 < rest → s.queue.length < 8 → ¬short →
      exec retry s = .next (({ s.putTicket { t with state := .authorised, progress := some { p with retries := p.retries + 1 } } with
          queue := s.queue ++ [{ ticket := n, amount := rest, notes := notes, coins := coins }] } : State).answered .office
        retry (ReqName.rslv.reply .ok (.resolved n .authorised paid rest (some (notes, coins, s.queue.length + 1)))))) ∧
    (t.account.val = 0 → refusedWith convert .walkIn) ∧
    (t.account.val ≠ 0 → 4294967295 < acct.credit + rest → refusedWith convert .accountFull) ∧
    (t.account.val ≠ 0 → acct.credit + rest ≤ 4294967295 →
      settles convert
        { s with
          accounts := s.accounts.set t.account.val { acct with credit := acct.credit + rest } t.account.isLt }
        { p with converted := rest }) ∧
    settles manual s { p with manual := rest }

/-- R138, R139: Peek Log shows the oldest record and both counts and changes nothing. Take Log removes the oldest record where it
is named, lets the oldest waiting ticket's record in and frees its slot, and is refused MISMATCH otherwise. -/
def Obligations.PeekAndTakeLog : Prop :=
  ∀ (n : Nat) (s : State), s.receiving .accounts →
    let peek : Instr := .peekLog Port.accounts.sent
    let take : Instr := .takeLog Port.accounts.sent n
    exec peek s = .next (s.answered .accounts peek
      (ReqName.peek.reply .ok (.peek s.log.head? s.log.length s.waiting.length))) ∧
    ((∀ r, s.log.head? = some r → r.number ≠ n) →
      exec take s = .next (s.answered .accounts take
        (ReqName.take.reply .mismatch (.oldest (s.log.head?.map (·.number)))))) ∧
    (∀ r rest, s.log = r :: rest → r.number = n →
      (s.waiting = [] →
        exec take s = .next (({ s with log := rest } : State).answered .accounts take
          (ReqName.take.reply .ok (.logCount rest.length)))) ∧
      (∀ m others t kept, s.waiting = m :: others → s.ticket? m = some t → t.record = some kept →
        let full := rest.length + 1 = 64
        let accounts := s.acctPort.place .logReady
        exec take s = .next (({ s with
            log := rest ++ [kept]
            waiting := others
            tickets := s.tickets.filter fun u => u.number != m
            acctPort := if full then accounts.place .logFull else accounts
            office := if full then s.office.place .logFull else s.office } : State).answered .accounts take
          (ReqName.take.reply .ok (.logCount (rest.length + 1))))))

/-- R124, R128, R131, R134, R150, R157: the amounts of every ticket, job and PAID record go on adding up through every step, while
the retained content is VALID. -/
def Obligations.MoneyInvariantKept : Prop :=
  ∀ s t : State, DispenserInv s → NumbersInv s → (s.marker = .valid → FlowInv s ∧ MoneyInv s) → step s = .next t →
    t.marker = .valid → MoneyInv t

/-! ### Cash dispenser (Section 8) -/

/-- R144, R146, R147: Set Dispenser stores all seven settings or none; Refill sets the stock and, but for a channel in FAULT, the
state that goes with it; Clear Channel brings a channel out of FAULT. The refusals of each. -/
def Obligations.DispenserRequests : Prop :=
  ∀ (v : DispenserSettings) (c : Channel) (n : Nat) (s : State), s.receiving .office →
    let sdsp : Instr := .setDispenser Port.office.sent v.un v.uc v.vendPulse v.jamTime v.doublePick v.noteLow v.coinLow
    let fill : Instr := .refill Port.office.sent c.code n
    let clrc : Instr := .clearChannel Port.office.sent c.code
    let ranges : Prop := 100 ≤ v.un ∧ v.un ≤ 100000 ∧ 1 ≤ v.uc ∧ v.uc ≤ v.un ∧ v.uc ∣ v.un ∧ 20 ≤ v.vendPulse ∧ v.vendPulse ≤ 500 ∧
      500 ≤ v.jamTime ∧ v.jamTime ≤ 10000 ∧ 10 ≤ v.doublePick ∧ v.doublePick ≤ 500 ∧ v.noteLow ≤ 9999 ∧ v.coinLow ≤ 65535
    let open_ : Prop := s.queue ≠ [] ∨ ∃ t ∈ s.tickets, t.state = .paying ∨ t.state = .payFault
    let r := match c with | .notes => s.disp.note | .coins => s.disp.coin
    let low := match c with | .notes => s.disp.noteLow | .coins => s.disp.coinLow
    let most := match c with | .notes => 9999 | .coins => 65535
    let with_ : ChannelRecord → State := fun r => { s with disp := match c with
      | .notes => { s.disp with note := r }
      | .coins => { s.disp with coin := r } }
    let rests : Nat → ChannelState := fun stock => if stock = 0 then .empty else .ready
    let refusedWith : Instr → ReqName → Result → Prop := fun i q x => exec i s = .next (s.answered .office i (q.reply x .none))
    let shows : Instr → ReqName → ChannelRecord → Prop := fun i q r =>
      exec i s = .next ((with_ r).answered .office i (q.reply .ok (.channel r low)))
    (¬ranges → refusedWith sdsp .sdsp .badValue) ∧
    (ranges → open_ → refusedWith sdsp .sdsp .busy) ∧
    (ranges → ¬open_ →
      exec sdsp s = .next (({ s with disp := { s.disp with
          denoms := some (v.un, v.uc), vendPulse := v.vendPulse, jamTime := v.jamTime, doublePick := v.doublePick
          noteLow := v.noteLow, coinLow := v.coinLow } } : State).answered .office sdsp (ReqName.sdsp.reply .ok (.settings v)))) ∧
    (most < n → refusedWith fill .fill .badValue) ∧
    (n ≤ most → r.state = .running → refusedWith fill .fill .busy) ∧
    (n ≤ most → r.state = .fault → shows fill .fill { state := .fault, stock := n }) ∧
    (n ≤ most → r.state = .ready ∨ r.state = .empty → shows fill .fill { state := rests n, stock := n }) ∧
    (r.state ≠ .fault → refusedWith clrc .clrc .wrongState) ∧
    (r.state = .fault → shows clrc .clrc { state := rests r.stock, stock := r.stock }) ∧
    (∀ k, 1 < k →
      refusedWith (.refill Port.office.sent k n) .fill .badValue ∧ refusedWith (.clearChannel Port.office.sent k) .clrc .badValue)

/-- R148, R159: a unit counted out of a channel lowers its stock and tells the office of a low stock, or of one that was 0 before;
a stray adds nothing to any ticket, tells the office, and empties a READY channel whose stock it brings to 0. R152, R154,
R155, R158: an empty store found by its detector, and the end of a job on a fault. -/
def Obligations.StockCountsAndFaults : Prop :=
  (∀ (c : Channel) (s : State),
      let r := match c with | .notes => s.disp.note | .coins => s.disp.coin
      let low := match c with | .notes => s.disp.noteLow | .coins => s.disp.coinLow
      let with_ : ChannelRecord → PortRecord → State := fun r o => { s with
        office := o
        disp := match c with | .notes => { s.disp with note := r } | .coins => { s.disp with coin := r } }
      let told : PortRecord :=
        if r.stock = 0 then s.office.place .stockMismatch
        else if low < r.stock ∧ r.stock - 1 ≤ low then s.office.place .stockLow else s.office
      s.decrement c = with_ { r with stock := r.stock - 1 } told ∧
      s.strayUnit c = with_
        { state := if r.state = .ready ∧ r.stock - 1 = 0 then .empty else r.state, stock := r.stock - 1 }
        (told.place .dispenserStray)) ∧
  (∀ (c : Channel) (j : JobProgress) (cause : FaultCause) (s : State),
      let r := match c with | .notes => s.disp.note | .coins => s.disp.coin
      let gone : ChannelRecord := { state := .empty, stock := 0 }
      s.foundEmpty c = { s with
        office := if r.stock = 0 then s.office else s.office.place .stockMismatch
        disp := match c with | .notes => { s.disp with note := gone } | .coins => { s.disp with coin := gone } } ∧
      (∀ t, s.ticket? j.ticket = some t →
        s.jobFault j cause = { s with
          disp := { s.disp with job := none, noteVend := false, coinRun := false }
          tickets := s.tickets.map fun u => if u.number = j.ticket then
            { t with state := .payFault, progress := t.progress.map fun p => { p with fault := some cause } } else u
          office := (s.office.place .payFault).place .channelFault }))

/-- R149 to R151, R154: taking the head job. Its ticket becomes PAYING, with a payout progress from its first job on; a job of
notes starts its first vend, waits for NOTE_EXIT, or stops on an empty store; a job of coins alone starts the motor or stops
on an empty hopper. The levels of the two empty detectors come with the command, and one that the 20 ms filter cannot have let
through is not seen (log entry 11). -/
def Obligations.JobTakeStartsTheHeadJob : Prop :=
  ∀ (e : Empties) (j : PayoutJob) (rest : List PayoutJob) (t : Ticket) (s : State),
    s.settled = true → s.queue = j :: rest → s.disp.job = none → (∀ u ∈ s.tickets, u.state ≠ .paying) →
    (0 < j.notes → s.disp.note.state = .ready) → (0 < j.coins → s.disp.coin.state = .ready) → s.ticket? j.ticket = some t →
    let paying : Ticket := { t with
      state := .paying
      progress := some (t.progress.getD { notesPaid := 0, coinsPaid := 0, retries := 0, fault := none, converted := 0
                                          manual := 0, overpay := 0 }) }
    let progress : JobProgress :=
      { ticket := j.ticket, amount := j.amount, plannedNotes := j.notes, plannedCoins := j.coins, phase := .notes, notes := 0
        coins := 0, target := 0, fault := none, work := none, since := 0 }
    let sees : FilteredInput → Bool → FilteredInput := fun f found =>
      if f.level ≠ found ∧ f.next ≤ s.now then { level := found, next := max (f.next + 20) s.now }
      else { f with next := max f.next s.now }
    let note := sees s.disp.noteEmpty e.note
    let coin := sees s.disp.coinEmpty e.coin
    let begun : State :=
      { s with
        queue := rest
        tickets := s.tickets.map fun u => if u.number = j.ticket then paying else u
        disp := { s.disp with noteEmpty := note, coinEmpty := coin } }
    let running : State := begun.setDisp { begun.disp with note := { s.disp.note with state := .running }, job := some progress }
    let leaves : State → Prop := fun u => exec (.jobTake e) s = .next u.sealed
    let onNotes : Dispenser → Prop := fun d => leaves (running.setDisp d)
    let onCoins : JobProgress := { progress with phase := .coins, target := j.coins }
    let readied : State := begun.setDisp { begun.disp with job := some onCoins }
    (0 < j.notes →
      (s.disp.note.stock = 0 ∨ note.level = true →
        leaves ((running.foundEmpty .notes).jobFault progress .noteEmpty)) ∧
      (0 < s.disp.note.stock → note.level = false → s.disp.noteExit.level = true →
        onNotes { running.disp with job := some { progress with work := some (.waitClear s.now) } }) ∧
      (0 < s.disp.note.stock → note.level = false → s.disp.noteExit.level = false →
        onNotes { running.disp with noteVend := true, job := some { progress with work := some (.vend s.now .awaited) } })) ∧
    (j.notes = 0 →
      (s.disp.coin.stock = 0 ∨ coin.level = true →
        leaves ((readied.foundEmpty .coins).jobFault onCoins .coinEmpty)) ∧
      (0 < s.disp.coin.stock → coin.level = false →
        leaves (readied.setDisp { readied.disp with
          coin := { s.disp.coin with state := .running }, coinRun := true, job := some { onCoins with since := s.now } })))

/-- R143, R151, R152, R153, R159: the events of a vend, each before the timer of the job that ends next. The vend pulse ends; an
exit pulse starts, and is the vend's exit where the vend awaits one; it ends and counts one note, or two where it is wider than
the double-pick threshold, or it is a stray, and a vend that waited for it is driven at once, its stock and NOTE_EMPTY not read
again (the model's reading, log entry 10); or the jam time passes. A change that the filter of its input cannot have let
through is not seen (log entries 11 and 12). What follows the vend is `AfterTheVend`. And where a timer has ended before an event at the dispenser's inputs, its effect
comes first: the event acts as on the state that the timer's own command leaves (log entries 3 and 11). -/
def Obligations.VendEvents : Prop :=
  (∀ (e : Empties) (after start since : Nat) (j : JobProgress) (s : State), s.settled = true →
    let t := s.now + after
    let jam := s.disp.jamTime
    let moved : Bool → State := fun level =>
      (s.elapse after).setDisp { s.disp with noteExit := { level := level, next := t + 2 }, noteFound := false }
    let starts : Prop := s.disp.noteExit.level = false ∧ s.disp.noteExit.next ≤ t
    let ends : Prop := s.disp.noteExit.level = true ∧ s.disp.noteExit.next ≤ t
    let loose : State := if s.disp.noteFound then moved false else (moved false).strayUnit .notes
    let onStart : State → Prop := fun u => exec (.noteExitStart after) s = .next u.sealed
    let onEnd : State → Prop := fun u => exec (.noteExitEnd e after) s = .next u.sealed
    (¬starts → exec (.noteExitStart after) s = .next s) ∧ (¬ends → exec (.noteExitEnd e after) s = .next s) ∧
    (s.disp.job = some j → j.phase = .notes →
      let sees : FilteredInput → Bool → Nat → FilteredInput := fun f found now =>
        if f.level ≠ found ∧ f.next ≤ now then { level := found, next := max (f.next + 20) now }
        else { f with next := max f.next now }
      let reads : State → State := fun u => u.setDisp { u.disp with
        noteEmpty := sees u.disp.noteEmpty e.note u.now, coinEmpty := sees u.disp.coinEmpty e.coin u.now }
      let stops : Nat → Prop := fun m => exec .noteJamTimeout s = .next (State.sealed
        (((s.reach m).setDisp { s.disp with note := { s.disp.note with state := .fault } }).jobFault j .noteJam))
      (∀ exit, j.work = some (.vend start exit) →
        (s.disp.noteVend = true →
          let off := (s.reach (start + s.disp.vendPulse)).setDisp { s.disp with noteVend := false }
          exec (.noteVendEnd e) s = .next (if exit = .gone then (reads off).afterVend j else off).sealed) ∧
        ((s.disp.noteVend = true → t ≤ start + s.disp.vendPulse) →
          (s.disp.noteVend = false → (exit = .awaited → t ≤ start + jam) ∧ (exit = .passing since → t ≤ since + jam)) →
          (starts → exit = .awaited →
            onStart ((moved true).setDisp { (moved true).disp with job := some { j with work := some (.vend start (.passing t)) } })) ∧
          (starts → exit = .passing since ∨ exit = .gone → onStart (moved true)) ∧
          (ends → exit = .awaited ∨ exit = .gone → onEnd loose) ∧
          (ends → exit = .passing since →
            let one : State := (moved false).countNote { j with work := some (.vend start .gone) }
            let two : State := one.countNote { j with work := some (.vend start .gone), notes := j.notes + 1 }
            let wide := s.disp.doublePick < t - since
            let counted := if wide then two else one
            let total := j.notes + (if wide then 2 else 1)
            onEnd (if s.disp.noteVend then counted
              else (reads counted).afterVend { j with work := some (.vend start .gone), notes := total })))) ∧
      (j.work = some (.waitClear since) → t ≤ since + jam →
        (starts → onStart (moved true)) ∧ (ends → onEnd (loose.driveVend j))) ∧
      (j.work = some (.waitClear since) → stops (since + jam + 1)) ∧
      (j.work = some (.vend start .awaited) → stops (start + jam + 1)) ∧
      (j.work = some (.vend start (.passing since)) → stops (since + jam + 1))) ∧
    ((∀ j, s.disp.job = some j → (j.phase = .coins ∧ t ≤ j.since + jam) ∨ (j.phase = .runOn ∧ t ≤ j.since + 300)) →
      (starts → onStart (moved true)) ∧ (ends → onEnd loose))) ∧
  (∀ (e : Empties) (timer : Instr) (event : Nat → Instr) (after m : Nat) (j : JobProgress) (s u : State),
    let d := s.disp
    let t := s.now + after
    s.settled = true → d.job = some j →
    ((timer = .noteVendEnd { note := d.noteEmpty.level, coin := d.coinEmpty.level } ∧ d.noteVend = true ∧ j.phase = .notes ∧
        ∃ start exit, j.work = some (.vend start exit) ∧ m = start + d.vendPulse) ∨
      (timer = .noteJamTimeout ∧ d.noteVend = false ∧ j.phase = .notes ∧
        ∃ since start, m = since + d.jamTime ∧ (j.work = some (.waitClear since) ∨ j.work = some (.vend since .awaited) ∨
          j.work = some (.vend start (.passing since)))) ∨
      (timer = .coinGapTimeout ∧ j.phase = .coins ∧ m = j.since + d.jamTime) ∨
      (timer = .runOnEnd ∧ j.phase = .runOn ∧ m = j.since + 300)) →
    let again : FilteredInput → Nat → Nat := fun f hold => if f.level then f.next + hold else f.next
    ((event = .noteExitStart ∧ d.noteExit.level = false ∧ d.noteExit.next ≤ t) ∨
      (event = .noteExitEnd e ∧ d.noteExit.level = true ∧ d.noteExit.next ≤ t) ∨
      (event = .coinExitStart ∧ again d.coinExit 2 ≤ t) ∨
      (event = .coinEmptyAsserted ∧ again d.coinEmpty 20 ≤ t ∧ again u.disp.coinEmpty 20 ≤ t)) →
    s.now ≤ m → m < t → exec timer s = .next u → exec (event after) s = exec (event (t - u.now)) u)

/-- R151, R153, R154, R157: what follows a vend and its exit. A note is counted into the job and its ticket; the next vend, the
coin phase with its target, or the completion follows. -/
def Obligations.AfterTheVend : Prop :=
  ∀ (j : JobProgress) (un uc : Nat) (s : State), s.disp.denoms = some (un, uc) → 0 < uc →
    let target := (j.amount - j.notes * un) / uc
    let ended : JobProgress := { j with target := target, work := none }
    let rested := s.setDisp { s.disp with
      note := { s.disp.note with state := if s.disp.note.stock = 0 then .empty else .ready }, noteVend := false
      job := some ended }
    (∀ t, s.ticket? j.ticket = some t →
      let paid : Ticket := { t with progress := t.progress.map fun p => { p with notesPaid := p.notesPaid + 1 } }
      s.countNote j = ((s.decrement .notes).putTicket paid).setDisp
        { (s.decrement .notes).disp with job := some { j with notes := j.notes + 1 } }) ∧
    (j.notes < j.plannedNotes →
      (s.disp.note.stock = 0 ∨ s.disp.noteEmpty.level = true → s.afterVend j = (s.foundEmpty .notes).jobFault j .noteEmpty) ∧
      (0 < s.disp.note.stock → s.disp.noteEmpty.level = false → s.disp.noteExit.level = true →
        s.afterVend j = s.setDisp { s.disp with job := some { j with work := some (.waitClear s.now) } }) ∧
      (0 < s.disp.note.stock → s.disp.noteEmpty.level = false → s.disp.noteExit.level = false →
        s.afterVend j = s.setDisp { s.disp with noteVend := true, job := some { j with work := some (.vend s.now .awaited) } })) ∧
    (j.plannedNotes ≤ j.notes →
      (target = 0 → s.afterVend j = rested.jobComplete ended) ∧
      (0 < target → (s.disp.coin.stock = 0 ∨ s.disp.coinEmpty.level = true) →
        s.afterVend j = (rested.foundEmpty .coins).jobFault ended .coinEmpty) ∧
      (0 < target → 0 < s.disp.coin.stock → s.disp.coinEmpty.level = false →
        s.afterVend j = rested.setDisp { rested.disp with
          coin := { s.disp.coin with state := .running }, coinRun := true
          job := some { ended with phase := .coins, since := s.now } }))

/-- R143, R154 to R157, R159: the events of the coin phase and the run-on window, each before the timer of the job that ends next
(one after it acts as `VendEvents` says). A coin counts in both and is a stray elsewhere; the coin that reaches the target, a gap
beyond the jam time and an empty hopper each stop the motor and open the window, whose end completes the job or ends it on the
fault held. A coin, or an empty hopper, that the filter of its input cannot have let through is not seen: it must have let the
change to clear through before, which no command tells (log entry 12). -/
def Obligations.CoinEvents : Prop :=
  ∀ (after : Nat) (s : State), s.settled = true →
    let now := s.now + after
    let later := s.elapse after
    let started := later.setDisp { s.disp with coinExit := { level := true, next := now + 2 } }
    let emptied := later.setDisp { s.disp with coinEmpty := { level := true, next := now + 20 } }
    let again : FilteredInput → Nat → Nat := fun f hold => if f.level then f.next + hold else f.next
    let starts : Prop := again s.disp.coinExit 2 ≤ now
    let empties : Prop := again s.disp.coinEmpty 20 ≤ now
    let onCoin : State → Prop := fun u => exec (.coinExitStart after) s = .next u.sealed
    let onEmpty : State → Prop := fun u => exec (.coinEmptyAsserted after) s = .next u.sealed
    (¬starts → exec (.coinExitStart after) s = .next s) ∧ (¬empties → exec (.coinEmptyAsserted after) s = .next s) ∧
    (s.disp.job = none → (starts → onCoin (started.strayUnit .coins)) ∧ (empties → onEmpty emptied)) ∧
    (∀ (j : JobProgress) (t : Ticket), s.disp.job = some j → s.ticket? j.ticket = some t →
      let counts : State → JobProgress → State := fun s j =>
        ((s.decrement .coins).putTicket { t with progress := t.progress.map fun p => { p with coinsPaid := p.coinsPaid + 1 } }).setDisp
          { (s.decrement .coins).disp with job := some { j with coins := j.coins + 1 } }
      let window : State → JobProgress → Option FaultCause → State := fun s j cause => s.setDisp { s.disp with
        coinRun := false, job := some { j with phase := .runOn, fault := cause, since := s.now } }
      (j.phase = .notes → (∀ k m, j.timer s.disp = some (k, m) → now ≤ m) →
        (starts → onCoin (started.strayUnit .coins)) ∧ (empties → onEmpty emptied)) ∧
      (j.phase = .coins →
        exec .coinGapTimeout s = .next (window (s.reach (j.since + s.disp.jamTime + 1)) j (some .coinJam)).sealed ∧
        (now ≤ j.since + s.disp.jamTime →
          let j' : JobProgress := { j with since := now }
          (starts → j.coins + 1 < j.target → onCoin (counts started j')) ∧
          (starts → j.target ≤ j.coins + 1 → onCoin (window (counts started j') { j' with coins := j.coins + 1 } none)) ∧
          (empties → onEmpty (window emptied j (some .coinEmpty))))) ∧
      (j.phase = .runOn →
        let ends := s.reach (j.since + 300)
        (now ≤ j.since + 300 → (starts → onCoin (counts started j)) ∧ (empties → onEmpty emptied)) ∧
        (j.fault = none → exec .runOnEnd s = .next (ends.jobComplete j).sealed) ∧
        (j.fault = some .coinJam → exec .runOnEnd s = .next (State.sealed
          ((ends.setDisp { s.disp with coin := { s.disp.coin with state := .fault } }).jobFault j .coinJam))) ∧
        (j.fault = some .coinEmpty → exec .runOnEnd s = .next ((ends.foundEmpty .coins).jobFault j .coinEmpty).sealed))) ∧
    (∀ (j : JobProgress) (t : Ticket), s.ticket? j.ticket = some t →
      let coin := s.disp.coin
      s.jobComplete j = (s.setDisp { s.disp with
        job := none, noteVend := false, coinRun := false
        coin := if coin.state = .running then
          { coin with state := if coin.stock = 0 then .empty else .ready } else coin }).settle t)

/-- R143 to R145, R148: every step keeps the dispenser's settings and stocks in their ranges, each channel's state in keeping with
its stock and the phase of the paying job, and its two outputs driven only where the rules drive them. -/
def Obligations.DispenserInvariantKept : Prop :=
  ∀ s t : State, DispenserInv s → step s = .next t → DispenserInv t

/-! ### Lane bus (Section 9) -/

/-- R167: the arbiter's choice. With no ACTIVE lane requesting it chooses none; else it chooses a requesting lane of the highest
level requested, and no requesting lane of that level comes between the lane that carries the level's mark and the one
chosen, going up from the marked lane and from 5 back to 0 (from lane 0 where the level has no mark). An arbitration with a grant in flight, or
with no ACTIVE lane requesting, changes nothing; else the winner takes the mark of its level from the lanes that held it, the
part drives LBUS_DE for its grant character, and its window opens, with the length in force, in the millisecond of the
arbitration (log entry 22). -/
def Obligations.ArbiterChoosesByPriorityThenInTurn : Prop :=
  (∀ s : State, LaneBusInv s →
      let rec_ : StationLane → StationRecord := fun l => s.bus.lanes[l]
      let asks : StationLane → Prop := fun l => (rec_ l).state = .active ∧ (rec_ l).low.level = true
      let turn : StationLane → StationLane → Nat := fun after l => (l.val + 5 - after.val) % 6
      ((∀ l, ¬asks l) → s.bus.winner = none) ∧
      (∀ l, asks l → ∃ w, s.bus.winner = some w ∧ asks w ∧ (rec_ l).priority ≤ (rec_ w).priority) ∧
      (∀ w l, s.bus.winner = some w → asks l → (rec_ l).priority = (rec_ w).priority →
        (∀ m, (rec_ m).lastGranted = true → (rec_ m).priority = (rec_ w).priority → turn m w ≤ turn m l) ∧
        ((∀ m, (rec_ m).priority = (rec_ w).priority → (rec_ m).lastGranted = false) → w ≤ l))) ∧
  (∀ s : State,
      (s.bus.grant ≠ none ∨ s.bus.winner = none → s.arbitrate = s) ∧
      (∀ w, s.bus.grant = none → s.bus.winner = some w →
        s.arbitrate = { s with bus := { s.bus with
          grant := some { lane := w, phase := .window s.now s.bus.window }
          lbusDe := true
          lanes := Vector.ofFn fun l : StationLane =>
            if l = w then { s.bus.lanes[l] with lastGranted := true }
            else if s.bus.lanes[l].priority = s.bus.lanes[w].priority then { s.bus.lanes[l] with lastGranted := false }
            else s.bus.lanes[l] } }))

/-- R165, R171: a filtered change of a request line. A rise is noted; a fall is noted, re-arms a SILENT lane with no misses, and
lets a free bus be arbitrated. A change that the 5 ms filter cannot have let through is not seen (log entry 12). R173: Set Lane stores priority and window; the mark of a lane whose priority changes goes. R168:
a window takes the length set while its grant character is being sent. -/
def Obligations.RequestLinesAndSetLane : Prop :=
  (∀ (l : StationLane) (low : Bool) (after : Nat) (s : State), s.settled = true →
    let r := s.bus.lanes[l]
    let line : FilteredInput := { level := low, next := s.now + after + 5 }
    let moved : StationRecord → State := fun r => { s.elapse after with
      bus := { s.bus.pass after with lanes := s.bus.lanes.set l.val r l.isLt } }
    let leaves : State → Prop := fun t => exec (.lreqChange l low after) s = .next t.sealed
    (r.low.level = low ∨ s.now + after < r.low.next → exec (.lreqChange l low after) s = .next s) ∧
    (r.low.level ≠ low → r.low.next ≤ s.now + after →
      (low = false → leaves (moved { r with low := line })) ∧
      (low = true → r.state = .active → leaves (moved { r with low := line }).arbitrate) ∧
      (low = true → r.state = .silent → leaves (moved { r with low := line, state := .active, misses := 0 }).arbitrate))) ∧
  (∀ (l : StationLane) (p w : Nat) (s : State), s.receiving .office →
    let i : Instr := .setLaneStation Port.office.sent l p w
    let r := s.bus.lanes[l]
    let r' : StationRecord := { r with priority := p, lastGranted := if r.priority = p then r.lastGranted else false }
    (p ≤ 3 → 10 ≤ w → w ≤ 200 →
      exec i s = .next (({ s with bus := { s.bus with
          lanes := s.bus.lanes.set l.val r' l.isLt, window := w
          grant := s.bus.grant.map fun g => match g.phase with
            | .window since length => { g with phase := .window since (if s.bus.lbusDe then w else length) }
            | _ => g } } : State).answered .office i
        (ReqName.slan.reply .ok (.station r' w)))) ∧
    (3 < p ∨ w < 10 ∨ 200 < w → exec i s = .next (s.answered .office i (ReqName.slan.reply .badValue .none))))

/-- R163, R168 to R170, R172: the events of a grant. A frame start within the window, once the part drives the line no longer,
begins reception and clears the misses, its character placed in the receive buffer and taken; a window that closes is a miss, and
the third makes the lane SILENT; a reception error discards the frame with one line error; the end of the reply ends the grant.
An overrun is told where the buffer still holds the character before, of which no command tells (log entry 6). Each end releases the line and lets the arbiter arbitrate. -/
def Obligations.GrantEvents : Prop :=
  ∀ (l : StationLane) (after since length : Nat) (s : State), s.on = true →
    let r := s.bus.lanes[l]
    let later := s.elapse after
    let with_ : State → StationRecord → State := fun u r => { u with bus := { u.bus with lanes := s.bus.lanes.set l.val r l.isLt } }
    let leaves : Instr → State → Prop := fun i t => exec i s = .next t
    let ends : Instr → State → Prop := fun i u =>
      leaves i (State.arbitrate { u with bus := { u.bus with grant := none, lbusDe := false, buffer := none } }).sealed
    let listens : Prop := s.bus.lbusDe = false ∨ 0 < after
    let wrong : StationRecord := { r with lineErrors := min 65535 (r.lineErrors + 1) }
    let n := min 3 (r.misses + 1)
    (s.bus.grant = some { lane := l, phase := .window since length } →
      (s.now + after ≤ since + length → listens →
        let u := with_ later { r with misses := 0 }
        leaves (.frameStart after) { u with bus := { u.bus with
          grant := some { lane := l, phase := .reception }, buffer := none } }) ∧
      (n < 3 → r.state = .active → ends .grantMiss (with_ (s.reach (since + length)) { r with misses := n })) ∧
      (n = 3 → ends .grantMiss
        { with_ (s.reach (since + length)) { r with misses := 3, state := .silent } with
          office := s.office.place .laneSilent }) ∧
      (s.now + after ≤ since + length → listens → ∀ k : LaneError, k = .framing ∨ k = .overrun ∨ k = .wrongAddress →
        ends (.laneFrameError k after) (with_ later wrong))) ∧
    (s.bus.grant = some { lane := l, phase := .reception } →
      (∀ k : LaneError, k ≠ .wrongAddress →
        ends (.laneFrameError k after) (with_ later wrong)) ∧
      ends (.laneCharTimeout after) (with_ later wrong)) ∧
    (∀ reply, s.bus.grant = some { lane := l, phase := .reply reply } → ends (.laneReplyEnd after) later)

/-- R163, R166, R170, R171: every step keeps every station lane record in its ranges, one mark a level at most, a grant to an
ACTIVE lane only, LBUS_DE driven exactly for a reply or a grant character (of which the model knows the millisecond it is sent
in, log entry 22), and the receive buffer empty, the controller having taken every character a command tells of (log entry 6). -/
def Obligations.LaneBusInvariantKept : Prop :=
  ∀ s t : State, LaneBusInv s → step s = .next t → LaneBusInv t

/-! ### Yard clock, stops and starts (Section 11) -/

/-- R188 to R190: an advance of the yard clock by one second, with the hold at its end; Set Time; the loss and the return of the
crystal. A running part then applies the changes the clock has reached, as `DueChangesAreApplied` says. The sub-second
count is kept in 1/32,768,000 s, and a command carries or stands for the crystal's cycles since it was last fixed (log entry
20): a loss continues it, and an advance leaves what it held beyond the second. In source REFERENCE an advance taken when the
second is full leaves the count and the time one full second on. While NRST is held the crystal alone advances the clock (log
entry 34). -/
def Obligations.ClockCommands : Prop :=
  (∀ (cycles after day second : Nat) (s : State),
      let c := s.clock
      let ticked : YardClock → YardClock := fun c =>
        if c.second < 86399 then { c with second := c.second + 1 }
        else if c.day < 65535 then { c with day := c.day + 1, second := 0 } else c
      let left := if 32768000 ≤ c.sub then c.sub - 32768000 else c.sub % 1000
      (s.on = true → c.source = .crystal → exec .clockAdvance s = .next
        (State.applyDue { s with clock := ticked { c with sub := left, anchor := s.now } }).sealed) ∧
      (s.on = true → c.source = .reference → ∃ ms sub, exec .clockAdvance s = .next
        (State.applyDue { s.elapse ms with clock := ticked { c with sub := sub, anchor := s.now + ms } }).sealed) ∧
      (s.power = .resetHeld ∨ s.power = .backup true → exec .clockAdvance s = .next
        { s with clock := ticked { c with sub := left, anchor := s.now } }) ∧
      (s.receiving .office →
        let i : Instr := .setTime Port.office.sent day second
        let set : YardClock := { c with
          day := day, second := second, sub := 0, anchor := s.now
          suspect := if c.source = .crystal then false else c.suspect }
        let takes : State → Prop := fun t => exec i s = .next (t.answered .office i
          (ReqName.stim.reply .ok (.clock { day := day, second := second, suspect := set.suspect })))
        (86399 < second → exec i s = .next (s.answered .office i (ReqName.stim.reply .badValue .none))) ∧
        (day ≤ 65535 → second ≤ 86399 →
          ((c.day < day ∨ (c.day = day ∧ c.second < second)) → takes (State.applyDue { s with clock := set })) ∧
          ((day < c.day ∨ (day = c.day ∧ second ≤ c.second)) → takes { s with clock := set }))) ∧
      (s.on = true → c.source = .crystal → exec (.crystalLoss cycles after) s = .next { s.elapse after with
        clock := { c with source := .reference, suspect := true, sub := c.sub + cycles * 1000, anchor := s.now + after }
        office := s.office.place .clockSuspect }) ∧
      (s.on = true → c.source = .reference → exec (.crystalReturn after) s = .next { s.elapse after with
        clock := { c with
          source := .crystal, sub := c.sub + (s.now + after - c.anchor) * 32768, anchor := s.now + after } })) ∧
  (∀ s : State, s.on = true → s.clock.source = .reference → s.clock.anchor ≤ s.now →
      s.clock.sub + (s.now - s.clock.anchor) * 32768 ≤ 32768000 →
      ∃ t, exec .clockAdvance s = .next t ∧
        t.clock.sub + 32768000 = s.clock.sub + (t.now - s.clock.anchor) * 32768 ∧ t.clock.sub < 32768 ∧
        t.clock.anchor = t.now ∧ t.now ≤ s.now + 1000)

/-- R11, R12: the head of the pending list is applied while it is due: its stored form replaces the record, or is dropped with
CHANGE_DROPPED where it breaks the in-use rule. R5: the in-use test of a class. -/
def Obligations.DueChangesAreApplied : Prop :=
  (∀ s : State,
      let due : PendingChange → Prop := fun e =>
        e.day < s.clock.day ∨ (e.day = s.clock.day ∧ e.second ≤ s.clock.second)
      (s.changes = [] → s.applyDue = s) ∧
      (∀ e rest, s.changes = e :: rest →
        let breaks : Prop := s.classInUse e.cls = true ∧
          (e.record.state = .unused ∨ (s.classes[e.cls].state ≠ .unused ∧ e.record.kind ≠ s.classes[e.cls].kind))
        (¬due e → s.applyDue = s) ∧
        (due e → breaks →
          s.applyDue = State.applyDue { s with changes := rest, office := s.office.place .changeDropped }) ∧
        (due e → ¬breaks →
          s.applyDue = State.applyDue { s with changes := rest, classes := s.classes.set e.cls.val e.record e.cls.isLt }))) ∧
  (∀ (c : ClassId) (s : State), s.classInUse c = true ↔
      (∃ t ∈ s.tickets, ∃ l ∈ t.lines, l.cls = c) ∨ (∃ a : AccountId, s.accounts[a].outstanding[c] ≠ 0) ∨
        ∃ i : PulseIx, s.pulse[i].enabled = true ∧ s.pulse[i].cls = c)

/-- R187, R190, R192: a stop, the backup supply running low, and the crystal stopping on it. R106, R161, R175, R193: the
inputs settle once after a start, all at one moment and at any time after it (the model's choice, log entry 41); the levels found are no edges, a lane found blocked starts its stall monitor, a note pulse
found in progress is marked as one that is not counted (log entry 9), every filter can let its input change from then on (log
entry 12), and the arbiter arbitrates. A fall of the main supply leaves the crystal running, in either source (log entry 35), and
in source REFERENCE a stop fixes the count the oscillator has come to, under NRST too (log entry 34). -/
def Obligations.StopsAndSettling : Prop :=
  (∀ (cause : StopCause) (cycles : Nat) (s : State),
      (s.on = true →
        exec (.powerStop cause) s = .next { s with
          power := match cause with | .supplyFell => .backup true | .resetLow => .resetHeld
          disp := { s.disp with noteVend := false, coinRun := false }
          bus := { s.bus with lbusDe := false, buffer := none }
          office := { s.office with attention := false }
          acctPort := { s.acctPort with attention := false }
          clock := { s.clock with
            sub := if s.clock.source = .crystal then s.clock.sub
                   else s.clock.sub + (s.now - s.clock.anchor) * 32768
            anchor := s.now } }) ∧
      (s.power = .resetHeld → exec (.powerStop .supplyFell) s = .next { s with power := .backup true }) ∧
      (∀ crystal, s.power = .backup crystal → exec .backupLow s = .next { s with marker := .invalid }) ∧
      (s.power = .backup true → exec (.backupCrystalStop cycles) s = .next { s with
        power := .backup false, lossMark := true, clock := { s.clock with sub := s.clock.sub + cycles * 1000, anchor := s.now } })) ∧
  (∀ (v : InputLevels) (after : Nat) (s : State),
      let found : Bool → FilteredInput := fun level => { level := level, next := s.now + after }
      (s.power = .running false →
        exec (.inputsSettled v after) s = .next (State.sealed (State.arbitrate { s.elapse after with
          power := .running true
          pulse := Vector.ofFn fun i : PulseIx => { s.pulse[i] with
            blocked := found v.blocked[i], stalled := false, lastCounted := none
            blockedSince := if s.pulse[i].enabled && v.blocked[i] then some (s.now + after) else none }
          disp := { s.disp with
            noteExit := found v.noteExit, noteFound := v.noteExit, coinExit := found v.coinExit
            noteEmpty := found v.noteEmpty, coinEmpty := found v.coinEmpty }
          bus := { s.bus.pass after with
            lanes := Vector.ofFn fun l : StationLane => { s.bus.lanes[l] with low := found v.lreqLow[l] } } }))) ∧
      (s.power ≠ .running false → exec (.inputsSettled v after) s = .next s))

/-- R16, R64, R65, R106, R161, R175, R186, R190, R193: a warm start of a part with no change due, no CLOSING and no PAYING ticket:
what stands, and what starts afresh. And in any warm start: each CLOSING ticket is given a forced valuation, in closing
order; then a PAYING one becomes PAY_FAULT with cause RESTART. A stop that cuts the start leaves what its last event left. Until
the inputs settle their filtered levels read clear, from time 0 on (the model's choice, log entry 5). -/
def Obligations.WarmStart : Prop :=
  (∀ (found : StartFound) (s : State), s.on = false → s.marker = .valid → s.check = Config.checkOf s.retained → found.intact = true →
      found.strap = .opened →
      (∀ e ∈ s.changes.head?, s.clock.day < e.day ∨ (s.clock.day = e.day ∧ s.clock.second < e.second)) →
      s.closingOrder = [] → (∀ t ∈ s.tickets, t.state ≠ .paying) →
      let port : PortRecord :=
        { receiver := .recover, overrunMarked := false, buffer := none, reply := none, lineErrors := 0, overruns := 0
          notices := [.warmStart], attention := true }
      let unsettled : FilteredInput := { level := false, next := 0 }
      let warm : ChannelRecord → ChannelRecord := fun r =>
        if r.state = .running then { r with state := if r.stock = 0 then .empty else .ready } else r
      exec (.warmStart found none) s = .next (State.sealed { s with
        power := .running false
        office := if s.lossMark then port.place .clockSuspect else port
        acctPort := port
        lossMark := false
        clock := { s.clock with source := .crystal, suspect := s.clock.suspect || s.lossMark, anchor := s.now }
        pulse := s.pulse.map fun p =>
          { p with stalled := false, blocked := unsettled, lastCounted := none, blockedSince := none }
        disp := { s.disp with
          note := warm s.disp.note, coin := warm s.disp.coin, job := none, noteVend := false, coinRun := false
          noteExit := unsettled, noteFound := false, coinExit := unsettled, noteEmpty := unsettled, coinEmpty := unsettled }
        bus := { s.bus with
          grant := none, lbusDe := false, buffer := none
          lanes := s.bus.lanes.map fun r => { r with state := .active, misses := 0, lineErrors := 0, low := unsettled } } })) ∧
  (∀ (s : State),
      (s.closingOrder = [] → s.forceCloses = s) ∧
      (∀ n rest t, s.closingOrder = n :: rest → n ∉ rest → s.ticket? n = some t →
        s.forceCloses = State.forceCloses (s.valueTicket true { t with attachments := [] })) ∧
      ((∀ t ∈ s.tickets, t.state ≠ .paying) → s.restartFault = s) ∧
      (∀ t, t ∈ s.tickets → t.state = .paying → (∀ u ∈ s.tickets, u.state = .paying → u = t) →
        s.restartFault = { s with
          tickets := s.tickets.map fun u => if u.number = t.number then
            { t with state := .payFault, progress := t.progress.map fun p => { p with fault := some .restart } } else u
          office := s.office.place .payFault }) ∧
      ∀ found : StartFound, s.on = false → s.marker = .valid → s.check = Config.checkOf s.retained → found.intact = true →
        found.strap = .opened → ∃ t, exec (.warmStart found none) s = .next t ∧
          t = State.sealed { s.warmBlocks.lossPhase.applyDue.forceCloses.restartFault with marker := .valid } ∧
          ∀ (point : WarmPoint) (cause : StopCause), exec (.warmStart found (some (point, cause))) s = .next
            (State.sealed (State.halt cause (match point with
              | .afterPorts => s.warmBlocks
              | .afterLossMark => s.warmBlocks.lossPhase
              | .afterChanges n => s.warmBlocks.lossPhase.applyDueN n
              | .afterCloses n => s.warmBlocks.lossPhase.applyDue.forceClosesN n
              | .afterPaying => s.warmBlocks.lossPhase.applyDue.forceCloses.restartFault))))

/-! ### Frames and records (Section 12) -/

/-- R178, R181, R194, R195: the frame of a well-formed request on a terminal port carries that request: no field of any request is
lost or read as another, at the widths of R195 (for deposits and denominations as log entry 42 has them). A request's link is the port its frame comes in on. So does the
frame of a request from the station of a lane. -/
def Obligations.FramesCarryTheirRequest : Prop :=
  (∀ (p : Port) (i : Instr), i.wf = true → i.source? = some p.sent →
      ∃ bs, encodeTerminal i = some bs ∧ decodeTerminal p bs = some i) ∧
  (∀ (l : StationLane) (i : Instr), i.wf = true → i.source? = some sentByStation →
      ∃ cs, encodeStation l i = some cs ∧ decodeStation l cs = some i)

/-- R194: the bytes of every frame the part builds sum to zero modulo 256, and a frame of one changed byte does not pass. R177: a
character of a terminal link carries its byte between a start bit and a stop bit, with even parity; one changed data or parity
bit is a parity error, and a stop bit not at the idle level a framing error. R163: so does a character of the lane bus, with its
mark bit. R178, R179: the characters of a frame with a right check byte are heard as that frame, and a damaged character discards
it. R163, R168, R172: so are the characters of a station frame in a lane's grant, where each is taken from the receive buffer before
the next completes; one not taken by then makes the next an overrun; and a data character before the frame start leaves the window
open (the model's choice, log entry 40). R196: the length of a settled log record. -/
def Obligations.FrameCheckAndRecordLength : Prop :=
  (∀ (b : Byte) (c : LaneChar),
      (portChar b).getLsbD 0 = false ∧ (∀ k, k < 8 → (portChar b).getLsbD (k + 1) = b.getLsbD k) ∧
      (portChar b).getLsbD 10 = true ∧ readPortChar (portChar b) = .ok b ∧
      (∀ k, k < 9 → readPortChar (portChar b ^^^ BitVec.twoPow 11 (k + 1)) = .error .parity) ∧
      readPortChar (portChar b ^^^ BitVec.twoPow 11 10) = .error .framing ∧
      c.bits.getLsbD 0 = false ∧ (∀ k, k < 8 → c.bits.getLsbD (k + 1) = c.data.getLsbD k) ∧ c.bits.getLsbD 9 = c.marked ∧
      c.bits.getLsbD 10 = true ∧ readLaneChar c.bits = .ok c ∧
      readLaneChar (c.bits ^^^ BitVec.twoPow 11 10) = .error .framing) ∧
  (∀ (bs name fields : List Byte) (k : Nat) (w : BitVec 11) (e : PortError), openFrame 0x5A 64 bs = some (name, fields) →
      hear [0x5A] (bs.tail.map portChar) = .complete bs ∧
      (k + 1 < bs.length → readPortChar w = .error e → hear [0x5A] ((bs.tail.map portChar).set k w) = .damaged e)) ∧
  (∀ (l : StationLane) (b : LaneBus) (bytes bs name fields : List Byte) (c d : LaneChar) (taken : Bool) (w : BitVec 11)
      (e : LaneError) (ws : List (BitVec 11 × Bool)),
      (openFrame (stationStart l) 24 bs = some (name, fields) →
        hearLane l b [] ((laneChars bs).map fun c => (c.bits, true)) = .complete bs) ∧
      (readLaneChar w = .error e → hearLane l b bytes ((w, taken) :: ws) = .damaged e) ∧
      (hearLaneChar l bytes c = .more bs → hearLane l b bytes ((c.bits, true) :: (d.bits, false) :: ws) = .damaged .overrun) ∧
      (c.marked = false → hearLane l b [] ((c.bits, true) :: ws) = hearLane l { b with buffer := some c } [] ws)) ∧
  (∀ (start : Byte) (length payload : List Byte),
      let bs := frame start length payload
      sumBytes bs = 0 ∧ bs.length = length.length + payload.length + 2 ∧
      ∀ (k : Nat) (x : Byte), k < bs.length → bs[k]? ≠ some x → sumBytes (bs.set k x) ≠ 0) ∧
  (∀ r : LogRecord,
      (r.valued = none → (recordBytes r).length = 51 + 21 * r.lines.length) ∧
      (r.valued.isSome = true → (recordBytes r).length = 57 + 21 * r.lines.length))

end Statements
end

