-- ==== Sys2Proof/Laws/Filters.lean ====
section
/-! SUPPORT. What the operations on a filtered input can do, said once (R96, R143, R165). -/

set_option Elab.async false

namespace Sys2Proof.Machine

@[simp] theorem FilteredInput.move_level (hold : Nat) (level : Bool) (now : Nat) (f : FilteredInput) :
    (f.move hold level now).level = level := rfl
@[simp] theorem FilteredInput.move_next (hold : Nat) (level : Bool) (now : Nat) (f : FilteredInput) :
    (f.move hold level now).next = now + hold := rfl
@[simp] theorem FilteredInput.found_level (level : Bool) (now : Nat) : (FilteredInput.found level now).level = level := rfl
@[simp] theorem FilteredInput.found_next (level : Bool) (now : Nat) : (FilteredInput.found level now).next = now := rfl
@[simp] theorem FilteredInput.cleared_level (hold : Nat) (f : FilteredInput) : (f.cleared hold).level = false := by
  unfold FilteredInput.cleared; split
  · rfl
  · exact Bool.eq_false_iff.2 ‹_›
@[simp] theorem FilteredInput.cleared_next (hold : Nat) (f : FilteredInput) :
    (f.cleared hold).next = if f.level then f.next + hold else f.next := by
  unfold FilteredInput.cleared; split <;> rfl

theorem FilteredInput.canMove_iff {level : Bool} {now : Nat} {f : FilteredInput} :
    f.canMove level now = true ↔ f.level ≠ level ∧ f.next ≤ now := by simp [FilteredInput.canMove]

/-- An input whose clearing no command tells becomes asserted once the filter has let both changes through. -/
theorem FilteredInput.cleared_canMove_iff {hold now : Nat} {f : FilteredInput} :
    (f.cleared hold).canMove true now = true ↔ (if f.level then f.next + hold else f.next) ≤ now := by
  simp [FilteredInput.canMove_iff]

/-- A reading that the filter can have let through is what is found, and any other is the level held. -/
theorem FilteredInput.read_level (hold : Nat) (found : Bool) (now : Nat) (f : FilteredInput) :
    (f.read hold found now).level = if f.next ≤ now then found else f.level := by
  unfold FilteredInput.read
  by_cases h : f.next ≤ now <;> by_cases e : f.level = found <;> simp [FilteredInput.canMove, h, e]

/-- After a reading the filter lets no change through at an earlier time. -/
theorem FilteredInput.read_next_ge (hold : Nat) (found : Bool) (now : Nat) (f : FilteredInput) :
    now ≤ (f.read hold found now).next := by
  unfold FilteredInput.read; split <;> exact Nat.le_max_right _ _

/-- A level read once is read again at the same time. -/
theorem FilteredInput.read_again (hold : Nat) (now : Nat) (f : FilteredInput) :
    f.read hold f.level now = { f with next := max f.next now } := by simp [FilteredInput.read, FilteredInput.canMove]

end Sys2Proof.Machine
end

