-- ==== Sys2Proof/Laws/Operands.lean ====
section
/-! SUPPORT. Named values and their codes (R195): the code of a name reads back as that name, a byte beyond the list names
nothing, and no two names share a code. -/

set_option Elab.async false

namespace Sys2Proof.Machine

/-- The place of a name in a list that holds it, read back. -/
theorem getElem?_placeOf {α : Type} [DecidableEq α] {x : α} : ∀ {l : List α}, x ∈ l → l[placeOf l x]? = some x
  | [], h => absurd h (List.not_mem_nil)
  | y :: ys, h => by
    by_cases e : x = y
    · simp [placeOf, e]
    · have : x ∈ ys := by simpa [e] using h
      simp [placeOf, e, getElem?_placeOf this]

/-- A place read from a list without repeats is the place of its name. -/
theorem placeOf_of_getElem? {α : Type} [DecidableEq α] {x : α} {k : Nat} {l : List α} (hl : l.Nodup) (h : l[k]? = some x) :
    placeOf l x = k := by
  have hk := (List.getElem?_eq_some_iff.1 h).1
  have hx : x ∈ l := List.mem_of_getElem? h
  have h' := getElem?_placeOf hx
  have hk' := (List.getElem?_eq_some_iff.1 h').1
  exact (List.Nodup.getElem_inj_iff hl).1
    (((List.getElem?_eq_some_iff.1 h').2).trans ((List.getElem?_eq_some_iff.1 h).2).symm)

@[simp] theorem ClassState.ofCode_code (x : ClassState) : ClassState.ofCode x.code = some x := by cases x <;> rfl
theorem ClassState.ofCode_eq_some {k : Nat} {x : ClassState} : ClassState.ofCode k = some x ↔ x.code = k :=
  ⟨placeOf_of_getElem? (by decide), fun h => h ▸ ClassState.ofCode_code x⟩
theorem ClassState.ofCode_eq_none {k : Nat} : ClassState.ofCode k = none ↔ ClassState.names.length ≤ k := by
  simp [ClassState.ofCode]
theorem ClassState.code_inj {x y : ClassState} : x.code = y.code ↔ x = y :=
  ⟨fun h => Option.some.inj (by rw [← ClassState.ofCode_code x, h, ClassState.ofCode_code]), fun h => h ▸ rfl⟩

@[simp] theorem Kind.ofCode_code (x : Kind) : Kind.ofCode x.code = some x := by cases x <;> rfl
theorem Kind.ofCode_eq_some {k : Nat} {x : Kind} : Kind.ofCode k = some x ↔ x.code = k :=
  ⟨placeOf_of_getElem? (by decide), fun h => h ▸ Kind.ofCode_code x⟩
theorem Kind.ofCode_eq_none {k : Nat} : Kind.ofCode k = none ↔ Kind.names.length ≤ k := by
  simp [Kind.ofCode]
theorem Kind.code_inj {x y : Kind} : x.code = y.code ↔ x = y :=
  ⟨fun h => Option.some.inj (by rw [← Kind.ofCode_code x, h, Kind.ofCode_code]), fun h => h ▸ rfl⟩

@[simp] theorem AccountState.ofCode_code (x : AccountState) : AccountState.ofCode x.code = some x := by cases x <;> rfl
theorem AccountState.ofCode_eq_some {k : Nat} {x : AccountState} : AccountState.ofCode k = some x ↔ x.code = k :=
  ⟨placeOf_of_getElem? (by decide), fun h => h ▸ AccountState.ofCode_code x⟩
theorem AccountState.ofCode_eq_none {k : Nat} : AccountState.ofCode k = none ↔ AccountState.names.length ≤ k := by
  simp [AccountState.ofCode]
theorem AccountState.code_inj {x y : AccountState} : x.code = y.code ↔ x = y :=
  ⟨fun h => Option.some.inj (by rw [← AccountState.ofCode_code x, h, AccountState.ofCode_code]), fun h => h ▸ rfl⟩

@[simp] theorem TicketState.ofCode_code (x : TicketState) : TicketState.ofCode x.code = some x := by cases x <;> rfl
theorem TicketState.ofCode_eq_some {k : Nat} {x : TicketState} : TicketState.ofCode k = some x ↔ x.code = k :=
  ⟨placeOf_of_getElem? (by decide), fun h => h ▸ TicketState.ofCode_code x⟩
theorem TicketState.ofCode_eq_none {k : Nat} : TicketState.ofCode k = none ↔ TicketState.names.length ≤ k := by
  simp [TicketState.ofCode]
theorem TicketState.code_inj {x y : TicketState} : x.code = y.code ↔ x = y :=
  ⟨fun h => Option.some.inj (by rw [← TicketState.ofCode_code x, h, TicketState.ofCode_code]), fun h => h ▸ rfl⟩

@[simp] theorem HoldReason.ofCode_code (x : HoldReason) : HoldReason.ofCode x.code = some x := by cases x <;> rfl
theorem HoldReason.ofCode_eq_some {k : Nat} {x : HoldReason} : HoldReason.ofCode k = some x ↔ x.code = k :=
  ⟨placeOf_of_getElem? (by decide), fun h => h ▸ HoldReason.ofCode_code x⟩
theorem HoldReason.ofCode_eq_none {k : Nat} : HoldReason.ofCode k = none ↔ HoldReason.names.length ≤ k := by
  simp [HoldReason.ofCode]
theorem HoldReason.code_inj {x y : HoldReason} : x.code = y.code ↔ x = y :=
  ⟨fun h => Option.some.inj (by rw [← HoldReason.ofCode_code x, h, HoldReason.ofCode_code]), fun h => h ▸ rfl⟩

@[simp] theorem Means.ofCode_code (x : Means) : Means.ofCode x.code = some x := by cases x <;> rfl
theorem Means.ofCode_eq_some {k : Nat} {x : Means} : Means.ofCode k = some x ↔ x.code = k :=
  ⟨placeOf_of_getElem? (by decide), fun h => h ▸ Means.ofCode_code x⟩
theorem Means.ofCode_eq_none {k : Nat} : Means.ofCode k = none ↔ Means.names.length ≤ k := by
  simp [Means.ofCode]
theorem Means.code_inj {x y : Means} : x.code = y.code ↔ x = y :=
  ⟨fun h => Option.some.inj (by rw [← Means.ofCode_code x, h, Means.ofCode_code]), fun h => h ▸ rfl⟩

@[simp] theorem FaultCause.ofCode_code (x : FaultCause) : FaultCause.ofCode x.code = some x := by cases x <;> rfl
theorem FaultCause.ofCode_eq_some {k : Nat} {x : FaultCause} : FaultCause.ofCode k = some x ↔ x.code = k :=
  ⟨placeOf_of_getElem? (by decide), fun h => h ▸ FaultCause.ofCode_code x⟩
theorem FaultCause.ofCode_eq_none {k : Nat} : FaultCause.ofCode k = none ↔ FaultCause.names.length ≤ k := by
  simp [FaultCause.ofCode]
theorem FaultCause.code_inj {x y : FaultCause} : x.code = y.code ↔ x = y :=
  ⟨fun h => Option.some.inj (by rw [← FaultCause.ofCode_code x, h, FaultCause.ofCode_code]), fun h => h ▸ rfl⟩

@[simp] theorem TicketOutcome.ofCode_code (x : TicketOutcome) : TicketOutcome.ofCode x.code = some x := by cases x <;> rfl
theorem TicketOutcome.ofCode_eq_some {k : Nat} {x : TicketOutcome} : TicketOutcome.ofCode k = some x ↔ x.code = k :=
  ⟨placeOf_of_getElem? (by decide), fun h => h ▸ TicketOutcome.ofCode_code x⟩
theorem TicketOutcome.ofCode_eq_none {k : Nat} : TicketOutcome.ofCode k = none ↔ TicketOutcome.names.length ≤ k := by
  simp [TicketOutcome.ofCode]
theorem TicketOutcome.code_inj {x y : TicketOutcome} : x.code = y.code ↔ x = y :=
  ⟨fun h => Option.some.inj (by rw [← TicketOutcome.ofCode_code x, h, TicketOutcome.ofCode_code]), fun h => h ▸ rfl⟩

@[simp] theorem Origin.ofCode_code (x : Origin) : Origin.ofCode x.code = some x := by cases x <;> rfl
theorem Origin.ofCode_eq_some {k : Nat} {x : Origin} : Origin.ofCode k = some x ↔ x.code = k :=
  ⟨placeOf_of_getElem? (by decide), fun h => h ▸ Origin.ofCode_code x⟩
theorem Origin.ofCode_eq_none {k : Nat} : Origin.ofCode k = none ↔ Origin.names.length ≤ k := by
  simp [Origin.ofCode]
theorem Origin.code_inj {x y : Origin} : x.code = y.code ↔ x = y :=
  ⟨fun h => Option.some.inj (by rw [← Origin.ofCode_code x, h, Origin.ofCode_code]), fun h => h ▸ rfl⟩

@[simp] theorem Condition.ofCode_code (x : Condition) : Condition.ofCode x.code = some x := by cases x <;> rfl
theorem Condition.ofCode_eq_some {k : Nat} {x : Condition} : Condition.ofCode k = some x ↔ x.code = k :=
  ⟨placeOf_of_getElem? (by decide), fun h => h ▸ Condition.ofCode_code x⟩
theorem Condition.ofCode_eq_none {k : Nat} : Condition.ofCode k = none ↔ Condition.names.length ≤ k := by
  simp [Condition.ofCode]
theorem Condition.code_inj {x y : Condition} : x.code = y.code ↔ x = y :=
  ⟨fun h => Option.some.inj (by rw [← Condition.ofCode_code x, h, Condition.ofCode_code]), fun h => h ▸ rfl⟩

@[simp] theorem Edge.ofCode_code (x : Edge) : Edge.ofCode x.code = some x := by cases x <;> rfl
theorem Edge.ofCode_eq_some {k : Nat} {x : Edge} : Edge.ofCode k = some x ↔ x.code = k :=
  ⟨placeOf_of_getElem? (by decide), fun h => h ▸ Edge.ofCode_code x⟩
theorem Edge.ofCode_eq_none {k : Nat} : Edge.ofCode k = none ↔ Edge.names.length ≤ k := by
  simp [Edge.ofCode]
theorem Edge.code_inj {x y : Edge} : x.code = y.code ↔ x = y :=
  ⟨fun h => Option.some.inj (by rw [← Edge.ofCode_code x, h, Edge.ofCode_code]), fun h => h ▸ rfl⟩

@[simp] theorem BottleMode.ofCode_code (x : BottleMode) : BottleMode.ofCode x.code = some x := by cases x <;> rfl
theorem BottleMode.ofCode_eq_some {k : Nat} {x : BottleMode} : BottleMode.ofCode k = some x ↔ x.code = k :=
  ⟨placeOf_of_getElem? (by decide), fun h => h ▸ BottleMode.ofCode_code x⟩
theorem BottleMode.ofCode_eq_none {k : Nat} : BottleMode.ofCode k = none ↔ BottleMode.names.length ≤ k := by
  simp [BottleMode.ofCode]
theorem BottleMode.code_inj {x y : BottleMode} : x.code = y.code ↔ x = y :=
  ⟨fun h => Option.some.inj (by rw [← BottleMode.ofCode_code x, h, BottleMode.ofCode_code]), fun h => h ▸ rfl⟩

@[simp] theorem Channel.ofCode_code (x : Channel) : Channel.ofCode x.code = some x := by cases x <;> rfl
theorem Channel.ofCode_eq_some {k : Nat} {x : Channel} : Channel.ofCode k = some x ↔ x.code = k :=
  ⟨placeOf_of_getElem? (by decide), fun h => h ▸ Channel.ofCode_code x⟩
theorem Channel.ofCode_eq_none {k : Nat} : Channel.ofCode k = none ↔ Channel.names.length ≤ k := by
  simp [Channel.ofCode]
theorem Channel.code_inj {x y : Channel} : x.code = y.code ↔ x = y :=
  ⟨fun h => Option.some.inj (by rw [← Channel.ofCode_code x, h, Channel.ofCode_code]), fun h => h ▸ rfl⟩

@[simp] theorem ChannelState.ofCode_code (x : ChannelState) : ChannelState.ofCode x.code = some x := by cases x <;> rfl
theorem ChannelState.ofCode_eq_some {k : Nat} {x : ChannelState} : ChannelState.ofCode k = some x ↔ x.code = k :=
  ⟨placeOf_of_getElem? (by decide), fun h => h ▸ ChannelState.ofCode_code x⟩
theorem ChannelState.ofCode_eq_none {k : Nat} : ChannelState.ofCode k = none ↔ ChannelState.names.length ≤ k := by
  simp [ChannelState.ofCode]
theorem ChannelState.code_inj {x y : ChannelState} : x.code = y.code ↔ x = y :=
  ⟨fun h => Option.some.inj (by rw [← ChannelState.ofCode_code x, h, ChannelState.ofCode_code]), fun h => h ▸ rfl⟩

@[simp] theorem JobPhase.ofCode_code (x : JobPhase) : JobPhase.ofCode x.code = some x := by cases x <;> rfl
theorem JobPhase.ofCode_eq_some {k : Nat} {x : JobPhase} : JobPhase.ofCode k = some x ↔ x.code = k :=
  ⟨placeOf_of_getElem? (by decide), fun h => h ▸ JobPhase.ofCode_code x⟩
theorem JobPhase.ofCode_eq_none {k : Nat} : JobPhase.ofCode k = none ↔ JobPhase.names.length ≤ k := by
  simp [JobPhase.ofCode]
theorem JobPhase.code_inj {x y : JobPhase} : x.code = y.code ↔ x = y :=
  ⟨fun h => Option.some.inj (by rw [← JobPhase.ofCode_code x, h, JobPhase.ofCode_code]), fun h => h ▸ rfl⟩

@[simp] theorem LaneState.ofCode_code (x : LaneState) : LaneState.ofCode x.code = some x := by cases x <;> rfl
theorem LaneState.ofCode_eq_some {k : Nat} {x : LaneState} : LaneState.ofCode k = some x ↔ x.code = k :=
  ⟨placeOf_of_getElem? (by decide), fun h => h ▸ LaneState.ofCode_code x⟩
theorem LaneState.ofCode_eq_none {k : Nat} : LaneState.ofCode k = none ↔ LaneState.names.length ≤ k := by
  simp [LaneState.ofCode]
theorem LaneState.code_inj {x y : LaneState} : x.code = y.code ↔ x = y :=
  ⟨fun h => Option.some.inj (by rw [← LaneState.ofCode_code x, h, LaneState.ofCode_code]), fun h => h ▸ rfl⟩

@[simp] theorem ClockSource.ofCode_code (x : ClockSource) : ClockSource.ofCode x.code = some x := by cases x <;> rfl
theorem ClockSource.ofCode_eq_some {k : Nat} {x : ClockSource} : ClockSource.ofCode k = some x ↔ x.code = k :=
  ⟨placeOf_of_getElem? (by decide), fun h => h ▸ ClockSource.ofCode_code x⟩
theorem ClockSource.ofCode_eq_none {k : Nat} : ClockSource.ofCode k = none ↔ ClockSource.names.length ≤ k := by
  simp [ClockSource.ofCode]
theorem ClockSource.code_inj {x y : ClockSource} : x.code = y.code ↔ x = y :=
  ⟨fun h => Option.some.inj (by rw [← ClockSource.ofCode_code x, h, ClockSource.ofCode_code]), fun h => h ▸ rfl⟩

@[simp] theorem Notice.ofCode_code (x : Notice) : Notice.ofCode x.code = some x := by cases x <;> rfl
theorem Notice.ofCode_eq_some {k : Nat} {x : Notice} : Notice.ofCode k = some x ↔ x.code = k :=
  ⟨placeOf_of_getElem? (by decide), fun h => h ▸ Notice.ofCode_code x⟩
theorem Notice.ofCode_eq_none {k : Nat} : Notice.ofCode k = none ↔ Notice.names.length ≤ k := by
  simp [Notice.ofCode]
theorem Notice.code_inj {x y : Notice} : x.code = y.code ↔ x = y :=
  ⟨fun h => Option.some.inj (by rw [← Notice.ofCode_code x, h, Notice.ofCode_code]), fun h => h ▸ rfl⟩

@[simp] theorem Result.ofCode_code (x : Result) : Result.ofCode x.code = some x := by cases x <;> rfl
theorem Result.ofCode_eq_some {k : Nat} {x : Result} : Result.ofCode k = some x ↔ x.code = k :=
  ⟨placeOf_of_getElem? (by decide), fun h => h ▸ Result.ofCode_code x⟩
theorem Result.ofCode_eq_none {k : Nat} : Result.ofCode k = none ↔ Result.names.length ≤ k := by
  simp [Result.ofCode]
theorem Result.code_inj {x y : Result} : x.code = y.code ↔ x = y :=
  ⟨fun h => Option.some.inj (by rw [← Result.ofCode_code x, h, Result.ofCode_code]), fun h => h ▸ rfl⟩

@[simp] theorem flagOf_flagCode (b : Bool) : flagOf (flagCode b) = some b := by cases b <;> rfl
theorem flagOf_eq_none {k : Nat} : flagOf k = none ↔ 1 < k := by
  rcases k with _ | _ | k <;> simp [flagOf]

@[simp] theorem classOf_val (c : ClassId) : classOf c.val = some c := by simp [classOf]
theorem classOf_eq_some {k : Nat} {c : ClassId} : classOf k = some c ↔ c.val = k := by
  simp only [classOf, Option.dite_none_right_eq_some, Option.some.injEq]
  exact ⟨fun ⟨_, h⟩ => h ▸ rfl, fun h => ⟨h ▸ c.isLt, Fin.ext h.symm⟩⟩
theorem classOf_eq_none {k : Nat} : classOf k = none ↔ 15 < k := by
  simp [classOf]; omega

@[simp] theorem pulseOf_pulseNumber (i : PulseIx) : pulseOf (pulseNumber i) = some i := by
  have := i.isLt
  simp [pulseOf, pulseNumber]
theorem pulseOf_eq_none {k : Nat} : pulseOf k = none ↔ k < 6 ∨ 9 < k := by
  simp only [pulseOf, dite_eq_right_iff, reduceCtorEq, imp_false]; omega

theorem isStationLane_iff {lane : Nat} : isStationLane lane = true ↔ lane < 6 := by simp [isStationLane]
theorem inRange_iff {low high n : Nat} : inRange low high n = true ↔ low ≤ n ∧ n ≤ high := by simp [inRange]

end Sys2Proof.Machine
end

