-- ==== Sys2Proof/Laws/Wire.lean ====
section
/-! SUPPORT. What the field encodings of R195 do: their lengths, and that a field read back is the field written. -/

set_option Elab.async false

namespace Sys2Proof.Machine

@[simp] theorem be_length (k n : Nat) : (be k n).length = k := by
  induction k with
  | zero => rfl
  | succ k ih => simp [be, ih]

@[simp] theorem flagByte_length (b : Bool) : (flagByte b).length = 1 := be_length 1 _

@[simp] theorem signedBytes_length (n : Int) : (signedBytes n).length = 2 := be_length 2 _

theorem counted_one_length (xs : List Nat) : (counted (be 1) xs).length = 1 + xs.length := by
  simp only [counted, List.length_append, be_length, Nat.add_left_cancel_iff]
  induction xs with
  | nil => rfl
  | cons x xs ih => simp [ih]; omega

theorem ofBE_foldl (bs : List Byte) (n : Nat) :
    bs.foldl (fun n b => 256 * n + b.toNat) n = 256 ^ bs.length * n + ofBE bs := by
  induction bs generalizing n with
  | nil => simp [ofBE]
  | cons b bs ih =>
    have hb : ofBE (b :: bs) = 256 ^ bs.length * b.toNat + ofBE bs := by
      have := ih (256 * 0 + b.toNat)
      rw [Nat.mul_zero, Nat.zero_add] at this
      rw [← this]
      simp only [ofBE, List.foldl_cons, Nat.mul_zero, Nat.zero_add]
    rw [hb, List.foldl_cons, ih, List.length_cons, Nat.pow_succ]
    ring

/-- A number that fits its bytes is read back from them (R195). -/
theorem ofBE_be (k n : Nat) (h : n < 256 ^ k) : ofBE (be k n) = n := by
  induction k generalizing n with
  | zero => simp at h; simp [be, ofBE, h]
  | succ k ih =>
    have hb : ofBE (be k n) = n % 256 ^ k := by
      have e : be k n = be k (n % 256 ^ k) := by
        clear ih h
        suffices ∀ m, m ≤ k → be m n = be m (n % 256 ^ k) from this k (Nat.le_refl k)
        intro m hm
        induction m with
        | zero => rfl
        | succ m ihm =>
          simp only [be, ihm (by omega), List.cons.injEq, and_true]
          have hk : 256 ^ k = 256 ^ m * 256 * 256 ^ (k - m - 1) := by
            rw [← Nat.pow_succ, ← Nat.pow_add]; congr 1; omega
          apply BitVec.eq_of_toNat_eq
          simp only [BitVec.toNat_ofNat]
          rw [hk, show (2 : Nat) ^ 8 = 256 from rfl]
          rw [← Nat.mod_mul_right_div_self, ← Nat.mod_mul_right_div_self]
          rw [Nat.mod_mod_of_dvd _ (Dvd.intro _ rfl)]
      rw [e, ih _ (Nat.mod_lt _ (Nat.pow_pos (by decide)))]
    have hn : n / 256 ^ k < 256 := by
      rw [Nat.div_lt_iff_lt_mul (Nat.pow_pos (by decide))]; rw [Nat.pow_succ] at h; omega
    have := Nat.div_add_mod n (256 ^ k)
    have e : ofBE (be (k + 1) n) = 256 ^ k * (256 * 0 + (BitVec.ofNat 8 (n / 256 ^ k)).toNat) + ofBE (be k n) := by
      have := ofBE_foldl (be k n) (256 * 0 + (BitVec.ofNat 8 (n / 256 ^ k)).toNat)
      rw [be_length] at this
      exact this
    rw [e, hb, BitVec.toNat_ofNat, Nat.mod_eq_of_lt hn, Nat.mul_zero, Nat.zero_add]
    exact this

/-- A two-byte signed number is read back from its bytes (R195). -/
theorem ofSigned_signed (n : Int) (lo : -32768 ≤ n) (hi : n < 32768) : ofSigned (n % 65536).toNat = n := by
  unfold ofSigned; split <;> omega

theorem sumBytes_append (xs ys : List Byte) : sumBytes (xs ++ ys) = sumBytes xs + sumBytes ys := by
  induction xs with
  | nil => simp [sumBytes]
  | cons x xs ih =>
    simp only [sumBytes, List.cons_append, List.foldr_cons] at *
    rw [ih, BitVec.add_assoc]

end Sys2Proof.Machine

namespace Sys2Proof

open Machine

/-- Reading a field takes the bytes that writing it made, and leaves what follows them (R195). -/
theorem readU_be (k n : Nat) (rest : List Byte) (h : n < 256 ^ k) : readU k (be k n ++ rest) = some (n, rest) := by
  have hk : k ≤ (be k n ++ rest).length := by simp
  simp only [readU, hk, if_true]
  rw [List.take_append_of_le_length (by simp), List.drop_append_of_le_length (by simp)]
  simp [List.take_of_length_le, List.drop_of_length_le, ofBE_be k n h]

/-- As `readU_be`, for a field that ends its frame. -/
theorem readU_be_end (k n : Nat) (h : n < 256 ^ k) : readU k (be k n) = some (n, []) := by
  simpa using readU_be k n [] h

/-- A list of codes is read back whole (R195). -/
theorem readCodes_counted (ks : List Nat) (h : codesFit ks = true) (hl : ks.length < 256) :
    readCodes (counted (be 1) ks) = some ks := by
  have e : ks.flatMap (be 1) = ks.map (BitVec.ofNat 8) := by
    clear h hl
    induction ks with
    | nil => rfl
    | cons k ks ih => simp [be, List.flatMap_cons] at *; exact ih
  simp only [counted, e]
  have hb : be 1 ks.length = [BitVec.ofNat 8 ks.length] := by simp [be]
  simp only [hb, List.cons_append, List.nil_append, readCodes, List.length_map, BitVec.toNat_ofNat]
  rw [if_pos (by omega)]
  simp only [List.map_map, Option.some.injEq]
  simp only [codesFit, fitsBytes, List.all_eq_true, decide_eq_true_eq] at h
  conv_rhs => rw [← List.map_id ks]
  refine List.map_congr_left fun k hk => ?_
  have := h k hk
  simp only [Function.comp_apply, BitVec.toNat_ofNat, id_eq]
  omega

/-- The list `knownName` searches holds the characters of every request name (Table 10-2). -/
theorem knownName_chars (n : ReqName) : knownName n.chars = true := by cases n <;> decide

theorem Machine.ReqName.chars_length (n : ReqName) : n.chars.length = 4 := by cases n <;> rfl

end Sys2Proof
end

