-- ==== Sys2Proof/Laws/PerInstr.lean ====
section
/-! SUPPORT. The statements about every command as syntax, one lemma for each constructor of `Instr`. -/

set_option Elab.async false

namespace Sys2Proof.Laws.WireFamily

open Sys2Proof Sys2Proof.Machine

/-- What a command is on the wire. It has a name and field bytes exactly where it came in a frame that names it, and the
name and fields of a well-formed one fit the frames of its link (R194). -/
def Statement (i : Instr) : Prop :=
  (i.payload?.isSome = i.source?.isSome) ∧
  ∀ src n bs, i.wf = true → i.source? = some src → i.payload? = some (n, bs) → lengthFits src bs.length = true

/-- The form of a request: what its payload and its source are, and that its bytes fit. -/
theorem of_request {i : Instr} {src : Source} {n : ReqName} {bs : List Byte} (hs : i.source? = some src)
    (hp : i.payload? = some (n, bs)) (hw : i.wf = true → lengthFits src bs.length = true) : Statement i := by
  refine ⟨by rw [hs, hp]; rfl, fun src' n' bs' hwf hs' hp' => ?_⟩
  rw [hs] at hs'; rw [hp] at hp'; cases hs'; cases hp'
  exact hw hwf

/-- The form of a command that no frame names. -/
theorem of_event {i : Instr} (hs : i.source? = none) (hp : i.payload? = none) : Statement i :=
  ⟨by rw [hs, hp]; rfl, fun _ _ _ _ hs' _ => by rw [hs] at hs'; cases hs'⟩

/-- At most 20 field bytes fit every link (Table 12-1). -/
theorem fits_of_le {src : Source} {n : Nat} (h : n ≤ 20) : lengthFits src n = true := by
  unfold lengthFits
  split <;> simp only [decide_eq_true_eq] <;> omega

theorem openTicket (src : Source) (account : AccountId) (lanes : List Nat) : Statement (.openTicket src account lanes) := by
  refine of_request rfl rfl fun h => ?_
  simp only [Instr.wf, Bool.and_eq_true] at h
  simpa [counted_one_length, Nat.add_assoc, Nat.add_comm, Nat.add_left_comm] using h.2

theorem attachLane (src : Source) (ticket : Nat) (lane : Nat) : Statement (.attachLane src ticket lane) :=
  of_request rfl rfl fun _ => fits_of_le (by simp)

theorem detachLane (src : Source) (ticket : Nat) (lane : Nat) : Statement (.detachLane src ticket lane) :=
  of_request rfl rfl fun _ => fits_of_le (by simp)

theorem closeTicket (src : Source) (ticket : Nat) : Statement (.closeTicket src ticket) :=
  of_request rfl rfl fun _ => fits_of_le (by simp)

theorem reopen (src : Source) (ticket : Nat) : Statement (.reopen src ticket) :=
  of_request rfl rfl fun _ => fits_of_le (by simp)

theorem void (src : Source) (ticket : Nat) : Statement (.void src ticket) :=
  of_request rfl rfl fun _ => fits_of_le (by simp)

theorem release (src : Source) (ticket : Nat) (reasons : List Nat) : Statement (.release src ticket reasons) := by
  refine of_request rfl rfl fun h => ?_
  simp only [Instr.wf, Bool.and_eq_true] at h
  simpa [counted_one_length, Nat.add_assoc, Nat.add_comm, Nat.add_left_comm] using h.2

theorem setLimits (src : Source) (threshold : Nat) (closeWait : Nat) : Statement (.setLimits src threshold closeWait) :=
  of_request rfl rfl fun _ => fits_of_le (by simp)

theorem readTicket (src : Source) (ticket : Nat) : Statement (.readTicket src ticket) :=
  of_request rfl rfl fun _ => fits_of_le (by simp)

theorem readTicketTable (src : Source) : Statement (.readTicketTable src) :=
  of_request rfl rfl fun _ => fits_of_le (by simp)

theorem authorise (src : Source) (ticket : Nat) (means : Nat) (amount : Nat) : Statement (.authorise src ticket means amount) :=
  of_request rfl rfl fun _ => fits_of_le (by simp)

theorem revoke (src : Source) (ticket : Nat) : Statement (.revoke src ticket) :=
  of_request rfl rfl fun _ => fits_of_le (by simp)

theorem resolveRetry (src : Source) (ticket : Nat) : Statement (.resolveRetry src ticket) :=
  of_request rfl rfl fun _ => fits_of_le (by simp)

theorem resolveConvert (src : Source) (ticket : Nat) : Statement (.resolveConvert src ticket) :=
  of_request rfl rfl fun _ => fits_of_le (by simp)

theorem resolveManual (src : Source) (ticket : Nat) : Statement (.resolveManual src ticket) :=
  of_request rfl rfl fun _ => fits_of_le (by simp)

theorem assignStrays (src : Source) (lane : Nat) (ticket : Nat) : Statement (.assignStrays src lane ticket) :=
  of_request rfl rfl fun _ => fits_of_le (by simp)

theorem setClass (src : Source) (cls : Nat) (state : Nat) (kind : Nat) (deposit : Nat) (foreign : Nat) (damage : Nat) (slots : Nat) (bottle : Nat) (label : List Byte) (effective : Option (Nat × Nat)) : Statement (.setClass src cls state kind deposit foreign damage slots bottle label effective) := by
  refine of_request rfl rfl fun h => ?_
  simp only [Instr.wf, Bool.and_eq_true, bne_iff_ne, beq_iff_eq] at h
  obtain ⟨⟨⟨-, hl⟩, -⟩, hs⟩ := h
  have he : (optionalField (fun x : Nat × Nat => be 2 x.1 ++ be 3 x.2) effective).length ≤ 6 := by
    cases effective <;> simp [optionalField]
  simp only [List.length_append, be_length, hl]
  unfold lengthFits
  split
  · exact absurd ‹_› hs
  · simp only [decide_eq_true_eq]; omega

theorem cancelChange (src : Source) (cls : Nat) : Statement (.cancelChange src cls) :=
  of_request rfl rfl fun _ => fits_of_le (by simp)

theorem readClass (src : Source) (cls : Nat) : Statement (.readClass src cls) :=
  of_request rfl rfl fun _ => fits_of_le (by simp)

theorem setLaneStation (src : Source) (lane : StationLane) (priority : Nat) (window : Nat) : Statement (.setLaneStation src lane priority window) :=
  of_request rfl rfl fun _ => fits_of_le (by simp)

theorem setLanePulse (src : Source) (lane : PulseIx) (enabled : Nat) (cls : Nat) (edge : Nat) (spacing : Nat) (stall : Nat) (mode : Nat) : Statement (.setLanePulse src lane enabled cls edge spacing stall mode) :=
  of_request rfl rfl fun _ => fits_of_le (by simp)

theorem setDispenser (src : Source) (un : Nat) (uc : Nat) (vend : Nat) (jam : Nat) (pick : Nat) (noteLow : Nat) (coinLow : Nat) : Statement (.setDispenser src un uc vend jam pick noteLow coinLow) :=
  of_request rfl rfl fun _ => fits_of_le (by simp)

theorem refill (src : Source) (channel : Nat) (stock : Nat) : Statement (.refill src channel stock) :=
  of_request rfl rfl fun _ => fits_of_le (by simp)

theorem clearChannel (src : Source) (channel : Nat) : Statement (.clearChannel src channel) :=
  of_request rfl rfl fun _ => fits_of_le (by simp)

theorem watchAdd (src : Source) (tag : Nat) : Statement (.watchAdd src tag) :=
  of_request rfl rfl fun _ => fits_of_le (by simp)

theorem watchRemove (src : Source) (tag : Nat) : Statement (.watchRemove src tag) :=
  of_request rfl rfl fun _ => fits_of_le (by simp)

theorem watchList (src : Source) : Statement (.watchList src) :=
  of_request rfl rfl fun _ => fits_of_le (by simp)

theorem setTime (src : Source) (day : Nat) (second : Nat) : Statement (.setTime src day second) :=
  of_request rfl rfl fun _ => fits_of_le (by simp)

theorem readStatus (src : Source) : Statement (.readStatus src) :=
  of_request rfl rfl fun _ => fits_of_le (by simp)

theorem readNotices (src : Source) : Statement (.readNotices src) :=
  of_request rfl rfl fun _ => fits_of_le (by simp)

theorem readAccount (src : Source) (account : AccountId) : Statement (.readAccount src account) :=
  of_request rfl rfl fun _ => fits_of_le (by simp)

theorem makeAccount (src : Source) (account : AccountId) (customer : Nat) : Statement (.makeAccount src account customer) :=
  of_request rfl rfl fun _ => fits_of_le (by simp)

theorem setAccountState (src : Source) (account : AccountId) (target : Nat) : Statement (.setAccountState src account target) :=
  of_request rfl rfl fun _ => fits_of_le (by simp)

theorem deleteAccount (src : Source) (account : AccountId) : Statement (.deleteAccount src account) :=
  of_request rfl rfl fun _ => fits_of_le (by simp)

theorem issue (src : Source) (account : AccountId) (cls : Nat) (quantity : Nat) : Statement (.issue src account cls quantity) :=
  of_request rfl rfl fun _ => fits_of_le (by simp)

theorem adjust (src : Source) (account : AccountId) (cls : Nat) (change : Int) : Statement (.adjust src account cls change) :=
  of_request rfl rfl fun _ => fits_of_le (by simp)

theorem collect (src : Source) (account : AccountId) (amount : Nat) : Statement (.collect src account amount) :=
  of_request rfl rfl fun _ => fits_of_le (by simp)

theorem readResidue (src : Source) : Statement (.readResidue src) :=
  of_request rfl rfl fun _ => fits_of_le (by simp)

theorem clearResidue (src : Source) (amount : Nat) : Statement (.clearResidue src amount) :=
  of_request rfl rfl fun _ => fits_of_le (by simp)

theorem peekLog (src : Source) : Statement (.peekLog src) :=
  of_request rfl rfl fun _ => fits_of_le (by simp)

theorem takeLog (src : Source) (ticket : Nat) : Statement (.takeLog src ticket) :=
  of_request rfl rfl fun _ => fits_of_le (by simp)

theorem unknownRequest (link : Link) (name : List Byte) : Statement (.unknownRequest link name) := of_event rfl rfl

theorem arrive (src : Source) (cls : Nat) (origin : Nat) (condition : Nat) (quantity : Nat) (bottles : Nat) (tag : Option Nat) : Statement (.arrive src cls origin condition quantity bottles tag) := by
  refine of_request rfl rfl fun _ => fits_of_le ?_
  have ht : (optionalField (be 4) tag).length ≤ 5 := by cases tag <;> simp [optionalField]
  simp only [List.length_append, be_length]
  omega

theorem laneDone (src : Source) : Statement (.laneDone src) :=
  of_request rfl rfl fun _ => fits_of_le (by simp)

theorem laneQuery (src : Source) : Statement (.laneQuery src) :=
  of_request rfl rfl fun _ => fits_of_le (by simp)

theorem closeWaitExpiry (ticket : Nat) : Statement (.closeWaitExpiry ticket) := of_event rfl rfl

theorem clockAdvance : Statement .clockAdvance := of_event rfl rfl

theorem crystalLoss (cycles : Nat) (after : Nat) : Statement (.crystalLoss cycles after) := of_event rfl rfl

theorem crystalReturn (after : Nat) : Statement (.crystalReturn after) := of_event rfl rfl

theorem backupCrystalStop (cycles : Nat) : Statement (.backupCrystalStop cycles) := of_event rfl rfl

theorem backupLow : Statement .backupLow := of_event rfl rfl

theorem powerStop (cause : StopCause) : Statement (.powerStop cause) := of_event rfl rfl

theorem warmStart (found : StartFound) (cut : Option (WarmPoint × StopCause)) : Statement (.warmStart found cut) := of_event rfl rfl

theorem coldStart (found : StartFound) (cut : Option StopCause) : Statement (.coldStart found cut) := of_event rfl rfl

theorem portLineError (port : Port) (kind : PortError) (after : Nat) : Statement (.portLineError port kind after) := of_event rfl rfl

theorem portGapTimeout (port : Port) (after : Nat) : Statement (.portGapTimeout port after) := of_event rfl rfl

theorem portIdleRecover (port : Port) (after : Nat) : Statement (.portIdleRecover port after) := of_event rfl rfl

theorem portOverrun (port : Port) (after : Nat) : Statement (.portOverrun port after) := of_event rfl rfl

theorem portReplyEnd (port : Port) (after : Nat) : Statement (.portReplyEnd port after) := of_event rfl rfl

theorem lreqChange (lane : StationLane) (low : Bool) (after : Nat) : Statement (.lreqChange lane low after) := of_event rfl rfl

theorem frameStart (after : Nat) : Statement (.frameStart after) := of_event rfl rfl

theorem grantMiss : Statement .grantMiss := of_event rfl rfl

theorem laneFrameError (kind : LaneError) (after : Nat) : Statement (.laneFrameError kind after) := of_event rfl rfl

theorem laneCharTimeout (after : Nat) : Statement (.laneCharTimeout after) := of_event rfl rfl

theorem laneReplyEnd (after : Nat) : Statement (.laneReplyEnd after) := of_event rfl rfl

theorem peyeTransition (lane : PulseIx) (blocked : Bool) (after : Nat) : Statement (.peyeTransition lane blocked after) := of_event rfl rfl

theorem stall (lane : PulseIx) : Statement (.stall lane) := of_event rfl rfl

theorem jobTake (empties : Empties) : Statement (.jobTake empties) := of_event rfl rfl

theorem noteVendEnd (empties : Empties) : Statement (.noteVendEnd empties) := of_event rfl rfl

theorem noteExitStart (after : Nat) : Statement (.noteExitStart after) := of_event rfl rfl

theorem noteExitEnd (empties : Empties) (after : Nat) : Statement (.noteExitEnd empties after) := of_event rfl rfl

theorem noteJamTimeout : Statement .noteJamTimeout := of_event rfl rfl

theorem coinExitStart (after : Nat) : Statement (.coinExitStart after) := of_event rfl rfl

theorem coinGapTimeout : Statement .coinGapTimeout := of_event rfl rfl

theorem coinEmptyAsserted (after : Nat) : Statement (.coinEmptyAsserted after) := of_event rfl rfl

theorem runOnEnd : Statement .runOnEnd := of_event rfl rfl

theorem requestFrameStart (port : Port) (after : Nat) : Statement (.requestFrameStart port after) := of_event rfl rfl

theorem inputsSettled (levels : InputLevels) (after : Nat) : Statement (.inputsSettled levels after) := of_event rfl rfl

end Sys2Proof.Laws.WireFamily
end

