-- ==== Sys2Proof/Laws/State.lean ====
section
/-! SUPPORT. One lemma for each field under each named update of State, true by rfl and tagged for simp, so that no proof
unfolds a record update. -/

set_option Elab.async false

namespace Sys2Proof.Machine

/-! ### The passing of time on the lane bus -/

@[simp] theorem LaneBus.pass_lanes (ms : Nat) (b : LaneBus) : (b.pass ms).lanes = b.lanes := rfl
@[simp] theorem LaneBus.pass_window (ms : Nat) (b : LaneBus) : (b.pass ms).window = b.window := rfl
@[simp] theorem LaneBus.pass_grant (ms : Nat) (b : LaneBus) : (b.pass ms).grant = b.grant := rfl
@[simp] theorem LaneBus.pass_buffer (ms : Nat) (b : LaneBus) : (b.pass ms).buffer = b.buffer := rfl
@[simp] theorem LaneBus.pass_lbusDe (ms : Nat) (b : LaneBus) : (b.pass ms).lbusDe = (b.lbusDe && (ms == 0 || b.replying)) := rfl
@[simp] theorem LaneBus.place_buffer (c : LaneChar) (b : LaneBus) : (b.place c).buffer = some c := rfl
@[simp] theorem LaneBus.take_buffer (b : LaneBus) : b.take.buffer = none := rfl
@[simp] theorem LaneBus.place_take (c : LaneChar) (b : LaneBus) : (b.place c).take = b.take := rfl

/-- A character that completes is placed in an empty buffer, and is an overrun of an occupied one (R163). -/
theorem LaneBus.receive_eq (c : LaneChar) (b : LaneBus) :
    b.receive c = if b.buffer.isNone then .ok (b.place c) else .error .overrun := by
  unfold LaneBus.receive; cases b.buffer <;> rfl

/-- Every error of the lane bus can be told of: for an overrun a character that was not taken is all it needs (R163, R172). -/
@[simp] theorem LaneBus.tells_true (kind : LaneError) (c : LaneChar) (b : LaneBus) : b.tells kind c = true := by
  cases kind <;> rfl

@[simp] theorem LaneBus.pass_zero (b : LaneBus) : b.pass 0 = b := by simp [LaneBus.pass]
@[simp] theorem State.elapse_zero (s : State) : s.elapse 0 = s := by simp [State.elapse]

/-- Time that has passed in two parts has passed in one. -/
theorem State.elapse_add (m n : Nat) (s : State) : (s.elapse m).elapse n = s.elapse (m + n) := by
  rcases m with _ | m <;> rcases n with _ | n <;> simp [State.elapse, LaneBus.pass, LaneBus.replying, Nat.add_assoc]
  cases s.bus.lbusDe <;> simp

@[simp] theorem State.reach_now (time : Nat) (s : State) : (s.reach time).now = max s.now time := by
  simp only [State.reach, State.elapse]; omega

/-- A time that has come is reached by no passing of time. -/
theorem State.reach_past {time : Nat} {s : State} (h : time ≤ s.now) : s.reach time = s := by
  simp [State.reach, Nat.sub_eq_zero_of_le h]

/-! ### elapse -/

@[simp] theorem State.elapse_bus (ms : Nat) (s : State) : (State.elapse ms s).bus = s.bus.pass ms := rfl
@[simp] theorem State.elapse_now (ms : Nat) (s : State) : (State.elapse ms s).now = s.now + ms := rfl
@[simp] theorem State.elapse_classes (ms : Nat) (s : State) : (State.elapse ms s).classes = s.classes := rfl
@[simp] theorem State.elapse_changes (ms : Nat) (s : State) : (State.elapse ms s).changes = s.changes := rfl
@[simp] theorem State.elapse_accounts (ms : Nat) (s : State) : (State.elapse ms s).accounts = s.accounts := rfl
@[simp] theorem State.elapse_residue (ms : Nat) (s : State) : (State.elapse ms s).residue = s.residue := rfl
@[simp] theorem State.elapse_tickets (ms : Nat) (s : State) : (State.elapse ms s).tickets = s.tickets := rfl
@[simp] theorem State.elapse_nextNumber (ms : Nat) (s : State) : (State.elapse ms s).nextNumber = s.nextNumber := rfl
@[simp] theorem State.elapse_reviewThreshold (ms : Nat) (s : State) : (State.elapse ms s).reviewThreshold = s.reviewThreshold := rfl
@[simp] theorem State.elapse_closeWait (ms : Nat) (s : State) : (State.elapse ms s).closeWait = s.closeWait := rfl
@[simp] theorem State.elapse_closingOrder (ms : Nat) (s : State) : (State.elapse ms s).closingOrder = s.closingOrder := rfl
@[simp] theorem State.elapse_tags (ms : Nat) (s : State) : (State.elapse ms s).tags = s.tags := rfl
@[simp] theorem State.elapse_watch (ms : Nat) (s : State) : (State.elapse ms s).watch = s.watch := rfl
@[simp] theorem State.elapse_pulse (ms : Nat) (s : State) : (State.elapse ms s).pulse = s.pulse := rfl
@[simp] theorem State.elapse_queue (ms : Nat) (s : State) : (State.elapse ms s).queue = s.queue := rfl
@[simp] theorem State.elapse_log (ms : Nat) (s : State) : (State.elapse ms s).log = s.log := rfl
@[simp] theorem State.elapse_waiting (ms : Nat) (s : State) : (State.elapse ms s).waiting = s.waiting := rfl
@[simp] theorem State.elapse_disp (ms : Nat) (s : State) : (State.elapse ms s).disp = s.disp := rfl
@[simp] theorem State.elapse_office (ms : Nat) (s : State) : (State.elapse ms s).office = s.office := rfl
@[simp] theorem State.elapse_acctPort (ms : Nat) (s : State) : (State.elapse ms s).acctPort = s.acctPort := rfl
@[simp] theorem State.elapse_clock (ms : Nat) (s : State) : (State.elapse ms s).clock = s.clock := rfl
@[simp] theorem State.elapse_lossMark (ms : Nat) (s : State) : (State.elapse ms s).lossMark = s.lossMark := rfl
@[simp] theorem State.elapse_marker (ms : Nat) (s : State) : (State.elapse ms s).marker = s.marker := rfl
@[simp] theorem State.elapse_check (ms : Nat) (s : State) : (State.elapse ms s).check = s.check := rfl
@[simp] theorem State.elapse_power (ms : Nat) (s : State) : (State.elapse ms s).power = s.power := rfl
@[simp] theorem State.elapse_draws (ms : Nat) (s : State) : (State.elapse ms s).draws = s.draws := rfl
@[simp] theorem State.elapse_pending (ms : Nat) (s : State) : (State.elapse ms s).pending = s.pending := rfl
@[simp] theorem State.elapse_on (ms : Nat) (s : State) : (State.elapse ms s).on = s.on := rfl
@[simp] theorem State.elapse_settled (ms : Nat) (s : State) : (State.elapse ms s).settled = s.settled := rfl

/-! ### reach -/

@[simp] theorem State.reach_bus (time : Nat) (s : State) : (State.reach time s).bus = s.bus.pass (time - s.now) := rfl
@[simp] theorem State.reach_classes (time : Nat) (s : State) : (State.reach time s).classes = s.classes := rfl
@[simp] theorem State.reach_changes (time : Nat) (s : State) : (State.reach time s).changes = s.changes := rfl
@[simp] theorem State.reach_accounts (time : Nat) (s : State) : (State.reach time s).accounts = s.accounts := rfl
@[simp] theorem State.reach_residue (time : Nat) (s : State) : (State.reach time s).residue = s.residue := rfl
@[simp] theorem State.reach_tickets (time : Nat) (s : State) : (State.reach time s).tickets = s.tickets := rfl
@[simp] theorem State.reach_nextNumber (time : Nat) (s : State) : (State.reach time s).nextNumber = s.nextNumber := rfl
@[simp] theorem State.reach_reviewThreshold (time : Nat) (s : State) : (State.reach time s).reviewThreshold = s.reviewThreshold := rfl
@[simp] theorem State.reach_closeWait (time : Nat) (s : State) : (State.reach time s).closeWait = s.closeWait := rfl
@[simp] theorem State.reach_closingOrder (time : Nat) (s : State) : (State.reach time s).closingOrder = s.closingOrder := rfl
@[simp] theorem State.reach_tags (time : Nat) (s : State) : (State.reach time s).tags = s.tags := rfl
@[simp] theorem State.reach_watch (time : Nat) (s : State) : (State.reach time s).watch = s.watch := rfl
@[simp] theorem State.reach_pulse (time : Nat) (s : State) : (State.reach time s).pulse = s.pulse := rfl
@[simp] theorem State.reach_queue (time : Nat) (s : State) : (State.reach time s).queue = s.queue := rfl
@[simp] theorem State.reach_log (time : Nat) (s : State) : (State.reach time s).log = s.log := rfl
@[simp] theorem State.reach_waiting (time : Nat) (s : State) : (State.reach time s).waiting = s.waiting := rfl
@[simp] theorem State.reach_disp (time : Nat) (s : State) : (State.reach time s).disp = s.disp := rfl
@[simp] theorem State.reach_office (time : Nat) (s : State) : (State.reach time s).office = s.office := rfl
@[simp] theorem State.reach_acctPort (time : Nat) (s : State) : (State.reach time s).acctPort = s.acctPort := rfl
@[simp] theorem State.reach_clock (time : Nat) (s : State) : (State.reach time s).clock = s.clock := rfl
@[simp] theorem State.reach_lossMark (time : Nat) (s : State) : (State.reach time s).lossMark = s.lossMark := rfl
@[simp] theorem State.reach_marker (time : Nat) (s : State) : (State.reach time s).marker = s.marker := rfl
@[simp] theorem State.reach_check (time : Nat) (s : State) : (State.reach time s).check = s.check := rfl
@[simp] theorem State.reach_power (time : Nat) (s : State) : (State.reach time s).power = s.power := rfl
@[simp] theorem State.reach_draws (time : Nat) (s : State) : (State.reach time s).draws = s.draws := rfl
@[simp] theorem State.reach_pending (time : Nat) (s : State) : (State.reach time s).pending = s.pending := rfl
@[simp] theorem State.reach_on (time : Nat) (s : State) : (State.reach time s).on = s.on := rfl
@[simp] theorem State.reach_settled (time : Nat) (s : State) : (State.reach time s).settled = s.settled := rfl

/-! ### sealed -/

@[simp] theorem State.sealed_check  (s : State) : (State.sealed  s).check = Config.checkOf s.retained := rfl
@[simp] theorem State.sealed_classes  (s : State) : (State.sealed  s).classes = s.classes := rfl
@[simp] theorem State.sealed_changes  (s : State) : (State.sealed  s).changes = s.changes := rfl
@[simp] theorem State.sealed_accounts  (s : State) : (State.sealed  s).accounts = s.accounts := rfl
@[simp] theorem State.sealed_residue  (s : State) : (State.sealed  s).residue = s.residue := rfl
@[simp] theorem State.sealed_tickets  (s : State) : (State.sealed  s).tickets = s.tickets := rfl
@[simp] theorem State.sealed_nextNumber  (s : State) : (State.sealed  s).nextNumber = s.nextNumber := rfl
@[simp] theorem State.sealed_reviewThreshold  (s : State) : (State.sealed  s).reviewThreshold = s.reviewThreshold := rfl
@[simp] theorem State.sealed_closeWait  (s : State) : (State.sealed  s).closeWait = s.closeWait := rfl
@[simp] theorem State.sealed_closingOrder  (s : State) : (State.sealed  s).closingOrder = s.closingOrder := rfl
@[simp] theorem State.sealed_tags  (s : State) : (State.sealed  s).tags = s.tags := rfl
@[simp] theorem State.sealed_watch  (s : State) : (State.sealed  s).watch = s.watch := rfl
@[simp] theorem State.sealed_pulse  (s : State) : (State.sealed  s).pulse = s.pulse := rfl
@[simp] theorem State.sealed_queue  (s : State) : (State.sealed  s).queue = s.queue := rfl
@[simp] theorem State.sealed_log  (s : State) : (State.sealed  s).log = s.log := rfl
@[simp] theorem State.sealed_waiting  (s : State) : (State.sealed  s).waiting = s.waiting := rfl
@[simp] theorem State.sealed_disp  (s : State) : (State.sealed  s).disp = s.disp := rfl
@[simp] theorem State.sealed_bus  (s : State) : (State.sealed  s).bus = s.bus := rfl
@[simp] theorem State.sealed_office  (s : State) : (State.sealed  s).office = s.office := rfl
@[simp] theorem State.sealed_acctPort  (s : State) : (State.sealed  s).acctPort = s.acctPort := rfl
@[simp] theorem State.sealed_clock  (s : State) : (State.sealed  s).clock = s.clock := rfl
@[simp] theorem State.sealed_lossMark  (s : State) : (State.sealed  s).lossMark = s.lossMark := rfl
@[simp] theorem State.sealed_marker  (s : State) : (State.sealed  s).marker = s.marker := rfl
@[simp] theorem State.sealed_power  (s : State) : (State.sealed  s).power = s.power := rfl
@[simp] theorem State.sealed_now  (s : State) : (State.sealed  s).now = s.now := rfl
@[simp] theorem State.sealed_draws  (s : State) : (State.sealed  s).draws = s.draws := rfl
@[simp] theorem State.sealed_pending  (s : State) : (State.sealed  s).pending = s.pending := rfl
@[simp] theorem State.sealed_on  (s : State) : (State.sealed  s).on = s.on := rfl
@[simp] theorem State.sealed_settled  (s : State) : (State.sealed  s).settled = s.settled := rfl

/-! ### setAccount -/

@[simp] theorem State.setAccount_accounts (a : AccountId) (r : Account) (s : State) : (State.setAccount a r s).accounts = s.accounts.set a.val r a.isLt := rfl
@[simp] theorem State.setAccount_classes (a : AccountId) (r : Account) (s : State) : (State.setAccount a r s).classes = s.classes := rfl
@[simp] theorem State.setAccount_changes (a : AccountId) (r : Account) (s : State) : (State.setAccount a r s).changes = s.changes := rfl
@[simp] theorem State.setAccount_residue (a : AccountId) (r : Account) (s : State) : (State.setAccount a r s).residue = s.residue := rfl
@[simp] theorem State.setAccount_tickets (a : AccountId) (r : Account) (s : State) : (State.setAccount a r s).tickets = s.tickets := rfl
@[simp] theorem State.setAccount_nextNumber (a : AccountId) (r : Account) (s : State) : (State.setAccount a r s).nextNumber = s.nextNumber := rfl
@[simp] theorem State.setAccount_reviewThreshold (a : AccountId) (r : Account) (s : State) : (State.setAccount a r s).reviewThreshold = s.reviewThreshold := rfl
@[simp] theorem State.setAccount_closeWait (a : AccountId) (r : Account) (s : State) : (State.setAccount a r s).closeWait = s.closeWait := rfl
@[simp] theorem State.setAccount_closingOrder (a : AccountId) (r : Account) (s : State) : (State.setAccount a r s).closingOrder = s.closingOrder := rfl
@[simp] theorem State.setAccount_tags (a : AccountId) (r : Account) (s : State) : (State.setAccount a r s).tags = s.tags := rfl
@[simp] theorem State.setAccount_watch (a : AccountId) (r : Account) (s : State) : (State.setAccount a r s).watch = s.watch := rfl
@[simp] theorem State.setAccount_pulse (a : AccountId) (r : Account) (s : State) : (State.setAccount a r s).pulse = s.pulse := rfl
@[simp] theorem State.setAccount_queue (a : AccountId) (r : Account) (s : State) : (State.setAccount a r s).queue = s.queue := rfl
@[simp] theorem State.setAccount_log (a : AccountId) (r : Account) (s : State) : (State.setAccount a r s).log = s.log := rfl
@[simp] theorem State.setAccount_waiting (a : AccountId) (r : Account) (s : State) : (State.setAccount a r s).waiting = s.waiting := rfl
@[simp] theorem State.setAccount_disp (a : AccountId) (r : Account) (s : State) : (State.setAccount a r s).disp = s.disp := rfl
@[simp] theorem State.setAccount_bus (a : AccountId) (r : Account) (s : State) : (State.setAccount a r s).bus = s.bus := rfl
@[simp] theorem State.setAccount_office (a : AccountId) (r : Account) (s : State) : (State.setAccount a r s).office = s.office := rfl
@[simp] theorem State.setAccount_acctPort (a : AccountId) (r : Account) (s : State) : (State.setAccount a r s).acctPort = s.acctPort := rfl
@[simp] theorem State.setAccount_clock (a : AccountId) (r : Account) (s : State) : (State.setAccount a r s).clock = s.clock := rfl
@[simp] theorem State.setAccount_lossMark (a : AccountId) (r : Account) (s : State) : (State.setAccount a r s).lossMark = s.lossMark := rfl
@[simp] theorem State.setAccount_marker (a : AccountId) (r : Account) (s : State) : (State.setAccount a r s).marker = s.marker := rfl
@[simp] theorem State.setAccount_check (a : AccountId) (r : Account) (s : State) : (State.setAccount a r s).check = s.check := rfl
@[simp] theorem State.setAccount_power (a : AccountId) (r : Account) (s : State) : (State.setAccount a r s).power = s.power := rfl
@[simp] theorem State.setAccount_now (a : AccountId) (r : Account) (s : State) : (State.setAccount a r s).now = s.now := rfl
@[simp] theorem State.setAccount_draws (a : AccountId) (r : Account) (s : State) : (State.setAccount a r s).draws = s.draws := rfl
@[simp] theorem State.setAccount_pending (a : AccountId) (r : Account) (s : State) : (State.setAccount a r s).pending = s.pending := rfl
@[simp] theorem State.setAccount_on (a : AccountId) (r : Account) (s : State) : (State.setAccount a r s).on = s.on := rfl
@[simp] theorem State.setAccount_settled (a : AccountId) (r : Account) (s : State) : (State.setAccount a r s).settled = s.settled := rfl

/-! ### setClassRecord -/

@[simp] theorem State.setClassRecord_classes (c : ClassId) (r : ClassRecord) (s : State) : (State.setClassRecord c r s).classes = s.classes.set c.val r c.isLt := rfl
@[simp] theorem State.setClassRecord_changes (c : ClassId) (r : ClassRecord) (s : State) : (State.setClassRecord c r s).changes = s.changes := rfl
@[simp] theorem State.setClassRecord_accounts (c : ClassId) (r : ClassRecord) (s : State) : (State.setClassRecord c r s).accounts = s.accounts := rfl
@[simp] theorem State.setClassRecord_residue (c : ClassId) (r : ClassRecord) (s : State) : (State.setClassRecord c r s).residue = s.residue := rfl
@[simp] theorem State.setClassRecord_tickets (c : ClassId) (r : ClassRecord) (s : State) : (State.setClassRecord c r s).tickets = s.tickets := rfl
@[simp] theorem State.setClassRecord_nextNumber (c : ClassId) (r : ClassRecord) (s : State) : (State.setClassRecord c r s).nextNumber = s.nextNumber := rfl
@[simp] theorem State.setClassRecord_reviewThreshold (c : ClassId) (r : ClassRecord) (s : State) : (State.setClassRecord c r s).reviewThreshold = s.reviewThreshold := rfl
@[simp] theorem State.setClassRecord_closeWait (c : ClassId) (r : ClassRecord) (s : State) : (State.setClassRecord c r s).closeWait = s.closeWait := rfl
@[simp] theorem State.setClassRecord_closingOrder (c : ClassId) (r : ClassRecord) (s : State) : (State.setClassRecord c r s).closingOrder = s.closingOrder := rfl
@[simp] theorem State.setClassRecord_tags (c : ClassId) (r : ClassRecord) (s : State) : (State.setClassRecord c r s).tags = s.tags := rfl
@[simp] theorem State.setClassRecord_watch (c : ClassId) (r : ClassRecord) (s : State) : (State.setClassRecord c r s).watch = s.watch := rfl
@[simp] theorem State.setClassRecord_pulse (c : ClassId) (r : ClassRecord) (s : State) : (State.setClassRecord c r s).pulse = s.pulse := rfl
@[simp] theorem State.setClassRecord_queue (c : ClassId) (r : ClassRecord) (s : State) : (State.setClassRecord c r s).queue = s.queue := rfl
@[simp] theorem State.setClassRecord_log (c : ClassId) (r : ClassRecord) (s : State) : (State.setClassRecord c r s).log = s.log := rfl
@[simp] theorem State.setClassRecord_waiting (c : ClassId) (r : ClassRecord) (s : State) : (State.setClassRecord c r s).waiting = s.waiting := rfl
@[simp] theorem State.setClassRecord_disp (c : ClassId) (r : ClassRecord) (s : State) : (State.setClassRecord c r s).disp = s.disp := rfl
@[simp] theorem State.setClassRecord_bus (c : ClassId) (r : ClassRecord) (s : State) : (State.setClassRecord c r s).bus = s.bus := rfl
@[simp] theorem State.setClassRecord_office (c : ClassId) (r : ClassRecord) (s : State) : (State.setClassRecord c r s).office = s.office := rfl
@[simp] theorem State.setClassRecord_acctPort (c : ClassId) (r : ClassRecord) (s : State) : (State.setClassRecord c r s).acctPort = s.acctPort := rfl
@[simp] theorem State.setClassRecord_clock (c : ClassId) (r : ClassRecord) (s : State) : (State.setClassRecord c r s).clock = s.clock := rfl
@[simp] theorem State.setClassRecord_lossMark (c : ClassId) (r : ClassRecord) (s : State) : (State.setClassRecord c r s).lossMark = s.lossMark := rfl
@[simp] theorem State.setClassRecord_marker (c : ClassId) (r : ClassRecord) (s : State) : (State.setClassRecord c r s).marker = s.marker := rfl
@[simp] theorem State.setClassRecord_check (c : ClassId) (r : ClassRecord) (s : State) : (State.setClassRecord c r s).check = s.check := rfl
@[simp] theorem State.setClassRecord_power (c : ClassId) (r : ClassRecord) (s : State) : (State.setClassRecord c r s).power = s.power := rfl
@[simp] theorem State.setClassRecord_now (c : ClassId) (r : ClassRecord) (s : State) : (State.setClassRecord c r s).now = s.now := rfl
@[simp] theorem State.setClassRecord_draws (c : ClassId) (r : ClassRecord) (s : State) : (State.setClassRecord c r s).draws = s.draws := rfl
@[simp] theorem State.setClassRecord_pending (c : ClassId) (r : ClassRecord) (s : State) : (State.setClassRecord c r s).pending = s.pending := rfl
@[simp] theorem State.setClassRecord_on (c : ClassId) (r : ClassRecord) (s : State) : (State.setClassRecord c r s).on = s.on := rfl
@[simp] theorem State.setClassRecord_settled (c : ClassId) (r : ClassRecord) (s : State) : (State.setClassRecord c r s).settled = s.settled := rfl

/-! ### setPulse -/

@[simp] theorem State.setPulse_pulse (i : PulseIx) (p : PulseLane) (s : State) : (State.setPulse i p s).pulse = s.pulse.set i.val p i.isLt := rfl
@[simp] theorem State.setPulse_classes (i : PulseIx) (p : PulseLane) (s : State) : (State.setPulse i p s).classes = s.classes := rfl
@[simp] theorem State.setPulse_changes (i : PulseIx) (p : PulseLane) (s : State) : (State.setPulse i p s).changes = s.changes := rfl
@[simp] theorem State.setPulse_accounts (i : PulseIx) (p : PulseLane) (s : State) : (State.setPulse i p s).accounts = s.accounts := rfl
@[simp] theorem State.setPulse_residue (i : PulseIx) (p : PulseLane) (s : State) : (State.setPulse i p s).residue = s.residue := rfl
@[simp] theorem State.setPulse_tickets (i : PulseIx) (p : PulseLane) (s : State) : (State.setPulse i p s).tickets = s.tickets := rfl
@[simp] theorem State.setPulse_nextNumber (i : PulseIx) (p : PulseLane) (s : State) : (State.setPulse i p s).nextNumber = s.nextNumber := rfl
@[simp] theorem State.setPulse_reviewThreshold (i : PulseIx) (p : PulseLane) (s : State) : (State.setPulse i p s).reviewThreshold = s.reviewThreshold := rfl
@[simp] theorem State.setPulse_closeWait (i : PulseIx) (p : PulseLane) (s : State) : (State.setPulse i p s).closeWait = s.closeWait := rfl
@[simp] theorem State.setPulse_closingOrder (i : PulseIx) (p : PulseLane) (s : State) : (State.setPulse i p s).closingOrder = s.closingOrder := rfl
@[simp] theorem State.setPulse_tags (i : PulseIx) (p : PulseLane) (s : State) : (State.setPulse i p s).tags = s.tags := rfl
@[simp] theorem State.setPulse_watch (i : PulseIx) (p : PulseLane) (s : State) : (State.setPulse i p s).watch = s.watch := rfl
@[simp] theorem State.setPulse_queue (i : PulseIx) (p : PulseLane) (s : State) : (State.setPulse i p s).queue = s.queue := rfl
@[simp] theorem State.setPulse_log (i : PulseIx) (p : PulseLane) (s : State) : (State.setPulse i p s).log = s.log := rfl
@[simp] theorem State.setPulse_waiting (i : PulseIx) (p : PulseLane) (s : State) : (State.setPulse i p s).waiting = s.waiting := rfl
@[simp] theorem State.setPulse_disp (i : PulseIx) (p : PulseLane) (s : State) : (State.setPulse i p s).disp = s.disp := rfl
@[simp] theorem State.setPulse_bus (i : PulseIx) (p : PulseLane) (s : State) : (State.setPulse i p s).bus = s.bus := rfl
@[simp] theorem State.setPulse_office (i : PulseIx) (p : PulseLane) (s : State) : (State.setPulse i p s).office = s.office := rfl
@[simp] theorem State.setPulse_acctPort (i : PulseIx) (p : PulseLane) (s : State) : (State.setPulse i p s).acctPort = s.acctPort := rfl
@[simp] theorem State.setPulse_clock (i : PulseIx) (p : PulseLane) (s : State) : (State.setPulse i p s).clock = s.clock := rfl
@[simp] theorem State.setPulse_lossMark (i : PulseIx) (p : PulseLane) (s : State) : (State.setPulse i p s).lossMark = s.lossMark := rfl
@[simp] theorem State.setPulse_marker (i : PulseIx) (p : PulseLane) (s : State) : (State.setPulse i p s).marker = s.marker := rfl
@[simp] theorem State.setPulse_check (i : PulseIx) (p : PulseLane) (s : State) : (State.setPulse i p s).check = s.check := rfl
@[simp] theorem State.setPulse_power (i : PulseIx) (p : PulseLane) (s : State) : (State.setPulse i p s).power = s.power := rfl
@[simp] theorem State.setPulse_now (i : PulseIx) (p : PulseLane) (s : State) : (State.setPulse i p s).now = s.now := rfl
@[simp] theorem State.setPulse_draws (i : PulseIx) (p : PulseLane) (s : State) : (State.setPulse i p s).draws = s.draws := rfl
@[simp] theorem State.setPulse_pending (i : PulseIx) (p : PulseLane) (s : State) : (State.setPulse i p s).pending = s.pending := rfl
@[simp] theorem State.setPulse_on (i : PulseIx) (p : PulseLane) (s : State) : (State.setPulse i p s).on = s.on := rfl
@[simp] theorem State.setPulse_settled (i : PulseIx) (p : PulseLane) (s : State) : (State.setPulse i p s).settled = s.settled := rfl

/-! ### setStation -/

@[simp] theorem State.setStation_bus (l : StationLane) (r : StationRecord) (s : State) : (State.setStation l r s).bus = { s.bus with lanes := s.bus.lanes.set l.val r l.isLt } := rfl
@[simp] theorem State.setStation_classes (l : StationLane) (r : StationRecord) (s : State) : (State.setStation l r s).classes = s.classes := rfl
@[simp] theorem State.setStation_changes (l : StationLane) (r : StationRecord) (s : State) : (State.setStation l r s).changes = s.changes := rfl
@[simp] theorem State.setStation_accounts (l : StationLane) (r : StationRecord) (s : State) : (State.setStation l r s).accounts = s.accounts := rfl
@[simp] theorem State.setStation_residue (l : StationLane) (r : StationRecord) (s : State) : (State.setStation l r s).residue = s.residue := rfl
@[simp] theorem State.setStation_tickets (l : StationLane) (r : StationRecord) (s : State) : (State.setStation l r s).tickets = s.tickets := rfl
@[simp] theorem State.setStation_nextNumber (l : StationLane) (r : StationRecord) (s : State) : (State.setStation l r s).nextNumber = s.nextNumber := rfl
@[simp] theorem State.setStation_reviewThreshold (l : StationLane) (r : StationRecord) (s : State) : (State.setStation l r s).reviewThreshold = s.reviewThreshold := rfl
@[simp] theorem State.setStation_closeWait (l : StationLane) (r : StationRecord) (s : State) : (State.setStation l r s).closeWait = s.closeWait := rfl
@[simp] theorem State.setStation_closingOrder (l : StationLane) (r : StationRecord) (s : State) : (State.setStation l r s).closingOrder = s.closingOrder := rfl
@[simp] theorem State.setStation_tags (l : StationLane) (r : StationRecord) (s : State) : (State.setStation l r s).tags = s.tags := rfl
@[simp] theorem State.setStation_watch (l : StationLane) (r : StationRecord) (s : State) : (State.setStation l r s).watch = s.watch := rfl
@[simp] theorem State.setStation_pulse (l : StationLane) (r : StationRecord) (s : State) : (State.setStation l r s).pulse = s.pulse := rfl
@[simp] theorem State.setStation_queue (l : StationLane) (r : StationRecord) (s : State) : (State.setStation l r s).queue = s.queue := rfl
@[simp] theorem State.setStation_log (l : StationLane) (r : StationRecord) (s : State) : (State.setStation l r s).log = s.log := rfl
@[simp] theorem State.setStation_waiting (l : StationLane) (r : StationRecord) (s : State) : (State.setStation l r s).waiting = s.waiting := rfl
@[simp] theorem State.setStation_disp (l : StationLane) (r : StationRecord) (s : State) : (State.setStation l r s).disp = s.disp := rfl
@[simp] theorem State.setStation_office (l : StationLane) (r : StationRecord) (s : State) : (State.setStation l r s).office = s.office := rfl
@[simp] theorem State.setStation_acctPort (l : StationLane) (r : StationRecord) (s : State) : (State.setStation l r s).acctPort = s.acctPort := rfl
@[simp] theorem State.setStation_clock (l : StationLane) (r : StationRecord) (s : State) : (State.setStation l r s).clock = s.clock := rfl
@[simp] theorem State.setStation_lossMark (l : StationLane) (r : StationRecord) (s : State) : (State.setStation l r s).lossMark = s.lossMark := rfl
@[simp] theorem State.setStation_marker (l : StationLane) (r : StationRecord) (s : State) : (State.setStation l r s).marker = s.marker := rfl
@[simp] theorem State.setStation_check (l : StationLane) (r : StationRecord) (s : State) : (State.setStation l r s).check = s.check := rfl
@[simp] theorem State.setStation_power (l : StationLane) (r : StationRecord) (s : State) : (State.setStation l r s).power = s.power := rfl
@[simp] theorem State.setStation_now (l : StationLane) (r : StationRecord) (s : State) : (State.setStation l r s).now = s.now := rfl
@[simp] theorem State.setStation_draws (l : StationLane) (r : StationRecord) (s : State) : (State.setStation l r s).draws = s.draws := rfl
@[simp] theorem State.setStation_pending (l : StationLane) (r : StationRecord) (s : State) : (State.setStation l r s).pending = s.pending := rfl
@[simp] theorem State.setStation_on (l : StationLane) (r : StationRecord) (s : State) : (State.setStation l r s).on = s.on := rfl
@[simp] theorem State.setStation_settled (l : StationLane) (r : StationRecord) (s : State) : (State.setStation l r s).settled = s.settled := rfl

/-! ### putTicket -/

@[simp] theorem State.putTicket_tickets (t : Ticket) (s : State) : (State.putTicket t s).tickets = s.tickets.map fun u => if u.number = t.number then t else u := rfl
@[simp] theorem State.putTicket_classes (t : Ticket) (s : State) : (State.putTicket t s).classes = s.classes := rfl
@[simp] theorem State.putTicket_changes (t : Ticket) (s : State) : (State.putTicket t s).changes = s.changes := rfl
@[simp] theorem State.putTicket_accounts (t : Ticket) (s : State) : (State.putTicket t s).accounts = s.accounts := rfl
@[simp] theorem State.putTicket_residue (t : Ticket) (s : State) : (State.putTicket t s).residue = s.residue := rfl
@[simp] theorem State.putTicket_nextNumber (t : Ticket) (s : State) : (State.putTicket t s).nextNumber = s.nextNumber := rfl
@[simp] theorem State.putTicket_reviewThreshold (t : Ticket) (s : State) : (State.putTicket t s).reviewThreshold = s.reviewThreshold := rfl
@[simp] theorem State.putTicket_closeWait (t : Ticket) (s : State) : (State.putTicket t s).closeWait = s.closeWait := rfl
@[simp] theorem State.putTicket_closingOrder (t : Ticket) (s : State) : (State.putTicket t s).closingOrder = s.closingOrder := rfl
@[simp] theorem State.putTicket_tags (t : Ticket) (s : State) : (State.putTicket t s).tags = s.tags := rfl
@[simp] theorem State.putTicket_watch (t : Ticket) (s : State) : (State.putTicket t s).watch = s.watch := rfl
@[simp] theorem State.putTicket_pulse (t : Ticket) (s : State) : (State.putTicket t s).pulse = s.pulse := rfl
@[simp] theorem State.putTicket_queue (t : Ticket) (s : State) : (State.putTicket t s).queue = s.queue := rfl
@[simp] theorem State.putTicket_log (t : Ticket) (s : State) : (State.putTicket t s).log = s.log := rfl
@[simp] theorem State.putTicket_waiting (t : Ticket) (s : State) : (State.putTicket t s).waiting = s.waiting := rfl
@[simp] theorem State.putTicket_disp (t : Ticket) (s : State) : (State.putTicket t s).disp = s.disp := rfl
@[simp] theorem State.putTicket_bus (t : Ticket) (s : State) : (State.putTicket t s).bus = s.bus := rfl
@[simp] theorem State.putTicket_office (t : Ticket) (s : State) : (State.putTicket t s).office = s.office := rfl
@[simp] theorem State.putTicket_acctPort (t : Ticket) (s : State) : (State.putTicket t s).acctPort = s.acctPort := rfl
@[simp] theorem State.putTicket_clock (t : Ticket) (s : State) : (State.putTicket t s).clock = s.clock := rfl
@[simp] theorem State.putTicket_lossMark (t : Ticket) (s : State) : (State.putTicket t s).lossMark = s.lossMark := rfl
@[simp] theorem State.putTicket_marker (t : Ticket) (s : State) : (State.putTicket t s).marker = s.marker := rfl
@[simp] theorem State.putTicket_check (t : Ticket) (s : State) : (State.putTicket t s).check = s.check := rfl
@[simp] theorem State.putTicket_power (t : Ticket) (s : State) : (State.putTicket t s).power = s.power := rfl
@[simp] theorem State.putTicket_now (t : Ticket) (s : State) : (State.putTicket t s).now = s.now := rfl
@[simp] theorem State.putTicket_draws (t : Ticket) (s : State) : (State.putTicket t s).draws = s.draws := rfl
@[simp] theorem State.putTicket_pending (t : Ticket) (s : State) : (State.putTicket t s).pending = s.pending := rfl
@[simp] theorem State.putTicket_on (t : Ticket) (s : State) : (State.putTicket t s).on = s.on := rfl
@[simp] theorem State.putTicket_settled (t : Ticket) (s : State) : (State.putTicket t s).settled = s.settled := rfl

/-! ### dropTicket -/

@[simp] theorem State.dropTicket_tickets (n : Nat) (s : State) : (State.dropTicket n s).tickets = s.tickets.filter fun t => t.number != n := rfl
@[simp] theorem State.dropTicket_classes (n : Nat) (s : State) : (State.dropTicket n s).classes = s.classes := rfl
@[simp] theorem State.dropTicket_changes (n : Nat) (s : State) : (State.dropTicket n s).changes = s.changes := rfl
@[simp] theorem State.dropTicket_accounts (n : Nat) (s : State) : (State.dropTicket n s).accounts = s.accounts := rfl
@[simp] theorem State.dropTicket_residue (n : Nat) (s : State) : (State.dropTicket n s).residue = s.residue := rfl
@[simp] theorem State.dropTicket_nextNumber (n : Nat) (s : State) : (State.dropTicket n s).nextNumber = s.nextNumber := rfl
@[simp] theorem State.dropTicket_reviewThreshold (n : Nat) (s : State) : (State.dropTicket n s).reviewThreshold = s.reviewThreshold := rfl
@[simp] theorem State.dropTicket_closeWait (n : Nat) (s : State) : (State.dropTicket n s).closeWait = s.closeWait := rfl
@[simp] theorem State.dropTicket_closingOrder (n : Nat) (s : State) : (State.dropTicket n s).closingOrder = s.closingOrder := rfl
@[simp] theorem State.dropTicket_tags (n : Nat) (s : State) : (State.dropTicket n s).tags = s.tags := rfl
@[simp] theorem State.dropTicket_watch (n : Nat) (s : State) : (State.dropTicket n s).watch = s.watch := rfl
@[simp] theorem State.dropTicket_pulse (n : Nat) (s : State) : (State.dropTicket n s).pulse = s.pulse := rfl
@[simp] theorem State.dropTicket_queue (n : Nat) (s : State) : (State.dropTicket n s).queue = s.queue := rfl
@[simp] theorem State.dropTicket_log (n : Nat) (s : State) : (State.dropTicket n s).log = s.log := rfl
@[simp] theorem State.dropTicket_waiting (n : Nat) (s : State) : (State.dropTicket n s).waiting = s.waiting := rfl
@[simp] theorem State.dropTicket_disp (n : Nat) (s : State) : (State.dropTicket n s).disp = s.disp := rfl
@[simp] theorem State.dropTicket_bus (n : Nat) (s : State) : (State.dropTicket n s).bus = s.bus := rfl
@[simp] theorem State.dropTicket_office (n : Nat) (s : State) : (State.dropTicket n s).office = s.office := rfl
@[simp] theorem State.dropTicket_acctPort (n : Nat) (s : State) : (State.dropTicket n s).acctPort = s.acctPort := rfl
@[simp] theorem State.dropTicket_clock (n : Nat) (s : State) : (State.dropTicket n s).clock = s.clock := rfl
@[simp] theorem State.dropTicket_lossMark (n : Nat) (s : State) : (State.dropTicket n s).lossMark = s.lossMark := rfl
@[simp] theorem State.dropTicket_marker (n : Nat) (s : State) : (State.dropTicket n s).marker = s.marker := rfl
@[simp] theorem State.dropTicket_check (n : Nat) (s : State) : (State.dropTicket n s).check = s.check := rfl
@[simp] theorem State.dropTicket_power (n : Nat) (s : State) : (State.dropTicket n s).power = s.power := rfl
@[simp] theorem State.dropTicket_now (n : Nat) (s : State) : (State.dropTicket n s).now = s.now := rfl
@[simp] theorem State.dropTicket_draws (n : Nat) (s : State) : (State.dropTicket n s).draws = s.draws := rfl
@[simp] theorem State.dropTicket_pending (n : Nat) (s : State) : (State.dropTicket n s).pending = s.pending := rfl
@[simp] theorem State.dropTicket_on (n : Nat) (s : State) : (State.dropTicket n s).on = s.on := rfl
@[simp] theorem State.dropTicket_settled (n : Nat) (s : State) : (State.dropTicket n s).settled = s.settled := rfl

/-! ### dropTags -/

@[simp] theorem State.dropTags_tags (n : Nat) (s : State) : (State.dropTags n s).tags = s.tags.filter fun e => e.ticket != n := rfl
@[simp] theorem State.dropTags_classes (n : Nat) (s : State) : (State.dropTags n s).classes = s.classes := rfl
@[simp] theorem State.dropTags_changes (n : Nat) (s : State) : (State.dropTags n s).changes = s.changes := rfl
@[simp] theorem State.dropTags_accounts (n : Nat) (s : State) : (State.dropTags n s).accounts = s.accounts := rfl
@[simp] theorem State.dropTags_residue (n : Nat) (s : State) : (State.dropTags n s).residue = s.residue := rfl
@[simp] theorem State.dropTags_tickets (n : Nat) (s : State) : (State.dropTags n s).tickets = s.tickets := rfl
@[simp] theorem State.dropTags_nextNumber (n : Nat) (s : State) : (State.dropTags n s).nextNumber = s.nextNumber := rfl
@[simp] theorem State.dropTags_reviewThreshold (n : Nat) (s : State) : (State.dropTags n s).reviewThreshold = s.reviewThreshold := rfl
@[simp] theorem State.dropTags_closeWait (n : Nat) (s : State) : (State.dropTags n s).closeWait = s.closeWait := rfl
@[simp] theorem State.dropTags_closingOrder (n : Nat) (s : State) : (State.dropTags n s).closingOrder = s.closingOrder := rfl
@[simp] theorem State.dropTags_watch (n : Nat) (s : State) : (State.dropTags n s).watch = s.watch := rfl
@[simp] theorem State.dropTags_pulse (n : Nat) (s : State) : (State.dropTags n s).pulse = s.pulse := rfl
@[simp] theorem State.dropTags_queue (n : Nat) (s : State) : (State.dropTags n s).queue = s.queue := rfl
@[simp] theorem State.dropTags_log (n : Nat) (s : State) : (State.dropTags n s).log = s.log := rfl
@[simp] theorem State.dropTags_waiting (n : Nat) (s : State) : (State.dropTags n s).waiting = s.waiting := rfl
@[simp] theorem State.dropTags_disp (n : Nat) (s : State) : (State.dropTags n s).disp = s.disp := rfl
@[simp] theorem State.dropTags_bus (n : Nat) (s : State) : (State.dropTags n s).bus = s.bus := rfl
@[simp] theorem State.dropTags_office (n : Nat) (s : State) : (State.dropTags n s).office = s.office := rfl
@[simp] theorem State.dropTags_acctPort (n : Nat) (s : State) : (State.dropTags n s).acctPort = s.acctPort := rfl
@[simp] theorem State.dropTags_clock (n : Nat) (s : State) : (State.dropTags n s).clock = s.clock := rfl
@[simp] theorem State.dropTags_lossMark (n : Nat) (s : State) : (State.dropTags n s).lossMark = s.lossMark := rfl
@[simp] theorem State.dropTags_marker (n : Nat) (s : State) : (State.dropTags n s).marker = s.marker := rfl
@[simp] theorem State.dropTags_check (n : Nat) (s : State) : (State.dropTags n s).check = s.check := rfl
@[simp] theorem State.dropTags_power (n : Nat) (s : State) : (State.dropTags n s).power = s.power := rfl
@[simp] theorem State.dropTags_now (n : Nat) (s : State) : (State.dropTags n s).now = s.now := rfl
@[simp] theorem State.dropTags_draws (n : Nat) (s : State) : (State.dropTags n s).draws = s.draws := rfl
@[simp] theorem State.dropTags_pending (n : Nat) (s : State) : (State.dropTags n s).pending = s.pending := rfl
@[simp] theorem State.dropTags_on (n : Nat) (s : State) : (State.dropTags n s).on = s.on := rfl
@[simp] theorem State.dropTags_settled (n : Nat) (s : State) : (State.dropTags n s).settled = s.settled := rfl

/-! ### leaveClosing -/

@[simp] theorem State.leaveClosing_closingOrder (n : Nat) (s : State) : (State.leaveClosing n s).closingOrder = s.closingOrder.filter (· != n) := rfl
@[simp] theorem State.leaveClosing_classes (n : Nat) (s : State) : (State.leaveClosing n s).classes = s.classes := rfl
@[simp] theorem State.leaveClosing_changes (n : Nat) (s : State) : (State.leaveClosing n s).changes = s.changes := rfl
@[simp] theorem State.leaveClosing_accounts (n : Nat) (s : State) : (State.leaveClosing n s).accounts = s.accounts := rfl
@[simp] theorem State.leaveClosing_residue (n : Nat) (s : State) : (State.leaveClosing n s).residue = s.residue := rfl
@[simp] theorem State.leaveClosing_tickets (n : Nat) (s : State) : (State.leaveClosing n s).tickets = s.tickets := rfl
@[simp] theorem State.leaveClosing_nextNumber (n : Nat) (s : State) : (State.leaveClosing n s).nextNumber = s.nextNumber := rfl
@[simp] theorem State.leaveClosing_reviewThreshold (n : Nat) (s : State) : (State.leaveClosing n s).reviewThreshold = s.reviewThreshold := rfl
@[simp] theorem State.leaveClosing_closeWait (n : Nat) (s : State) : (State.leaveClosing n s).closeWait = s.closeWait := rfl
@[simp] theorem State.leaveClosing_tags (n : Nat) (s : State) : (State.leaveClosing n s).tags = s.tags := rfl
@[simp] theorem State.leaveClosing_watch (n : Nat) (s : State) : (State.leaveClosing n s).watch = s.watch := rfl
@[simp] theorem State.leaveClosing_pulse (n : Nat) (s : State) : (State.leaveClosing n s).pulse = s.pulse := rfl
@[simp] theorem State.leaveClosing_queue (n : Nat) (s : State) : (State.leaveClosing n s).queue = s.queue := rfl
@[simp] theorem State.leaveClosing_log (n : Nat) (s : State) : (State.leaveClosing n s).log = s.log := rfl
@[simp] theorem State.leaveClosing_waiting (n : Nat) (s : State) : (State.leaveClosing n s).waiting = s.waiting := rfl
@[simp] theorem State.leaveClosing_disp (n : Nat) (s : State) : (State.leaveClosing n s).disp = s.disp := rfl
@[simp] theorem State.leaveClosing_bus (n : Nat) (s : State) : (State.leaveClosing n s).bus = s.bus := rfl
@[simp] theorem State.leaveClosing_office (n : Nat) (s : State) : (State.leaveClosing n s).office = s.office := rfl
@[simp] theorem State.leaveClosing_acctPort (n : Nat) (s : State) : (State.leaveClosing n s).acctPort = s.acctPort := rfl
@[simp] theorem State.leaveClosing_clock (n : Nat) (s : State) : (State.leaveClosing n s).clock = s.clock := rfl
@[simp] theorem State.leaveClosing_lossMark (n : Nat) (s : State) : (State.leaveClosing n s).lossMark = s.lossMark := rfl
@[simp] theorem State.leaveClosing_marker (n : Nat) (s : State) : (State.leaveClosing n s).marker = s.marker := rfl
@[simp] theorem State.leaveClosing_check (n : Nat) (s : State) : (State.leaveClosing n s).check = s.check := rfl
@[simp] theorem State.leaveClosing_power (n : Nat) (s : State) : (State.leaveClosing n s).power = s.power := rfl
@[simp] theorem State.leaveClosing_now (n : Nat) (s : State) : (State.leaveClosing n s).now = s.now := rfl
@[simp] theorem State.leaveClosing_draws (n : Nat) (s : State) : (State.leaveClosing n s).draws = s.draws := rfl
@[simp] theorem State.leaveClosing_pending (n : Nat) (s : State) : (State.leaveClosing n s).pending = s.pending := rfl
@[simp] theorem State.leaveClosing_on (n : Nat) (s : State) : (State.leaveClosing n s).on = s.on := rfl
@[simp] theorem State.leaveClosing_settled (n : Nat) (s : State) : (State.leaveClosing n s).settled = s.settled := rfl

/-! ### dropJob -/

@[simp] theorem State.dropJob_queue (n : Nat) (s : State) : (State.dropJob n s).queue = s.queue.filter fun j => j.ticket != n := rfl
@[simp] theorem State.dropJob_classes (n : Nat) (s : State) : (State.dropJob n s).classes = s.classes := rfl
@[simp] theorem State.dropJob_changes (n : Nat) (s : State) : (State.dropJob n s).changes = s.changes := rfl
@[simp] theorem State.dropJob_accounts (n : Nat) (s : State) : (State.dropJob n s).accounts = s.accounts := rfl
@[simp] theorem State.dropJob_residue (n : Nat) (s : State) : (State.dropJob n s).residue = s.residue := rfl
@[simp] theorem State.dropJob_tickets (n : Nat) (s : State) : (State.dropJob n s).tickets = s.tickets := rfl
@[simp] theorem State.dropJob_nextNumber (n : Nat) (s : State) : (State.dropJob n s).nextNumber = s.nextNumber := rfl
@[simp] theorem State.dropJob_reviewThreshold (n : Nat) (s : State) : (State.dropJob n s).reviewThreshold = s.reviewThreshold := rfl
@[simp] theorem State.dropJob_closeWait (n : Nat) (s : State) : (State.dropJob n s).closeWait = s.closeWait := rfl
@[simp] theorem State.dropJob_closingOrder (n : Nat) (s : State) : (State.dropJob n s).closingOrder = s.closingOrder := rfl
@[simp] theorem State.dropJob_tags (n : Nat) (s : State) : (State.dropJob n s).tags = s.tags := rfl
@[simp] theorem State.dropJob_watch (n : Nat) (s : State) : (State.dropJob n s).watch = s.watch := rfl
@[simp] theorem State.dropJob_pulse (n : Nat) (s : State) : (State.dropJob n s).pulse = s.pulse := rfl
@[simp] theorem State.dropJob_log (n : Nat) (s : State) : (State.dropJob n s).log = s.log := rfl
@[simp] theorem State.dropJob_waiting (n : Nat) (s : State) : (State.dropJob n s).waiting = s.waiting := rfl
@[simp] theorem State.dropJob_disp (n : Nat) (s : State) : (State.dropJob n s).disp = s.disp := rfl
@[simp] theorem State.dropJob_bus (n : Nat) (s : State) : (State.dropJob n s).bus = s.bus := rfl
@[simp] theorem State.dropJob_office (n : Nat) (s : State) : (State.dropJob n s).office = s.office := rfl
@[simp] theorem State.dropJob_acctPort (n : Nat) (s : State) : (State.dropJob n s).acctPort = s.acctPort := rfl
@[simp] theorem State.dropJob_clock (n : Nat) (s : State) : (State.dropJob n s).clock = s.clock := rfl
@[simp] theorem State.dropJob_lossMark (n : Nat) (s : State) : (State.dropJob n s).lossMark = s.lossMark := rfl
@[simp] theorem State.dropJob_marker (n : Nat) (s : State) : (State.dropJob n s).marker = s.marker := rfl
@[simp] theorem State.dropJob_check (n : Nat) (s : State) : (State.dropJob n s).check = s.check := rfl
@[simp] theorem State.dropJob_power (n : Nat) (s : State) : (State.dropJob n s).power = s.power := rfl
@[simp] theorem State.dropJob_now (n : Nat) (s : State) : (State.dropJob n s).now = s.now := rfl
@[simp] theorem State.dropJob_draws (n : Nat) (s : State) : (State.dropJob n s).draws = s.draws := rfl
@[simp] theorem State.dropJob_pending (n : Nat) (s : State) : (State.dropJob n s).pending = s.pending := rfl
@[simp] theorem State.dropJob_on (n : Nat) (s : State) : (State.dropJob n s).on = s.on := rfl
@[simp] theorem State.dropJob_settled (n : Nat) (s : State) : (State.dropJob n s).settled = s.settled := rfl

/-! ### setDisp -/

@[simp] theorem State.setDisp_disp (d : Dispenser) (s : State) : (State.setDisp d s).disp = d := rfl
@[simp] theorem State.setDisp_classes (d : Dispenser) (s : State) : (State.setDisp d s).classes = s.classes := rfl
@[simp] theorem State.setDisp_changes (d : Dispenser) (s : State) : (State.setDisp d s).changes = s.changes := rfl
@[simp] theorem State.setDisp_accounts (d : Dispenser) (s : State) : (State.setDisp d s).accounts = s.accounts := rfl
@[simp] theorem State.setDisp_residue (d : Dispenser) (s : State) : (State.setDisp d s).residue = s.residue := rfl
@[simp] theorem State.setDisp_tickets (d : Dispenser) (s : State) : (State.setDisp d s).tickets = s.tickets := rfl
@[simp] theorem State.setDisp_nextNumber (d : Dispenser) (s : State) : (State.setDisp d s).nextNumber = s.nextNumber := rfl
@[simp] theorem State.setDisp_reviewThreshold (d : Dispenser) (s : State) : (State.setDisp d s).reviewThreshold = s.reviewThreshold := rfl
@[simp] theorem State.setDisp_closeWait (d : Dispenser) (s : State) : (State.setDisp d s).closeWait = s.closeWait := rfl
@[simp] theorem State.setDisp_closingOrder (d : Dispenser) (s : State) : (State.setDisp d s).closingOrder = s.closingOrder := rfl
@[simp] theorem State.setDisp_tags (d : Dispenser) (s : State) : (State.setDisp d s).tags = s.tags := rfl
@[simp] theorem State.setDisp_watch (d : Dispenser) (s : State) : (State.setDisp d s).watch = s.watch := rfl
@[simp] theorem State.setDisp_pulse (d : Dispenser) (s : State) : (State.setDisp d s).pulse = s.pulse := rfl
@[simp] theorem State.setDisp_queue (d : Dispenser) (s : State) : (State.setDisp d s).queue = s.queue := rfl
@[simp] theorem State.setDisp_log (d : Dispenser) (s : State) : (State.setDisp d s).log = s.log := rfl
@[simp] theorem State.setDisp_waiting (d : Dispenser) (s : State) : (State.setDisp d s).waiting = s.waiting := rfl
@[simp] theorem State.setDisp_bus (d : Dispenser) (s : State) : (State.setDisp d s).bus = s.bus := rfl
@[simp] theorem State.setDisp_office (d : Dispenser) (s : State) : (State.setDisp d s).office = s.office := rfl
@[simp] theorem State.setDisp_acctPort (d : Dispenser) (s : State) : (State.setDisp d s).acctPort = s.acctPort := rfl
@[simp] theorem State.setDisp_clock (d : Dispenser) (s : State) : (State.setDisp d s).clock = s.clock := rfl
@[simp] theorem State.setDisp_lossMark (d : Dispenser) (s : State) : (State.setDisp d s).lossMark = s.lossMark := rfl
@[simp] theorem State.setDisp_marker (d : Dispenser) (s : State) : (State.setDisp d s).marker = s.marker := rfl
@[simp] theorem State.setDisp_check (d : Dispenser) (s : State) : (State.setDisp d s).check = s.check := rfl
@[simp] theorem State.setDisp_power (d : Dispenser) (s : State) : (State.setDisp d s).power = s.power := rfl
@[simp] theorem State.setDisp_now (d : Dispenser) (s : State) : (State.setDisp d s).now = s.now := rfl
@[simp] theorem State.setDisp_draws (d : Dispenser) (s : State) : (State.setDisp d s).draws = s.draws := rfl
@[simp] theorem State.setDisp_pending (d : Dispenser) (s : State) : (State.setDisp d s).pending = s.pending := rfl
@[simp] theorem State.setDisp_on (d : Dispenser) (s : State) : (State.setDisp d s).on = s.on := rfl
@[simp] theorem State.setDisp_settled (d : Dispenser) (s : State) : (State.setDisp d s).settled = s.settled := rfl

/-! ### setJob -/

@[simp] theorem State.setJob_disp (j : Option JobProgress) (s : State) : (State.setJob j s).disp = { s.disp with job := j } := rfl
@[simp] theorem State.setJob_classes (j : Option JobProgress) (s : State) : (State.setJob j s).classes = s.classes := rfl
@[simp] theorem State.setJob_changes (j : Option JobProgress) (s : State) : (State.setJob j s).changes = s.changes := rfl
@[simp] theorem State.setJob_accounts (j : Option JobProgress) (s : State) : (State.setJob j s).accounts = s.accounts := rfl
@[simp] theorem State.setJob_residue (j : Option JobProgress) (s : State) : (State.setJob j s).residue = s.residue := rfl
@[simp] theorem State.setJob_tickets (j : Option JobProgress) (s : State) : (State.setJob j s).tickets = s.tickets := rfl
@[simp] theorem State.setJob_nextNumber (j : Option JobProgress) (s : State) : (State.setJob j s).nextNumber = s.nextNumber := rfl
@[simp] theorem State.setJob_reviewThreshold (j : Option JobProgress) (s : State) : (State.setJob j s).reviewThreshold = s.reviewThreshold := rfl
@[simp] theorem State.setJob_closeWait (j : Option JobProgress) (s : State) : (State.setJob j s).closeWait = s.closeWait := rfl
@[simp] theorem State.setJob_closingOrder (j : Option JobProgress) (s : State) : (State.setJob j s).closingOrder = s.closingOrder := rfl
@[simp] theorem State.setJob_tags (j : Option JobProgress) (s : State) : (State.setJob j s).tags = s.tags := rfl
@[simp] theorem State.setJob_watch (j : Option JobProgress) (s : State) : (State.setJob j s).watch = s.watch := rfl
@[simp] theorem State.setJob_pulse (j : Option JobProgress) (s : State) : (State.setJob j s).pulse = s.pulse := rfl
@[simp] theorem State.setJob_queue (j : Option JobProgress) (s : State) : (State.setJob j s).queue = s.queue := rfl
@[simp] theorem State.setJob_log (j : Option JobProgress) (s : State) : (State.setJob j s).log = s.log := rfl
@[simp] theorem State.setJob_waiting (j : Option JobProgress) (s : State) : (State.setJob j s).waiting = s.waiting := rfl
@[simp] theorem State.setJob_bus (j : Option JobProgress) (s : State) : (State.setJob j s).bus = s.bus := rfl
@[simp] theorem State.setJob_office (j : Option JobProgress) (s : State) : (State.setJob j s).office = s.office := rfl
@[simp] theorem State.setJob_acctPort (j : Option JobProgress) (s : State) : (State.setJob j s).acctPort = s.acctPort := rfl
@[simp] theorem State.setJob_clock (j : Option JobProgress) (s : State) : (State.setJob j s).clock = s.clock := rfl
@[simp] theorem State.setJob_lossMark (j : Option JobProgress) (s : State) : (State.setJob j s).lossMark = s.lossMark := rfl
@[simp] theorem State.setJob_marker (j : Option JobProgress) (s : State) : (State.setJob j s).marker = s.marker := rfl
@[simp] theorem State.setJob_check (j : Option JobProgress) (s : State) : (State.setJob j s).check = s.check := rfl
@[simp] theorem State.setJob_power (j : Option JobProgress) (s : State) : (State.setJob j s).power = s.power := rfl
@[simp] theorem State.setJob_now (j : Option JobProgress) (s : State) : (State.setJob j s).now = s.now := rfl
@[simp] theorem State.setJob_draws (j : Option JobProgress) (s : State) : (State.setJob j s).draws = s.draws := rfl
@[simp] theorem State.setJob_pending (j : Option JobProgress) (s : State) : (State.setJob j s).pending = s.pending := rfl
@[simp] theorem State.setJob_on (j : Option JobProgress) (s : State) : (State.setJob j s).on = s.on := rfl
@[simp] theorem State.setJob_settled (j : Option JobProgress) (s : State) : (State.setJob j s).settled = s.settled := rfl

/-! ### tellOffice -/

@[simp] theorem State.tellOffice_office (n : Notice) (s : State) : (State.tellOffice n s).office = s.office.place n := rfl
@[simp] theorem State.tellOffice_classes (n : Notice) (s : State) : (State.tellOffice n s).classes = s.classes := rfl
@[simp] theorem State.tellOffice_changes (n : Notice) (s : State) : (State.tellOffice n s).changes = s.changes := rfl
@[simp] theorem State.tellOffice_accounts (n : Notice) (s : State) : (State.tellOffice n s).accounts = s.accounts := rfl
@[simp] theorem State.tellOffice_residue (n : Notice) (s : State) : (State.tellOffice n s).residue = s.residue := rfl
@[simp] theorem State.tellOffice_tickets (n : Notice) (s : State) : (State.tellOffice n s).tickets = s.tickets := rfl
@[simp] theorem State.tellOffice_nextNumber (n : Notice) (s : State) : (State.tellOffice n s).nextNumber = s.nextNumber := rfl
@[simp] theorem State.tellOffice_reviewThreshold (n : Notice) (s : State) : (State.tellOffice n s).reviewThreshold = s.reviewThreshold := rfl
@[simp] theorem State.tellOffice_closeWait (n : Notice) (s : State) : (State.tellOffice n s).closeWait = s.closeWait := rfl
@[simp] theorem State.tellOffice_closingOrder (n : Notice) (s : State) : (State.tellOffice n s).closingOrder = s.closingOrder := rfl
@[simp] theorem State.tellOffice_tags (n : Notice) (s : State) : (State.tellOffice n s).tags = s.tags := rfl
@[simp] theorem State.tellOffice_watch (n : Notice) (s : State) : (State.tellOffice n s).watch = s.watch := rfl
@[simp] theorem State.tellOffice_pulse (n : Notice) (s : State) : (State.tellOffice n s).pulse = s.pulse := rfl
@[simp] theorem State.tellOffice_queue (n : Notice) (s : State) : (State.tellOffice n s).queue = s.queue := rfl
@[simp] theorem State.tellOffice_log (n : Notice) (s : State) : (State.tellOffice n s).log = s.log := rfl
@[simp] theorem State.tellOffice_waiting (n : Notice) (s : State) : (State.tellOffice n s).waiting = s.waiting := rfl
@[simp] theorem State.tellOffice_disp (n : Notice) (s : State) : (State.tellOffice n s).disp = s.disp := rfl
@[simp] theorem State.tellOffice_bus (n : Notice) (s : State) : (State.tellOffice n s).bus = s.bus := rfl
@[simp] theorem State.tellOffice_acctPort (n : Notice) (s : State) : (State.tellOffice n s).acctPort = s.acctPort := rfl
@[simp] theorem State.tellOffice_clock (n : Notice) (s : State) : (State.tellOffice n s).clock = s.clock := rfl
@[simp] theorem State.tellOffice_lossMark (n : Notice) (s : State) : (State.tellOffice n s).lossMark = s.lossMark := rfl
@[simp] theorem State.tellOffice_marker (n : Notice) (s : State) : (State.tellOffice n s).marker = s.marker := rfl
@[simp] theorem State.tellOffice_check (n : Notice) (s : State) : (State.tellOffice n s).check = s.check := rfl
@[simp] theorem State.tellOffice_power (n : Notice) (s : State) : (State.tellOffice n s).power = s.power := rfl
@[simp] theorem State.tellOffice_now (n : Notice) (s : State) : (State.tellOffice n s).now = s.now := rfl
@[simp] theorem State.tellOffice_draws (n : Notice) (s : State) : (State.tellOffice n s).draws = s.draws := rfl
@[simp] theorem State.tellOffice_pending (n : Notice) (s : State) : (State.tellOffice n s).pending = s.pending := rfl
@[simp] theorem State.tellOffice_on (n : Notice) (s : State) : (State.tellOffice n s).on = s.on := rfl
@[simp] theorem State.tellOffice_settled (n : Notice) (s : State) : (State.tellOffice n s).settled = s.settled := rfl

/-! ### tellAccounts -/

@[simp] theorem State.tellAccounts_acctPort (n : Notice) (s : State) : (State.tellAccounts n s).acctPort = s.acctPort.place n := rfl
@[simp] theorem State.tellAccounts_classes (n : Notice) (s : State) : (State.tellAccounts n s).classes = s.classes := rfl
@[simp] theorem State.tellAccounts_changes (n : Notice) (s : State) : (State.tellAccounts n s).changes = s.changes := rfl
@[simp] theorem State.tellAccounts_accounts (n : Notice) (s : State) : (State.tellAccounts n s).accounts = s.accounts := rfl
@[simp] theorem State.tellAccounts_residue (n : Notice) (s : State) : (State.tellAccounts n s).residue = s.residue := rfl
@[simp] theorem State.tellAccounts_tickets (n : Notice) (s : State) : (State.tellAccounts n s).tickets = s.tickets := rfl
@[simp] theorem State.tellAccounts_nextNumber (n : Notice) (s : State) : (State.tellAccounts n s).nextNumber = s.nextNumber := rfl
@[simp] theorem State.tellAccounts_reviewThreshold (n : Notice) (s : State) : (State.tellAccounts n s).reviewThreshold = s.reviewThreshold := rfl
@[simp] theorem State.tellAccounts_closeWait (n : Notice) (s : State) : (State.tellAccounts n s).closeWait = s.closeWait := rfl
@[simp] theorem State.tellAccounts_closingOrder (n : Notice) (s : State) : (State.tellAccounts n s).closingOrder = s.closingOrder := rfl
@[simp] theorem State.tellAccounts_tags (n : Notice) (s : State) : (State.tellAccounts n s).tags = s.tags := rfl
@[simp] theorem State.tellAccounts_watch (n : Notice) (s : State) : (State.tellAccounts n s).watch = s.watch := rfl
@[simp] theorem State.tellAccounts_pulse (n : Notice) (s : State) : (State.tellAccounts n s).pulse = s.pulse := rfl
@[simp] theorem State.tellAccounts_queue (n : Notice) (s : State) : (State.tellAccounts n s).queue = s.queue := rfl
@[simp] theorem State.tellAccounts_log (n : Notice) (s : State) : (State.tellAccounts n s).log = s.log := rfl
@[simp] theorem State.tellAccounts_waiting (n : Notice) (s : State) : (State.tellAccounts n s).waiting = s.waiting := rfl
@[simp] theorem State.tellAccounts_disp (n : Notice) (s : State) : (State.tellAccounts n s).disp = s.disp := rfl
@[simp] theorem State.tellAccounts_bus (n : Notice) (s : State) : (State.tellAccounts n s).bus = s.bus := rfl
@[simp] theorem State.tellAccounts_office (n : Notice) (s : State) : (State.tellAccounts n s).office = s.office := rfl
@[simp] theorem State.tellAccounts_clock (n : Notice) (s : State) : (State.tellAccounts n s).clock = s.clock := rfl
@[simp] theorem State.tellAccounts_lossMark (n : Notice) (s : State) : (State.tellAccounts n s).lossMark = s.lossMark := rfl
@[simp] theorem State.tellAccounts_marker (n : Notice) (s : State) : (State.tellAccounts n s).marker = s.marker := rfl
@[simp] theorem State.tellAccounts_check (n : Notice) (s : State) : (State.tellAccounts n s).check = s.check := rfl
@[simp] theorem State.tellAccounts_power (n : Notice) (s : State) : (State.tellAccounts n s).power = s.power := rfl
@[simp] theorem State.tellAccounts_now (n : Notice) (s : State) : (State.tellAccounts n s).now = s.now := rfl
@[simp] theorem State.tellAccounts_draws (n : Notice) (s : State) : (State.tellAccounts n s).draws = s.draws := rfl
@[simp] theorem State.tellAccounts_pending (n : Notice) (s : State) : (State.tellAccounts n s).pending = s.pending := rfl
@[simp] theorem State.tellAccounts_on (n : Notice) (s : State) : (State.tellAccounts n s).on = s.on := rfl
@[simp] theorem State.tellAccounts_settled (n : Notice) (s : State) : (State.tellAccounts n s).settled = s.settled := rfl

/-! ### setPort -/

@[simp] theorem State.setPort_office_eq (r : PortRecord) (s : State) : State.setPort .office r s = { s with office := r } := rfl
@[simp] theorem State.setPort_accounts_eq (r : PortRecord) (s : State) : State.setPort .accounts r s = { s with acctPort := r } := rfl
@[simp] theorem State.port_office (s : State) : State.port .office s = s.office := rfl
@[simp] theorem State.port_accounts (s : State) : State.port .accounts s = s.acctPort := rfl
@[simp] theorem State.setPort_port (p : Port) (r : PortRecord) (s : State) : State.port p (State.setPort p r s) = r := by
  cases p <;> rfl
@[simp] theorem State.setPort_classes (p : Port) (r : PortRecord) (s : State) : (State.setPort p r s).classes = s.classes := by
  cases p <;> rfl
@[simp] theorem State.setPort_changes (p : Port) (r : PortRecord) (s : State) : (State.setPort p r s).changes = s.changes := by
  cases p <;> rfl
@[simp] theorem State.setPort_accounts (p : Port) (r : PortRecord) (s : State) : (State.setPort p r s).accounts = s.accounts := by
  cases p <;> rfl
@[simp] theorem State.setPort_residue (p : Port) (r : PortRecord) (s : State) : (State.setPort p r s).residue = s.residue := by
  cases p <;> rfl
@[simp] theorem State.setPort_tickets (p : Port) (r : PortRecord) (s : State) : (State.setPort p r s).tickets = s.tickets := by
  cases p <;> rfl
@[simp] theorem State.setPort_nextNumber (p : Port) (r : PortRecord) (s : State) : (State.setPort p r s).nextNumber = s.nextNumber := by
  cases p <;> rfl
@[simp] theorem State.setPort_reviewThreshold (p : Port) (r : PortRecord) (s : State) : (State.setPort p r s).reviewThreshold = s.reviewThreshold := by
  cases p <;> rfl
@[simp] theorem State.setPort_closeWait (p : Port) (r : PortRecord) (s : State) : (State.setPort p r s).closeWait = s.closeWait := by
  cases p <;> rfl
@[simp] theorem State.setPort_closingOrder (p : Port) (r : PortRecord) (s : State) : (State.setPort p r s).closingOrder = s.closingOrder := by
  cases p <;> rfl
@[simp] theorem State.setPort_tags (p : Port) (r : PortRecord) (s : State) : (State.setPort p r s).tags = s.tags := by
  cases p <;> rfl
@[simp] theorem State.setPort_watch (p : Port) (r : PortRecord) (s : State) : (State.setPort p r s).watch = s.watch := by
  cases p <;> rfl
@[simp] theorem State.setPort_pulse (p : Port) (r : PortRecord) (s : State) : (State.setPort p r s).pulse = s.pulse := by
  cases p <;> rfl
@[simp] theorem State.setPort_queue (p : Port) (r : PortRecord) (s : State) : (State.setPort p r s).queue = s.queue := by
  cases p <;> rfl
@[simp] theorem State.setPort_log (p : Port) (r : PortRecord) (s : State) : (State.setPort p r s).log = s.log := by
  cases p <;> rfl
@[simp] theorem State.setPort_waiting (p : Port) (r : PortRecord) (s : State) : (State.setPort p r s).waiting = s.waiting := by
  cases p <;> rfl
@[simp] theorem State.setPort_disp (p : Port) (r : PortRecord) (s : State) : (State.setPort p r s).disp = s.disp := by
  cases p <;> rfl
@[simp] theorem State.setPort_bus (p : Port) (r : PortRecord) (s : State) : (State.setPort p r s).bus = s.bus := by
  cases p <;> rfl
@[simp] theorem State.setPort_clock (p : Port) (r : PortRecord) (s : State) : (State.setPort p r s).clock = s.clock := by
  cases p <;> rfl
@[simp] theorem State.setPort_lossMark (p : Port) (r : PortRecord) (s : State) : (State.setPort p r s).lossMark = s.lossMark := by
  cases p <;> rfl
@[simp] theorem State.setPort_marker (p : Port) (r : PortRecord) (s : State) : (State.setPort p r s).marker = s.marker := by
  cases p <;> rfl
@[simp] theorem State.setPort_check (p : Port) (r : PortRecord) (s : State) : (State.setPort p r s).check = s.check := by
  cases p <;> rfl
@[simp] theorem State.setPort_power (p : Port) (r : PortRecord) (s : State) : (State.setPort p r s).power = s.power := by
  cases p <;> rfl
@[simp] theorem State.setPort_now (p : Port) (r : PortRecord) (s : State) : (State.setPort p r s).now = s.now := by
  cases p <;> rfl
@[simp] theorem State.setPort_draws (p : Port) (r : PortRecord) (s : State) : (State.setPort p r s).draws = s.draws := by
  cases p <;> rfl
@[simp] theorem State.setPort_pending (p : Port) (r : PortRecord) (s : State) : (State.setPort p r s).pending = s.pending := by
  cases p <;> rfl
@[simp] theorem State.setPort_on (p : Port) (r : PortRecord) (s : State) : (State.setPort p r s).on = s.on := by
  cases p <;> rfl
@[simp] theorem State.setPort_settled (p : Port) (r : PortRecord) (s : State) : (State.setPort p r s).settled = s.settled := by
  cases p <;> rfl

/-! ### The state after reset -/

@[simp] theorem State.reset_tickets : State.reset.tickets = [] := rfl
@[simp] theorem State.reset_log : State.reset.log = [] := rfl
@[simp] theorem State.reset_queue : State.reset.queue = [] := rfl
@[simp] theorem State.reset_changes : State.reset.changes = [] := rfl
@[simp] theorem State.reset_on : State.reset.on = true := rfl
@[simp] theorem State.reset_marker : State.reset.marker = .valid := rfl

/-! ### The check field (R192) -/

@[simp] theorem State.sealed_retained (s : State) : s.sealed.retained = s.retained := rfl
@[simp] theorem State.sealed_sealed (s : State) : s.sealed.sealed = s.sealed := rfl
@[simp] theorem State.sealed_port (p : Port) (s : State) : s.sealed.port p = s.port p := by cases p <;> rfl

/-- A state whose check field matches is sealed. -/
theorem State.sealed_of_check {s : State} (h : s.check = Config.checkOf s.retained) : s.sealed = s := by
  unfold State.sealed; rw [← h]

/-- A sealed state's check field matches. -/
theorem State.sealed_matches (s : State) : s.sealed.check = Config.checkOf s.sealed.retained := rfl

end Sys2Proof.Machine
end

