-- ==== Sys2Proof/Laws/Requests.lean ====
section
/-! SUPPORT. Taking a request, said once (R164, R169, R178, R181): what the part answers to a request on a terminal port or in
a grant, and where it is not taken; and what an event answers. -/

set_option Elab.async false

namespace Sys2Proof.Machine

@[simp] theorem Port.sent_link (p : Port) : p.sent.link = p.link := rfl
@[simp] theorem Port.sent_fits (p : Port) : p.sent.fits = true := rfl

/-- Table 10-2 as the permission test reads it. -/
theorem permitted_iff (p : Port) (n : ReqName) : n.permitted p = true ↔ n ∈ requestsOf p := by
  cases p <;> cases n <;> decide

/-- The requests a station may send (Table 10-2). -/
theorem ofStation_iff (n : ReqName) : n.ofStation = true ↔ n ∈ stationRequests := by cases n <;> decide

/-- Every request is in the list of requests. -/
theorem ReqName.mem_names (n : ReqName) : n ∈ ReqName.names := by cases n <;> decide

/-- Four characters that are the name of a request name it. -/
theorem ReqName.ofChars_chars (n : ReqName) : ReqName.ofChars n.chars = some n := by cases n <;> decide +kernel

/-- No two requests have one name. -/
theorem ReqName.chars_inj (m n : ReqName) : m.chars = n.chars ↔ m = n := by
  refine ⟨fun h => ?_, fun h => h ▸ rfl⟩
  have := ReqName.ofChars_chars m
  rw [h, ReqName.ofChars_chars] at this
  exact (Option.some.inj this).symm

/-- Four characters that are the name of no request name none. -/
theorem ReqName.ofChars_eq_none (cs : List Byte) : ReqName.ofChars cs = none ↔ ∀ n : ReqName, n.chars ≠ cs := by
  simp only [ReqName.ofChars, List.find?_eq_none, beq_iff_eq]
  exact ⟨fun h n => h n n.mem_names, fun h n _ => h n⟩

/-- What stands after a request of a terminal port that was RECEIVING. -/
theorem replyOn_eq (p : Port) (i : Instr) (n : ReqName) (a : Answer) :
    State.replyOn p i n.chars a = a.state.answered p i (n.reply a.result a.body) := rfl

/-- What stands after a request in a grant. -/
theorem replyInGrant_eq (l : StationLane) (n : ReqName) (a : Answer) :
    State.replyInGrant l n.chars a = a.state.answeredOnLane l (n.reply a.result a.body) := rfl

/-- A request on a terminal port that is RECEIVING, with every outcome the port gives it (R181). -/
theorem request_onPort {p : Port} {s : State} (h : s.receiving p) (fits : Bool) (i : Instr) (n : ReqName)
    (block : State → Answer) :
    request { link := p.link, fits := fits } i n block s = .next
      (State.replyOn p i n.chars
        (if !n.permitted p then refuse .notPermitted s else if !fits then refuse .badValue s else block s)) := by
  obtain ⟨h1, h2⟩ := h
  cases p <;> simp [request, done, takeRequest, Port.link, takeOnPort, h1] <;> simp_all [State.port]

/-- A permitted request whose field bytes fit goes to its block (R181). -/
theorem request_taken {p : Port} {s : State} (h : s.receiving p) {n : ReqName} (hn : n.permitted p = true) (i : Instr)
    (block : State → Answer) :
    request p.sent i n block s = .next ((block s).state.answered p i (n.reply (block s).result (block s).body)) := by
  rw [show p.sent = { link := p.link, fits := true } from rfl, request_onPort h]; simp [hn, replyOn_eq]

/-- The same, from what the block answers. -/
theorem request_answers {p : Port} {s t : State} {r : Result} {b : Body} {n : ReqName} {block : State → Answer}
    (h : s.receiving p) (hn : n.permitted p = true) (i : Instr) (hb : block s = { state := t, result := r, body := b }) :
    request p.sent i n block s = .next (t.answered p i (n.reply r b)) := by
  rw [request_taken h hn, hb]

/-- A request in a grant whose frame is in reception, with every outcome the grant gives it (R169). -/
theorem request_inGrant {l : StationLane} {s : State} (h : s.hears l) (fits : Bool) (i : Instr) (n : ReqName)
    (block : State → Answer) :
    request { link := .laneBus, fits := fits } i n block s = .next
      (State.replyInGrant l n.chars
        (if !n.ofStation then refuse .unknownRequest s else if !fits then refuse .badValue s else block s)) := by
  obtain ⟨h1, h2⟩ := h
  simp [request, done, takeRequest, takeInGrant, h1, h2]

/-- A station request whose field bytes fit goes to its block (R169). -/
theorem request_heard {l : StationLane} {s : State} (h : s.hears l) {n : ReqName} (hn : n.ofStation = true) (i : Instr)
    (block : State → Answer) :
    request sentByStation i n block s = .next ((block s).state.answeredOnLane l (n.reply (block s).result (block s).body)) := by
  rw [show sentByStation = { link := .laneBus, fits := true } from rfl, request_inGrant h]; simp [hn, replyInGrant_eq]

/-- The same, from what the block answers. -/
theorem request_heard_answers {l : StationLane} {s t : State} {r : Result} {b : Body} {n : ReqName} {block : State → Answer}
    (h : s.hears l) (hn : n.ofStation = true) (i : Instr) (hb : block s = { state := t, result := r, body := b }) :
    request sentByStation i n block s = .next (t.answeredOnLane l (n.reply r b)) := by
  rw [request_heard h hn, hb]

/-- A terminal port that is not RECEIVING takes no request (R178 to R180). -/
theorem request_notReceiving {p : Port} {s : State} (h : s.on = false ∨ (s.port p).receiver ≠ .receiving) (src : Source)
    (hs : src.link = p.link) (i : Instr) (n : ReqName) (block : State → Answer) : request src i n block s = .next s := by
  cases p <;> simp_all [request, done, takeRequest, Port.link, takeOnPort] <;> rcases h with h | h <;> simp [h]

/-- Outside the reception of a grant no station request is taken (R164). -/
theorem request_notHeard {s : State} (h : s.on = false ∨ ∀ l, s.bus.grant ≠ some { lane := l, phase := .reception })
    (src : Source) (hs : src.link = .laneBus) (i : Instr) (n : ReqName) (block : State → Answer) :
    request src i n block s = .next s := by
  simp only [request, done, takeRequest, hs, takeInGrant]
  split
  · rename_i l hg
    rcases h with h | h
    · simp [h]
    · exact absurd hg (h l)
  · rfl

/-- Everything a request can do: nothing, or leave the reply of a port or of a grant on its way over what its block left, or
over the state as it stood (R169, R181). -/
theorem request_next {src : Source} {i : Instr} {n : ReqName} {block : State → Answer} {s t : State}
    (h : request src i n block s = .next t) :
    t = s ∨ (∃ p a, s.receiving p ∧ t = State.replyOn p i n.chars a ∧ (a = block s ∨ ∃ r, a = refuse r s)) ∨
      ∃ l a, s.hears l ∧ t = State.replyInGrant l n.chars a ∧ (a = block s ∨ ∃ r, a = refuse r s) := by
  obtain ⟨link, fits⟩ := src
  have port : ∀ p : Port, link = p.link → t = s ∨ ∃ p a, s.receiving p ∧ t = State.replyOn p i n.chars a ∧
      (a = block s ∨ ∃ r, a = refuse r s) := by
    rintro p rfl
    by_cases hr : s.receiving p
    · rw [request_onPort hr] at h
      injection h with h
      refine .inr ⟨p, _, hr, h.symm, ?_⟩
      split
      · exact .inr ⟨_, rfl⟩
      · split
        · exact .inr ⟨_, rfl⟩
        · exact .inl rfl
    · rw [request_notReceiving (p := p) _ _ rfl] at h
      · injection h with h; exact .inl h.symm
      · by_cases ho : s.on = true
        · exact .inr fun h => hr ⟨ho, h⟩
        · exact .inl (by simpa using ho)
  match link, port with
  | .office, port => exact (port .office rfl).imp_right .inl
  | .accounts, port => exact (port .accounts rfl).imp_right .inl
  | .laneBus, _ =>
    by_cases hr : ∃ l, s.hears l
    · obtain ⟨l, hl⟩ := hr
      rw [request_inGrant hl] at h
      injection h with h
      refine .inr (.inr ⟨l, _, hl, h.symm, ?_⟩)
      split
      · exact .inr ⟨_, rfl⟩
      · split
        · exact .inr ⟨_, rfl⟩
        · exact .inl rfl
    · rw [request_notHeard _ _ rfl] at h
      · injection h with h; exact .inl h.symm
      · by_cases ho : s.on = true
        · exact .inr fun l hg => hr ⟨l, ho, hg⟩
        · exact .inl (by simpa using ho)

/-- A request always answers a next state. -/
theorem request_isNext (src : Source) (i : Instr) (n : ReqName) (block : State → Answer) (s : State) :
    request src i n block s = .next (takeRequest src i n block s) := rfl

/-- An event whose condition holds has its effect (log entry 2). -/
theorem event_of {c : Bool} (h : c = true) (f : State → State) (s : State) : event c f s = .next (f s) := by
  simp [event, done, h]

/-- An event whose condition does not hold changes nothing (log entry 2). -/
theorem event_not {c : Bool} (h : c = false) (f : State → State) (s : State) : event c f s = .next s := by
  simp [event, done, h]

/-- A retained event whose condition holds has its effect, and the check field follows it (R192). -/
theorem retainedEvent_of {c : Bool} (h : c = true) (f : State → State) (s : State) :
    retainedEvent c f s = .next (f s).sealed := event_of h _ s

/-- A retained event whose condition does not hold changes nothing (log entry 2). -/
theorem retainedEvent_not {c : Bool} (h : c = false) (f : State → State) (s : State) : retainedEvent c f s = .next s :=
  event_not h _ s

/-- Table 11-3: when a start is warm. -/
theorem State.startsWarm_iff (found : StartFound) (s : State) : s.startsWarm found = true ↔
    s.marker = .valid ∧ found.strap = .opened ∧ found.intact = true ∧ s.check = Config.checkOf s.retained := by
  simp [State.startsWarm, and_assoc]

/-- A warm start of a stopped part whose check passes (R193). -/
theorem execWarmStart_taken {found : StartFound} {s : State} (h : s.on = false) (hw : s.startsWarm found = true) :
    execWarmStart found none s = .next s.warmStart.sealed := retainedEvent_of (by simp [h, hw]) _ s

/-- Everything an event can do. -/
theorem event_next {c : Bool} {f : State → State} {s t : State} (h : event c f s = .next t) :
    (c = true ∧ t = f s) ∨ (c = false ∧ t = s) := by
  cases c
  · exact .inr ⟨rfl, by simpa [event, done] using h.symm⟩
  · exact .inl ⟨rfl, by simpa [event, done] using h.symm⟩

end Sys2Proof.Machine
end

