-- ==== Sys2Proof/Laws/Tickets.lean ====
section
/-! SUPPORT. Finding and replacing tickets: the ticket a number names after each change of the table, the ticket a lane feeds,
and what an attachment list answers (R38, R40, R41). -/

namespace Sys2Proof.Machine

/-! ### The ticket a number names -/

theorem State.ticket?_number {n : Nat} {t : Ticket} {s : State} (h : s.ticket? n = some t) : t.number = n := by
  simpa using List.find?_some h

theorem State.ticket?_mem {n : Nat} {t : Ticket} {s : State} (h : s.ticket? n = some t) : t ∈ s.tickets :=
  List.mem_of_find?_eq_some h

theorem State.ticket?_eq_none {n : Nat} {s : State} : s.ticket? n = none ↔ ∀ t ∈ s.tickets, t.number ≠ n := by
  simp [State.ticket?]

/-- Where no number stands twice, a ticket of the table is the one its number names. -/
theorem State.ticket?_of_mem {t : Ticket} {s : State} (hn : (s.tickets.map (·.number)).Nodup) (h : t ∈ s.tickets) :
    s.ticket? t.number = some t := by
  rw [State.ticket?, List.find?_eq_some_iff_append]
  obtain ⟨as, bs, he⟩ := List.append_of_mem h
  refine ⟨by simp, as, bs, he, fun u hu => ?_⟩
  rw [he] at hn
  simp only [List.map_append, List.map_cons] at hn
  have := List.disjoint_of_nodup_append hn
  simp only [Bool.not_eq_true', beq_eq_false_iff_ne, ne_eq]
  intro e
  exact this (List.mem_map_of_mem (f := (·.number)) hu) (by simp [e])

/-- Two states with one ticket table name the same tickets. -/
theorem State.ticket?_congr {s t : State} (h : s.tickets = t.tickets) (n : Nat) : s.ticket? n = t.ticket? n := by
  simp [State.ticket?, h]

/-- The ticket put into the table is named by its number, if that number named one. -/
theorem State.ticket?_putTicket {n : Nat} {t u : Ticket} {s : State} (h : s.ticket? n = some t) (hu : u.number = n) :
    (s.putTicket u).ticket? n = some u := by
  subst hu
  simp only [State.ticket?, State.putTicket, List.find?_map] at h ⊢
  have : ((fun t : Ticket => t.number == u.number) ∘ fun w : Ticket => if w.number = u.number then u else w) =
      fun t : Ticket => t.number == u.number := by
    funext w; by_cases e : w.number = u.number <;> simp [e]
  rw [this, h]
  have := List.find?_some h
  simp at this
  simp [this]

/-- Replacing a ticket leaves what every other number names. -/
theorem State.ticket?_putTicket_ne {n : Nat} {u : Ticket} {s : State} (h : u.number ≠ n) :
    (s.putTicket u).ticket? n = s.ticket? n := by
  simp only [State.ticket?, State.putTicket, List.find?_map]
  have : ((fun t : Ticket => t.number == n) ∘ fun w : Ticket => if w.number = u.number then u else w) =
      fun t : Ticket => t.number == n := by
    funext w
    by_cases e : w.number = u.number
    · simp [e]
    · simp [e]
  rw [this]
  cases hf : s.tickets.find? (fun t => t.number == n) with
  | none => rfl
  | some w =>
    have := List.find?_some hf
    simp at this
    simp [this, h.symm]

/-- A slot that has become FREE is named by no number. -/
theorem State.ticket?_dropTicket (n : Nat) (s : State) : (s.dropTicket n).ticket? n = none := by
  simp [State.ticket?, State.dropTicket]

/-- The FREE slot of one ticket leaves what every other number names. -/
theorem State.ticket?_dropTicket_ne {m n : Nat} (h : m ≠ n) (s : State) : (s.dropTicket m).ticket? n = s.ticket? n := by
  simp only [State.ticket?, State.dropTicket, List.find?_filter]
  congr 1
  funext t
  by_cases e : t.number = n <;> simp [e, h.symm]

/-- The state a number's slot shows. -/
theorem State.slotState_of {n : Nat} {t : Ticket} {s : State} (h : s.ticket? n = some t) : s.slotState n = t.state := by
  simp [State.slotState, h]

theorem State.slotState_free {n : Nat} {s : State} (h : s.ticket? n = none) : s.slotState n = .free := by
  simp [State.slotState, h]

/-! ### Lanes -/

theorem Ticket.takesArrivals_iff {t : Ticket} : t.takesArrivals = true ↔ t.state = .opened ∨ t.state = .closing := by
  simp [Ticket.takesArrivals]

theorem Ticket.attached_iff {lane : Nat} {t : Ticket} : t.attached lane = true ↔ ∃ e ∈ t.attachments, e.lane = lane := by
  simp [Ticket.attached]

theorem Ticket.hasStation_iff {t : Ticket} : t.hasStation = true ↔ ∃ e ∈ t.attachments, e.lane < 6 := by
  simp [Ticket.hasStation, isStationLane]

/-- A lane feeds no ticket exactly where it is attached to none (3.3). -/
theorem State.feeding_eq_none {lane : Nat} {s : State} : s.feeding lane = none ↔ s.laneFree lane := by
  simp only [State.feeding, List.find?_eq_none, Bool.and_eq_true, Ticket.takesArrivals_iff, Ticket.attached_iff,
    State.laneFree]
  grind

theorem State.feeding_isSome {lane : Nat} {s : State} : (s.feeding lane).isSome = true ↔ ¬s.laneFree lane := by
  rw [← State.feeding_eq_none]; exact Option.isSome_iff_ne_none

/-- The ticket a lane feeds is in the table, OPEN or CLOSING, with an entry for the lane. -/
theorem State.feeding_some {lane : Nat} {t : Ticket} {s : State} (h : s.feeding lane = some t) :
    t ∈ s.tickets ∧ (t.state = .opened ∨ t.state = .closing) ∧ ∃ e ∈ t.attachments, e.lane = lane := by
  have := List.find?_some h
  simp only [Bool.and_eq_true, Ticket.takesArrivals_iff, Ticket.attached_iff] at this
  exact ⟨List.mem_of_find?_eq_some h, this⟩

/-- The count an entry holds is the one its lane is answered with (R44, R45, R91). -/
theorem Ticket.takenOn_of {lane : Nat} {e : Attachment} {t : Ticket}
    (h : t.attachments.find? (fun e => e.lane == lane) = some e) : t.takenOn lane = e.taken := by
  simp [Ticket.takenOn, h]

/-- A lane may join a ticket (R43). -/
theorem Ticket.mayAttach_iff {lane : Nat} {t : Ticket} :
    t.mayAttach lane = true ↔ t.state = .opened ∨ (t.state = .closing ∧ lane < 6) := by
  simp [Ticket.mayAttach, isStationLane]

theorem Ticket.voidable_iff {t : Ticket} :
    t.voidable = true ↔ t.state = .opened ∨ t.state = .closing ∨ t.state = .valued := by
  simp [Ticket.voidable, or_assoc]

/-! ### Sets -/

theorem HoldReason.mem_names (r : HoldReason) : r ∈ HoldReason.names := by cases r <;> decide
theorem Notice.mem_names (n : Notice) : n ∈ Notice.names := by cases n <;> decide

/-- A notice joins a set and nothing leaves it (R182). -/
@[simp] theorem mem_addNotice {m n : Notice} {set : List Notice} : m ∈ addNotice n set ↔ m = n ∨ m ∈ set := by
  simp [addNotice, Notice.mem_names]

/-- A notice stands in a set at most once (R182). -/
theorem addNotice_nodup (n : Notice) (set : List Notice) : (addNotice n set).Nodup :=
  List.Nodup.filter _ (by decide)

theorem addNotice_ne_nil (n : Notice) (set : List Notice) : addNotice n set ≠ [] :=
  List.ne_nil_of_mem (mem_addNotice.2 (.inl rfl))

/-- A reason joins a hold set and nothing leaves it (R55). -/
@[simp] theorem mem_addHold {q r : HoldReason} {set : List HoldReason} : q ∈ addHold r set ↔ q = r ∨ q ∈ set := by
  simp [addHold, HoldReason.mem_names]

theorem addHold_nodup (r : HoldReason) (set : List HoldReason) : (addHold r set).Nodup :=
  List.Nodup.filter _ (by decide)

/-- The reasons named leave a hold set, and no other does (R56). -/
@[simp] theorem mem_dropHolds {q : HoldReason} {rs set : List HoldReason} : q ∈ dropHolds rs set ↔ q ∈ set ∧ q ∉ rs := by
  simp [dropHolds]

theorem dropHolds_nodup {rs set : List HoldReason} (h : set.Nodup) : (dropHolds rs set).Nodup := h.filter _

end Sys2Proof.Machine
end

