-- ==== Sys2Proof/Laws/Valuation.lean ====
section
/-! SUPPORT. The float through a valuation and its restore, class by class (R31, R32), and what a valuation leaves alone. -/

namespace Sys2Proof.Machine

/-! ### Counts of an account -/

@[simp] theorem Account.setCount_state (c : ClassId) (n : Nat) (a : Account) : (a.setCount c n).state = a.state := rfl
@[simp] theorem Account.setCount_credit (c : ClassId) (n : Nat) (a : Account) : (a.setCount c n).credit = a.credit := rfl
@[simp] theorem Account.setCount_customer (c : ClassId) (n : Nat) (a : Account) : (a.setCount c n).customer = a.customer := rfl
@[simp] theorem Account.setCount_saturated (c : ClassId) (n : Nat) (a : Account) :
    (a.setCount c n).saturated = a.saturated := rfl

theorem Account.setCount_outstanding (c d : ClassId) (n : Nat) (a : Account) :
    (a.setCount c n).outstanding[d] = if d = c then n else a.outstanding[d] := by
  by_cases h : d = c
  · subst h; simp [Account.setCount]
  · have e : c.val ≠ d.val := fun e => h (Fin.ext e.symm)
    simp [Account.setCount, h, Vector.getElem_set_ne, e]

/-- Growing one count (R25, R32): the count stops at 65,535, with the saturated flag set where it would go beyond. -/
theorem Account.grow_eq (c : ClassId) (n : Nat) (a : Account) :
    a.grow c n = { a.setCount c (min 65535 (a.outstanding[c] + n)) with
      saturated := a.saturated || decide (65535 < a.outstanding[c] + n) } := by
  unfold Account.grow Config.countMax
  split
  · rename_i h
    rw [Nat.min_eq_right h, decide_eq_false (Nat.not_lt.2 h), Bool.or_false]
    rfl
  · rename_i h
    rw [Nat.min_eq_left (by omega), decide_eq_true (Nat.lt_of_not_le h), Bool.or_true]

/-- Two accounts of the same fields are the same. -/
theorem Account.ext_counts {a b : Account} (h : ∀ c : ClassId, a.outstanding[c] = b.outstanding[c]) (h1 : a.state = b.state)
    (h2 : a.customer = b.customer) (h3 : a.credit = b.credit) (h4 : a.saturated = b.saturated) : a = b := by
  obtain ⟨s, c, o, cr, sa⟩ := a
  obtain ⟨s', c', o', cr', sa'⟩ := b
  simp only at h h1 h2 h3 h4
  have : o = o' := by
    apply Vector.ext
    intro i hi
    exact h ⟨i, hi⟩
  simp_all

/-- The reservations of several lines, taken together (R31): for distinct classes each count falls by its own line's, and
nothing else of the account changes. -/
theorem reserveAll_spec : ∀ (rs : List (ClassId × Nat)) (a : Account), (rs.map (·.1)).Nodup →
    (∀ p ∈ rs, (reserveAll rs a).outstanding[p.1] = a.outstanding[p.1] - p.2) ∧
    (∀ c : ClassId, c ∉ rs.map (·.1) → (reserveAll rs a).outstanding[c] = a.outstanding[c]) ∧
    (reserveAll rs a).state = a.state ∧ (reserveAll rs a).customer = a.customer ∧ (reserveAll rs a).credit = a.credit ∧
    (reserveAll rs a).saturated = a.saturated
  | [], a, _ => by simp [reserveAll]
  | (c, r) :: rs, a, h => by
    simp only [List.map_cons, List.nodup_cons] at h
    obtain ⟨h1, h2, h3⟩ := reserveAll_spec rs (a.reserve c r) h.2
    refine ⟨?_, ?_, ?_⟩
    · intro p hp
      rcases List.mem_cons.1 hp with rfl | hp
      · show (reserveAll rs (a.reserve c r)).outstanding[c] = a.outstanding[c] - r
        rw [h2 c h.1, Account.reserve, Account.setCount_outstanding, if_pos rfl]
      · have hne : p.1 ≠ c := fun e => h.1 (e ▸ List.mem_map_of_mem (f := (·.1)) hp)
        show (reserveAll rs (a.reserve c r)).outstanding[p.1] = _
        rw [h1 p hp, Account.reserve, Account.setCount_outstanding, if_neg hne]
    · intro d hd
      simp only [List.map_cons, List.mem_cons, not_or] at hd
      show (reserveAll rs (a.reserve c r)).outstanding[d] = _
      rw [h2 d hd.2, Account.reserve, Account.setCount_outstanding, if_neg hd.1]
    · exact h3

/-- The restores of several lines, taken together (R32): for distinct classes each count grows by its own line's, and the
saturated flag is set where one would go beyond 65,535. -/
theorem restoreAll_spec : ∀ (rs : List (ClassId × Nat)) (a : Account), (rs.map (·.1)).Nodup →
    (∀ p ∈ rs, (restoreAll rs a).outstanding[p.1] = min 65535 (a.outstanding[p.1] + p.2)) ∧
    (∀ c : ClassId, c ∉ rs.map (·.1) → (restoreAll rs a).outstanding[c] = a.outstanding[c]) ∧
    (restoreAll rs a).state = a.state ∧ (restoreAll rs a).customer = a.customer ∧ (restoreAll rs a).credit = a.credit ∧
    ((restoreAll rs a).saturated = true ↔ a.saturated = true ∨ ∃ p ∈ rs, 65535 < a.outstanding[p.1] + p.2)
  | [], a, _ => by simp [restoreAll]
  | (c, r) :: rs, a, h => by
    simp only [List.map_cons, List.nodup_cons] at h
    have ho : ∀ d : ClassId, (a.grow c r).outstanding[d] = if d = c then min 65535 (a.outstanding[c] + r) else a.outstanding[d] := by
      intro d; rw [Account.grow_eq]; exact Account.setCount_outstanding c d _ a
    have hg : (a.grow c r).saturated = (a.saturated || decide (65535 < a.outstanding[c] + r)) := by rw [Account.grow_eq]
    obtain ⟨h1, h2, h3, h4, h5, h6⟩ := restoreAll_spec rs (a.grow c r) h.2
    have hne : ∀ p ∈ rs, p.1 ≠ c := fun p hp e => h.1 (e ▸ List.mem_map_of_mem (f := (·.1)) hp)
    refine ⟨?_, ?_, ?_, ?_, ?_, ?_⟩
    · intro p hp
      rcases List.mem_cons.1 hp with rfl | hp
      · show (restoreAll rs (a.grow c r)).outstanding[c] = _
        rw [h2 c h.1, ho, if_pos rfl]
      · show (restoreAll rs (a.grow c r)).outstanding[p.1] = _
        rw [h1 p hp, ho, if_neg (hne p hp)]
    · intro d hd
      simp only [List.map_cons, List.mem_cons, not_or] at hd
      show (restoreAll rs (a.grow c r)).outstanding[d] = _
      rw [h2 d hd.2, ho, if_neg hd.1]
    · show (restoreAll rs (a.grow c r)).state = _
      rw [h3, Account.grow_eq]; rfl
    · show (restoreAll rs (a.grow c r)).customer = _
      rw [h4, Account.grow_eq]; rfl
    · show (restoreAll rs (a.grow c r)).credit = _
      rw [h5, Account.grow_eq]; rfl
    · show (restoreAll rs (a.grow c r)).saturated = true ↔ _
      rw [h6, hg]
      simp only [Bool.or_eq_true, decide_eq_true_eq, List.mem_cons, exists_eq_or_imp, or_assoc]
      refine or_congr_right (or_congr_right ?_)
      refine ⟨fun ⟨p, hp, hl⟩ => ⟨p, hp, ?_⟩, fun ⟨p, hp, hl⟩ => ⟨p, hp, ?_⟩⟩
      · rwa [ho, if_neg (hne p hp)] at hl
      · rwa [ho, if_neg (hne p hp)]

/-! ### The valuation event -/

/-- The reasons a valuation adds join the hold set (R117). -/
theorem mem_foldl_addHold {q : HoldReason} : ∀ {rs set : List HoldReason},
    q ∈ rs.foldl (fun h r => addHold r h) set ↔ q ∈ set ∨ q ∈ rs
  | [], set => by simp
  | r :: rs, set => by simp [mem_foldl_addHold (rs := rs), or_comm, or_assoc, or_left_comm]

theorem mem_valuationHolds {q : HoldReason} {excess blocked forced : Bool} :
    q ∈ valuationHolds excess blocked forced ↔
      (q = .overLimit ∧ excess = true) ∨ (q = .accountBlocked ∧ blocked = true) ∨ (q = .forcedClose ∧ forced = true) := by
  cases excess <;> cases blocked <;> cases forced <;> simp [valuationHolds, or_comm, or_left_comm]

@[simp] theorem State.valueTicket_tickets (forced : Bool) (t : Ticket) (s : State) :
    (s.valueTicket forced t).tickets = s.tickets.map fun u => if u.number = t.number then s.valuedTicket forced t else u := by
  unfold State.valueTicket; dsimp only; split <;> rfl
@[simp] theorem State.valueTicket_closingOrder (forced : Bool) (t : Ticket) (s : State) :
    (s.valueTicket forced t).closingOrder = s.closingOrder.filter (· != t.number) := by
  unfold State.valueTicket; dsimp only; split <;> rfl
@[simp] theorem State.valueTicket_accounts (forced : Bool) (t : Ticket) (s : State) :
    (s.valueTicket forced t).accounts = s.accounts.set t.account.val (if t.account.val = 0 then s.accounts[t.account]
      else reserveAll (t.byClass ((s.ticketFigures t).map (reservedBy t.account))) s.accounts[t.account]) t.account.isLt := by
  unfold State.valueTicket; dsimp only; split <;> rfl
@[simp] theorem State.valueTicket_office (forced : Bool) (t : Ticket) (s : State) :
    (s.valueTicket forced t).office = if s.valuationHeld forced t then s.office.place .hold else s.office := by
  unfold State.valueTicket; dsimp only; split <;> rfl
@[simp] theorem State.valueTicket_classes (forced : Bool) (t : Ticket) (s : State) :
    (s.valueTicket forced t).classes = s.classes := by
  unfold State.valueTicket; dsimp only; split <;> rfl
@[simp] theorem State.valueTicket_changes (forced : Bool) (t : Ticket) (s : State) :
    (s.valueTicket forced t).changes = s.changes := by
  unfold State.valueTicket; dsimp only; split <;> rfl
@[simp] theorem State.valueTicket_residue (forced : Bool) (t : Ticket) (s : State) :
    (s.valueTicket forced t).residue = s.residue := by
  unfold State.valueTicket; dsimp only; split <;> rfl
@[simp] theorem State.valueTicket_nextNumber (forced : Bool) (t : Ticket) (s : State) :
    (s.valueTicket forced t).nextNumber = s.nextNumber := by
  unfold State.valueTicket; dsimp only; split <;> rfl
@[simp] theorem State.valueTicket_reviewThreshold (forced : Bool) (t : Ticket) (s : State) :
    (s.valueTicket forced t).reviewThreshold = s.reviewThreshold := by
  unfold State.valueTicket; dsimp only; split <;> rfl
@[simp] theorem State.valueTicket_closeWait (forced : Bool) (t : Ticket) (s : State) :
    (s.valueTicket forced t).closeWait = s.closeWait := by
  unfold State.valueTicket; dsimp only; split <;> rfl
@[simp] theorem State.valueTicket_tags (forced : Bool) (t : Ticket) (s : State) :
    (s.valueTicket forced t).tags = s.tags := by
  unfold State.valueTicket; dsimp only; split <;> rfl
@[simp] theorem State.valueTicket_watch (forced : Bool) (t : Ticket) (s : State) :
    (s.valueTicket forced t).watch = s.watch := by
  unfold State.valueTicket; dsimp only; split <;> rfl
@[simp] theorem State.valueTicket_pulse (forced : Bool) (t : Ticket) (s : State) :
    (s.valueTicket forced t).pulse = s.pulse := by
  unfold State.valueTicket; dsimp only; split <;> rfl
@[simp] theorem State.valueTicket_queue (forced : Bool) (t : Ticket) (s : State) :
    (s.valueTicket forced t).queue = s.queue := by
  unfold State.valueTicket; dsimp only; split <;> rfl
@[simp] theorem State.valueTicket_log (forced : Bool) (t : Ticket) (s : State) :
    (s.valueTicket forced t).log = s.log := by
  unfold State.valueTicket; dsimp only; split <;> rfl
@[simp] theorem State.valueTicket_waiting (forced : Bool) (t : Ticket) (s : State) :
    (s.valueTicket forced t).waiting = s.waiting := by
  unfold State.valueTicket; dsimp only; split <;> rfl
@[simp] theorem State.valueTicket_disp (forced : Bool) (t : Ticket) (s : State) :
    (s.valueTicket forced t).disp = s.disp := by
  unfold State.valueTicket; dsimp only; split <;> rfl
@[simp] theorem State.valueTicket_bus (forced : Bool) (t : Ticket) (s : State) :
    (s.valueTicket forced t).bus = s.bus := by
  unfold State.valueTicket; dsimp only; split <;> rfl
@[simp] theorem State.valueTicket_acctPort (forced : Bool) (t : Ticket) (s : State) :
    (s.valueTicket forced t).acctPort = s.acctPort := by
  unfold State.valueTicket; dsimp only; split <;> rfl
@[simp] theorem State.valueTicket_clock (forced : Bool) (t : Ticket) (s : State) :
    (s.valueTicket forced t).clock = s.clock := by
  unfold State.valueTicket; dsimp only; split <;> rfl
@[simp] theorem State.valueTicket_lossMark (forced : Bool) (t : Ticket) (s : State) :
    (s.valueTicket forced t).lossMark = s.lossMark := by
  unfold State.valueTicket; dsimp only; split <;> rfl
@[simp] theorem State.valueTicket_marker (forced : Bool) (t : Ticket) (s : State) :
    (s.valueTicket forced t).marker = s.marker := by
  unfold State.valueTicket; dsimp only; split <;> rfl
@[simp] theorem State.valueTicket_check (forced : Bool) (t : Ticket) (s : State) :
    (s.valueTicket forced t).check = s.check := by
  unfold State.valueTicket; dsimp only; split <;> rfl
@[simp] theorem State.valueTicket_power (forced : Bool) (t : Ticket) (s : State) :
    (s.valueTicket forced t).power = s.power := by
  unfold State.valueTicket; dsimp only; split <;> rfl
@[simp] theorem State.valueTicket_now (forced : Bool) (t : Ticket) (s : State) :
    (s.valueTicket forced t).now = s.now := by
  unfold State.valueTicket; dsimp only; split <;> rfl
@[simp] theorem State.valueTicket_draws (forced : Bool) (t : Ticket) (s : State) :
    (s.valueTicket forced t).draws = s.draws := by
  unfold State.valueTicket; dsimp only; split <;> rfl
@[simp] theorem State.valueTicket_pending (forced : Bool) (t : Ticket) (s : State) :
    (s.valueTicket forced t).pending = s.pending := by
  unfold State.valueTicket; dsimp only; split <;> rfl

/-- The valued ticket stands under its number. -/
theorem State.valueTicket_ticket? {forced : Bool} {n : Nat} {t u : Ticket} {s : State} (h : s.ticket? n = some t)
    (hu : u.number = n) : (s.valueTicket forced u).ticket? n = some (s.valuedTicket forced u) := by
  rw [State.ticket?_congr (t := s.putTicket (s.valuedTicket forced u)) (by simp [State.valuedTicket, State.putTicket])]
  exact State.ticket?_putTicket h hu

@[simp] theorem State.valuedTicket_state (forced : Bool) (t : Ticket) (s : State) :
    (s.valuedTicket forced t).state = .valued := rfl
@[simp] theorem State.valuedTicket_number (forced : Bool) (t : Ticket) (s : State) :
    (s.valuedTicket forced t).number = t.number := rfl

/-- A restore changes the account's counts alone (R32). -/
theorem State.restoreTicket_eq (t : Ticket) (s : State) :
    s.restoreTicket t = { s with accounts := (s.restoreTicket t).accounts } := by
  unfold State.restoreTicket
  split
  · rfl
  · split <;> rfl

end Sys2Proof.Machine
end

