-- ==== Sys2Proof/Laws/Settlement.lean ====
section
/-! SUPPORT. The end of a ticket (R83, R135, R137): what finishing one leaves alone, and what its slot shows after it. -/

namespace Sys2Proof.Machine

@[simp] theorem State.enterLog_classes (r : LogRecord) (s : State) : (s.enterLog r).classes = s.classes := by
  unfold State.enterLog; dsimp only; split <;> rfl
@[simp] theorem State.finish_classes (t : Ticket) (r : LogRecord) (s : State) : (s.finish t r).classes = s.classes := by
  unfold State.finish; split
  · simp [State.dropTicket, State.dropTags]
  · rfl
@[simp] theorem State.settle_classes (t : Ticket) (s : State) : (s.settle t).classes = s.classes := by
  simp [State.settle]
@[simp] theorem State.enterLog_changes (r : LogRecord) (s : State) : (s.enterLog r).changes = s.changes := by
  unfold State.enterLog; dsimp only; split <;> rfl
@[simp] theorem State.finish_changes (t : Ticket) (r : LogRecord) (s : State) : (s.finish t r).changes = s.changes := by
  unfold State.finish; split
  · simp [State.dropTicket, State.dropTags]
  · rfl
@[simp] theorem State.settle_changes (t : Ticket) (s : State) : (s.settle t).changes = s.changes := by
  simp [State.settle]
@[simp] theorem State.enterLog_accounts (r : LogRecord) (s : State) : (s.enterLog r).accounts = s.accounts := by
  unfold State.enterLog; dsimp only; split <;> rfl
@[simp] theorem State.finish_accounts (t : Ticket) (r : LogRecord) (s : State) : (s.finish t r).accounts = s.accounts := by
  unfold State.finish; split
  · simp [State.dropTicket, State.dropTags]
  · rfl
@[simp] theorem State.settle_accounts (t : Ticket) (s : State) : (s.settle t).accounts = s.accounts := by
  simp [State.settle]
@[simp] theorem State.enterLog_residue (r : LogRecord) (s : State) : (s.enterLog r).residue = s.residue := by
  unfold State.enterLog; dsimp only; split <;> rfl
@[simp] theorem State.finish_residue (t : Ticket) (r : LogRecord) (s : State) : (s.finish t r).residue = s.residue := by
  unfold State.finish; split
  · simp [State.dropTicket, State.dropTags]
  · rfl
@[simp] theorem State.settle_residue (t : Ticket) (s : State) : (s.settle t).residue = s.residue := by
  simp [State.settle]
@[simp] theorem State.enterLog_nextNumber (r : LogRecord) (s : State) : (s.enterLog r).nextNumber = s.nextNumber := by
  unfold State.enterLog; dsimp only; split <;> rfl
@[simp] theorem State.finish_nextNumber (t : Ticket) (r : LogRecord) (s : State) : (s.finish t r).nextNumber = s.nextNumber := by
  unfold State.finish; split
  · simp [State.dropTicket, State.dropTags]
  · rfl
@[simp] theorem State.settle_nextNumber (t : Ticket) (s : State) : (s.settle t).nextNumber = s.nextNumber := by
  simp [State.settle]
@[simp] theorem State.enterLog_reviewThreshold (r : LogRecord) (s : State) : (s.enterLog r).reviewThreshold = s.reviewThreshold := by
  unfold State.enterLog; dsimp only; split <;> rfl
@[simp] theorem State.finish_reviewThreshold (t : Ticket) (r : LogRecord) (s : State) : (s.finish t r).reviewThreshold = s.reviewThreshold := by
  unfold State.finish; split
  · simp [State.dropTicket, State.dropTags]
  · rfl
@[simp] theorem State.settle_reviewThreshold (t : Ticket) (s : State) : (s.settle t).reviewThreshold = s.reviewThreshold := by
  simp [State.settle]
@[simp] theorem State.enterLog_closeWait (r : LogRecord) (s : State) : (s.enterLog r).closeWait = s.closeWait := by
  unfold State.enterLog; dsimp only; split <;> rfl
@[simp] theorem State.finish_closeWait (t : Ticket) (r : LogRecord) (s : State) : (s.finish t r).closeWait = s.closeWait := by
  unfold State.finish; split
  · simp [State.dropTicket, State.dropTags]
  · rfl
@[simp] theorem State.settle_closeWait (t : Ticket) (s : State) : (s.settle t).closeWait = s.closeWait := by
  simp [State.settle]
@[simp] theorem State.enterLog_closingOrder (r : LogRecord) (s : State) : (s.enterLog r).closingOrder = s.closingOrder := by
  unfold State.enterLog; dsimp only; split <;> rfl
@[simp] theorem State.finish_closingOrder (t : Ticket) (r : LogRecord) (s : State) : (s.finish t r).closingOrder = s.closingOrder := by
  unfold State.finish; split
  · simp [State.dropTicket, State.dropTags]
  · rfl
@[simp] theorem State.settle_closingOrder (t : Ticket) (s : State) : (s.settle t).closingOrder = s.closingOrder := by
  simp [State.settle]
@[simp] theorem State.enterLog_watch (r : LogRecord) (s : State) : (s.enterLog r).watch = s.watch := by
  unfold State.enterLog; dsimp only; split <;> rfl
@[simp] theorem State.finish_watch (t : Ticket) (r : LogRecord) (s : State) : (s.finish t r).watch = s.watch := by
  unfold State.finish; split
  · simp [State.dropTicket, State.dropTags]
  · rfl
@[simp] theorem State.settle_watch (t : Ticket) (s : State) : (s.settle t).watch = s.watch := by
  simp [State.settle]
@[simp] theorem State.enterLog_pulse (r : LogRecord) (s : State) : (s.enterLog r).pulse = s.pulse := by
  unfold State.enterLog; dsimp only; split <;> rfl
@[simp] theorem State.finish_pulse (t : Ticket) (r : LogRecord) (s : State) : (s.finish t r).pulse = s.pulse := by
  unfold State.finish; split
  · simp [State.dropTicket, State.dropTags]
  · rfl
@[simp] theorem State.settle_pulse (t : Ticket) (s : State) : (s.settle t).pulse = s.pulse := by
  simp [State.settle]
@[simp] theorem State.enterLog_queue (r : LogRecord) (s : State) : (s.enterLog r).queue = s.queue := by
  unfold State.enterLog; dsimp only; split <;> rfl
@[simp] theorem State.finish_queue (t : Ticket) (r : LogRecord) (s : State) : (s.finish t r).queue = s.queue := by
  unfold State.finish; split
  · simp [State.dropTicket, State.dropTags]
  · rfl
@[simp] theorem State.settle_queue (t : Ticket) (s : State) : (s.settle t).queue = s.queue := by
  simp [State.settle]
@[simp] theorem State.enterLog_disp (r : LogRecord) (s : State) : (s.enterLog r).disp = s.disp := by
  unfold State.enterLog; dsimp only; split <;> rfl
@[simp] theorem State.finish_disp (t : Ticket) (r : LogRecord) (s : State) : (s.finish t r).disp = s.disp := by
  unfold State.finish; split
  · simp [State.dropTicket, State.dropTags]
  · rfl
@[simp] theorem State.settle_disp (t : Ticket) (s : State) : (s.settle t).disp = s.disp := by
  simp [State.settle]
@[simp] theorem State.enterLog_bus (r : LogRecord) (s : State) : (s.enterLog r).bus = s.bus := by
  unfold State.enterLog; dsimp only; split <;> rfl
@[simp] theorem State.finish_bus (t : Ticket) (r : LogRecord) (s : State) : (s.finish t r).bus = s.bus := by
  unfold State.finish; split
  · simp [State.dropTicket, State.dropTags]
  · rfl
@[simp] theorem State.settle_bus (t : Ticket) (s : State) : (s.settle t).bus = s.bus := by
  simp [State.settle]
@[simp] theorem State.enterLog_clock (r : LogRecord) (s : State) : (s.enterLog r).clock = s.clock := by
  unfold State.enterLog; dsimp only; split <;> rfl
@[simp] theorem State.finish_clock (t : Ticket) (r : LogRecord) (s : State) : (s.finish t r).clock = s.clock := by
  unfold State.finish; split
  · simp [State.dropTicket, State.dropTags]
  · rfl
@[simp] theorem State.settle_clock (t : Ticket) (s : State) : (s.settle t).clock = s.clock := by
  simp [State.settle]
@[simp] theorem State.enterLog_lossMark (r : LogRecord) (s : State) : (s.enterLog r).lossMark = s.lossMark := by
  unfold State.enterLog; dsimp only; split <;> rfl
@[simp] theorem State.finish_lossMark (t : Ticket) (r : LogRecord) (s : State) : (s.finish t r).lossMark = s.lossMark := by
  unfold State.finish; split
  · simp [State.dropTicket, State.dropTags]
  · rfl
@[simp] theorem State.settle_lossMark (t : Ticket) (s : State) : (s.settle t).lossMark = s.lossMark := by
  simp [State.settle]
@[simp] theorem State.enterLog_marker (r : LogRecord) (s : State) : (s.enterLog r).marker = s.marker := by
  unfold State.enterLog; dsimp only; split <;> rfl
@[simp] theorem State.finish_marker (t : Ticket) (r : LogRecord) (s : State) : (s.finish t r).marker = s.marker := by
  unfold State.finish; split
  · simp [State.dropTicket, State.dropTags]
  · rfl
@[simp] theorem State.settle_marker (t : Ticket) (s : State) : (s.settle t).marker = s.marker := by
  simp [State.settle]
@[simp] theorem State.enterLog_check (r : LogRecord) (s : State) : (s.enterLog r).check = s.check := by
  unfold State.enterLog; dsimp only; split <;> rfl
@[simp] theorem State.finish_check (t : Ticket) (r : LogRecord) (s : State) : (s.finish t r).check = s.check := by
  unfold State.finish; split
  · simp [State.dropTicket, State.dropTags]
  · rfl
@[simp] theorem State.settle_check (t : Ticket) (s : State) : (s.settle t).check = s.check := by
  simp [State.settle]
@[simp] theorem State.enterLog_power (r : LogRecord) (s : State) : (s.enterLog r).power = s.power := by
  unfold State.enterLog; dsimp only; split <;> rfl
@[simp] theorem State.finish_power (t : Ticket) (r : LogRecord) (s : State) : (s.finish t r).power = s.power := by
  unfold State.finish; split
  · simp [State.dropTicket, State.dropTags]
  · rfl
@[simp] theorem State.settle_power (t : Ticket) (s : State) : (s.settle t).power = s.power := by
  simp [State.settle]
@[simp] theorem State.enterLog_now (r : LogRecord) (s : State) : (s.enterLog r).now = s.now := by
  unfold State.enterLog; dsimp only; split <;> rfl
@[simp] theorem State.finish_now (t : Ticket) (r : LogRecord) (s : State) : (s.finish t r).now = s.now := by
  unfold State.finish; split
  · simp [State.dropTicket, State.dropTags]
  · rfl
@[simp] theorem State.settle_now (t : Ticket) (s : State) : (s.settle t).now = s.now := by
  simp [State.settle]
@[simp] theorem State.enterLog_draws (r : LogRecord) (s : State) : (s.enterLog r).draws = s.draws := by
  unfold State.enterLog; dsimp only; split <;> rfl
@[simp] theorem State.finish_draws (t : Ticket) (r : LogRecord) (s : State) : (s.finish t r).draws = s.draws := by
  unfold State.finish; split
  · simp [State.dropTicket, State.dropTags]
  · rfl
@[simp] theorem State.settle_draws (t : Ticket) (s : State) : (s.settle t).draws = s.draws := by
  simp [State.settle]
@[simp] theorem State.enterLog_pending (r : LogRecord) (s : State) : (s.enterLog r).pending = s.pending := by
  unfold State.enterLog; dsimp only; split <;> rfl
@[simp] theorem State.finish_pending (t : Ticket) (r : LogRecord) (s : State) : (s.finish t r).pending = s.pending := by
  unfold State.finish; split
  · simp [State.dropTicket, State.dropTags]
  · rfl
@[simp] theorem State.settle_pending (t : Ticket) (s : State) : (s.settle t).pending = s.pending := by
  simp [State.settle]
@[simp] theorem State.enterLog_tickets (r : LogRecord) (s : State) : (s.enterLog r).tickets = s.tickets := by
  unfold State.enterLog; dsimp only; split <;> rfl
@[simp] theorem State.enterLog_tags (r : LogRecord) (s : State) : (s.enterLog r).tags = s.tags := by
  unfold State.enterLog; dsimp only; split <;> rfl
@[simp] theorem State.enterLog_waiting (r : LogRecord) (s : State) : (s.enterLog r).waiting = s.waiting := by
  unfold State.enterLog; dsimp only; split <;> rfl

/-- A record joins the tail of the log (R137). -/
@[simp] theorem State.enterLog_log (r : LogRecord) (s : State) : (s.enterLog r).log = s.log ++ [r] := by
  unfold State.enterLog; dsimp only; split <;> rfl

/-- The log after a ticket finishes (R135). -/
theorem State.finish_log (t : Ticket) (r : LogRecord) (s : State) :
    (s.finish t r).log = if s.log.length < 64 then s.log ++ [r] else s.log := by
  unfold State.finish; split <;> simp_all [State.dropTicket, State.dropTags]

/-- The ticket table after a ticket finishes (R135). -/
theorem State.finish_tickets (t : Ticket) (r : LogRecord) (s : State) :
    (s.finish t r).tickets = if s.log.length < 64 then s.tickets.filter fun u => u.number != t.number
      else s.tickets.map fun u => if u.number = t.number then { t with record := some r } else u := by
  unfold State.finish; split <;> simp_all [State.dropTicket, State.dropTags, State.putTicket]

/-- The keg tags of a ticket that finishes leave the list (R83). -/
@[simp] theorem State.finish_tags (t : Ticket) (r : LogRecord) (s : State) :
    (s.finish t r).tags = s.tags.filter fun e => e.ticket != t.number := by
  unfold State.finish; split
  · simp [State.dropTicket, State.dropTags]
  · rfl

/-- The waiting order after a ticket finishes (R135). -/
theorem State.finish_waiting (t : Ticket) (r : LogRecord) (s : State) :
    (s.finish t r).waiting = if s.log.length < 64 then s.waiting else s.waiting ++ [t.number] := by
  unfold State.finish; split <;> simp_all [State.dropTicket, State.dropTags, State.putTicket]

/-- The slot of a ticket that has finished shows FREE once its record is in the log, and SETTLED while it waits (R58, R126). -/
theorem State.finish_slotState {t u : Ticket} {r : LogRecord} {s : State} (h : s.ticket? t.number = some u)
    (hs : t.state = .settled) :
    (s.finish t r).slotState t.number = if s.log.length < 64 then .free else .settled := by
  by_cases hl : s.log.length < 64
  · rw [if_pos hl]
    apply State.slotState_free
    rw [State.ticket?_eq_none, State.finish_tickets, if_pos hl]
    simp
  · rw [if_neg hl]
    have e : (s.finish t r).ticket? t.number = some { t with record := some r } := by
      rw [State.ticket?_congr (t := s.putTicket { t with record := some r })]
      · exact State.ticket?_putTicket h rfl
      · rw [State.finish_tickets, if_neg hl]; rfl
    rw [State.slotState_of e]
    exact hs

/-- The slot of a ticket that has settled (R134, R135). -/
theorem State.settle_slotState {t u : Ticket} {s : State} (h : s.ticket? t.number = some u) :
    (s.settle t).slotState t.number = if s.log.length < 64 then .free else .settled :=
  State.finish_slotState (t := { t with
    state := .settled, outcome := some .paid, settledAt := some s.stamp
    progress := t.progress.map fun p => { p with overpay := t.paidValue s.disp - t.cash } }) (u := u) h rfl

end Sys2Proof.Machine
end

