-- ==== Sys2Proof/Laws/Shapes.lean ====
section
/-! SUPPORT. What each shared operation can touch, said once: the state after it is the state before it with the fields named
and no other field changed. -/

namespace Sys2Proof.Machine

/-! ### The dispenser (Section 8) -/

/-- A unit counted out touches the dispenser and the office notices (R148). -/
theorem State.decrement_shape (c : Channel) (s : State) :
    s.decrement c = { s with disp := (s.decrement c).disp, office := (s.decrement c).office } := by
  unfold State.decrement; dsimp only; split
  · rfl
  · split <;> rfl

/-- A stray unit touches the dispenser and the office notices (R159). -/
theorem State.strayUnit_shape (c : Channel) (s : State) :
    s.strayUnit c = { s with disp := (s.strayUnit c).disp, office := (s.strayUnit c).office } := by
  unfold State.strayUnit; dsimp only; rw [State.decrement_shape]; rfl

/-- An empty store found touches the dispenser and the office notices (R152). -/
theorem State.foundEmpty_shape (c : Channel) (s : State) :
    s.foundEmpty c = { s with disp := (s.foundEmpty c).disp, office := (s.foundEmpty c).office } := by
  unfold State.foundEmpty; dsimp only; split <;> rfl

/-- A change of a ticket's payout progress touches the ticket table. -/
theorem State.onProgress_shape (n : Nat) (f : Progress → Progress) (s : State) :
    s.onProgress n f = { s with tickets := (s.onProgress n f).tickets } := by
  unfold State.onProgress; split <;> rfl

/-- A note counted touches the dispenser, its ticket and the office notices (R150). -/
theorem State.countNote_shape (j : JobProgress) (s : State) :
    s.countNote j = { s with
      disp := (s.countNote j).disp, tickets := (s.countNote j).tickets, office := (s.countNote j).office } := by
  unfold State.countNote; rw [State.onProgress_shape, State.decrement_shape]; rfl

/-- A coin counted touches the dispenser, its ticket and the office notices (R154). -/
theorem State.countCoin_shape (j : JobProgress) (s : State) :
    s.countCoin j = { s with
      disp := (s.countCoin j).disp, tickets := (s.countCoin j).tickets, office := (s.countCoin j).office } := by
  unfold State.countCoin; rw [State.onProgress_shape, State.decrement_shape]; rfl

/-- A job that ends on a fault touches the dispenser, its ticket and the office notices (R158). -/
theorem State.jobFault_shape (j : JobProgress) (cause : FaultCause) (s : State) :
    s.jobFault j cause = { s with
      disp := (s.jobFault j cause).disp, tickets := (s.jobFault j cause).tickets, office := (s.jobFault j cause).office } := by
  unfold State.jobFault; dsimp only; split <;> rfl

/-- A record that joins the log touches the log and the notices of both ports (R137). -/
theorem State.enterLog_shape (r : LogRecord) (s : State) :
    s.enterLog r = { s with
      log := (s.enterLog r).log, office := (s.enterLog r).office, acctPort := (s.enterLog r).acctPort } := by
  unfold State.enterLog; dsimp only; split <;> rfl

/-- A finish touches the ticket table, the keg tags, the log, the waiting order and the notices (R83, R135). -/
theorem State.finish_shape (t : Ticket) (r : LogRecord) (s : State) :
    s.finish t r = { s with
      tickets := (s.finish t r).tickets, tags := (s.finish t r).tags, log := (s.finish t r).log
      waiting := (s.finish t r).waiting, office := (s.finish t r).office, acctPort := (s.finish t r).acctPort } := by
  unfold State.finish; split
  · rw [State.enterLog_shape]; rfl
  · rfl

/-- A settlement touches what a finish touches (R134). -/
theorem State.settle_shape (t : Ticket) (s : State) :
    s.settle t = { s with
      tickets := (s.settle t).tickets, tags := (s.settle t).tags, log := (s.settle t).log
      waiting := (s.settle t).waiting, office := (s.settle t).office, acctPort := (s.settle t).acctPort } :=
  State.finish_shape _ _ s

/-- What the end of a job, with or without a settlement, can touch (R157, R158). -/
def State.JobEnds (s t : State) : Prop :=
  t = { s with
    disp := t.disp, tickets := t.tickets, tags := t.tags, log := t.log, waiting := t.waiting, office := t.office
    acctPort := t.acctPort }

theorem State.JobEnds.trans {s t u : State} (h : s.JobEnds t) (k : t.JobEnds u) : s.JobEnds u := by
  unfold State.JobEnds at *; rw [h] at k; exact k

theorem State.jobEnds_setDisp (d : Dispenser) (s : State) : s.JobEnds (s.setDisp d) := rfl

theorem State.jobEnds_foundEmpty (c : Channel) (s : State) : s.JobEnds (s.foundEmpty c) := by
  unfold State.JobEnds; rw [State.foundEmpty_shape]

theorem State.jobEnds_jobFault (j : JobProgress) (cause : FaultCause) (s : State) : s.JobEnds (s.jobFault j cause) := by
  unfold State.JobEnds; rw [State.jobFault_shape]

theorem State.jobEnds_settle (t : Ticket) (s : State) : s.JobEnds (s.settle t) := by
  unfold State.JobEnds; rw [State.settle_shape]

theorem State.jobEnds_jobComplete (j : JobProgress) (s : State) : s.JobEnds (s.jobComplete j) := by
  unfold State.jobComplete; dsimp only; split
  · exact (s.jobEnds_setDisp _).trans (State.jobEnds_settle _ _)
  · exact s.jobEnds_setDisp _

theorem State.jobEnds_startCoins (j : JobProgress) (s : State) : s.JobEnds (s.startCoins j) := by
  unfold State.startCoins; split
  · exact (s.jobEnds_foundEmpty _).trans (State.jobEnds_jobFault _ _ _)
  · exact s.jobEnds_setDisp _

theorem State.jobEnds_endNotes (j : JobProgress) (s : State) : s.JobEnds (s.endNotes j) := by
  unfold State.endNotes; dsimp only; split
  · exact (s.jobEnds_setDisp _).trans (State.jobEnds_startCoins _ _)
  · exact (s.jobEnds_setDisp _).trans (State.jobEnds_jobComplete _ _)

theorem State.jobEnds_startVend (j : JobProgress) (s : State) : s.JobEnds (s.startVend j) := by
  unfold State.startVend; split
  · exact (s.jobEnds_foundEmpty _).trans (State.jobEnds_jobFault _ _ _)
  · split
    · exact s.jobEnds_setDisp _
    · exact s.jobEnds_setDisp _

/-- What follows a vend touches no more than the end of a job can (R151, R153). -/
theorem State.jobEnds_afterVend (j : JobProgress) (s : State) : s.JobEnds (s.afterVend j) := by
  unfold State.afterVend; split
  · exact State.jobEnds_startVend _ _
  · exact State.jobEnds_endNotes _ _

/-! ### The pulse lanes (Section 5) -/

/-- A stray count touches the pulse lanes and the office notices (R99). -/
theorem State.stray_shape (i : PulseIx) (s : State) :
    s.stray i = { s with pulse := (s.stray i).pulse, office := (s.stray i).office } := rfl

/-- A counted edge touches the pulse lanes, the ticket the lane feeds and the office notices (R97 to R99). -/
theorem State.pulseArrival_shape (i : PulseIx) (s : State) :
    s.pulseArrival i = { s with
      pulse := (s.pulseArrival i).pulse, tickets := (s.pulseArrival i).tickets, office := (s.pulseArrival i).office } := by
  unfold State.pulseArrival; split
  · rfl
  · dsimp only; split <;> rfl

/-! ### The schedule (Section 1) -/

/-- A pending change that is applied touches the list, the class records and the office notices (R12). -/
theorem State.applyChange_shape (e : PendingChange) (rest : List PendingChange) (s : State) :
    s.applyChange e rest = { s with
      changes := rest, classes := (s.applyChange e rest).classes, office := (s.applyChange e rest).office } := by
  unfold State.applyChange; split <;> rfl

/-- So do all that are due (R11). -/
theorem State.applyDueN_shape (fuel : Nat) (s : State) :
    State.applyDueN fuel s = { s with
      changes := (State.applyDueN fuel s).changes, classes := (State.applyDueN fuel s).classes
      office := (State.applyDueN fuel s).office } := by
  induction fuel generalizing s with
  | zero => rfl
  | succ fuel ih =>
    unfold State.applyDueN; split
    · rfl
    · split
      · rw [ih, State.applyChange_shape]
      · rfl

theorem State.applyDue_shape (s : State) :
    s.applyDue = { s with
      changes := s.applyDue.changes, classes := s.applyDue.classes, office := s.applyDue.office } :=
  State.applyDueN_shape _ s

@[simp] theorem State.applyDue_clock (s : State) : s.applyDue.clock = s.clock := by rw [State.applyDue_shape]
@[simp] theorem State.applyDue_now (s : State) : s.applyDue.now = s.now := by rw [State.applyDue_shape]
@[simp] theorem State.applyDue_power (s : State) : s.applyDue.power = s.power := by rw [State.applyDue_shape]
@[simp] theorem State.applyDue_tickets (s : State) : s.applyDue.tickets = s.tickets := by rw [State.applyDue_shape]
@[simp] theorem State.applyDue_accounts (s : State) : s.applyDue.accounts = s.accounts := by rw [State.applyDue_shape]
@[simp] theorem State.applyDue_pulse (s : State) : s.applyDue.pulse = s.pulse := by rw [State.applyDue_shape]
@[simp] theorem State.applyDue_closingOrder (s : State) : s.applyDue.closingOrder = s.closingOrder := by
  rw [State.applyDue_shape]
@[simp] theorem State.applyDue_pending (s : State) : s.applyDue.pending = s.pending := by rw [State.applyDue_shape]

/-! ### The lane bus (Section 9) -/

/-- Arbitration touches the lane bus (R167). -/
theorem State.arbitrate_shape (s : State) : s.arbitrate = { s with bus := s.arbitrate.bus } := by
  unfold State.arbitrate; split <;> rfl

/-- So does the end of a grant (R169 to R172). -/
theorem State.endGrant_shape (s : State) : s.endGrant = { s with bus := s.endGrant.bus } := by
  unfold State.endGrant; rw [State.arbitrate_shape]

/-! ### Starts (Section 11) -/

/-- A fault by restart touches its ticket and the office notices (R65). -/
theorem State.restartFault_shape (s : State) :
    s.restartFault = { s with tickets := s.restartFault.tickets, office := s.restartFault.office } := by
  unfold State.restartFault; split <;> rfl

/-- The end of a backup loss mark touches the clock, the mark and the office notices (R190). -/
theorem State.lossPhase_shape (s : State) :
    s.lossPhase = { s with clock := s.lossPhase.clock, lossMark := false, office := s.lossPhase.office } := by
  unfold State.lossPhase; split
  · rfl
  · rename_i h; simp only [Bool.not_eq_true] at h; rw [← h]

end Sys2Proof.Machine
end

