-- ==== Sys2Proof/Laws/Timers.lean ====
section
/-! SUPPORT. The timers of a paying job (R151, R152, R154, R156), said once: how many can still end, that each leaves fewer, and
what time does that passes up to an event at the dispenser's inputs. -/

set_option Elab.async false

namespace Sys2Proof.Machine

/-- The timers of the paying job that can still end before it waits for a command from outside. -/
def Dispenser.timersLeft (d : Dispenser) : Nat :=
  match d.job with
  | none => 0
  | some j =>
    match j.phase, j.work with
    | .coins, _ => 2
    | .runOn, _ => 1
    | .notes, some (.vend _ .gone) => if d.noteVend then 3 else 0
    | .notes, some (.vend _ _) => if d.noteVend then 2 else 1
    | .notes, some (.waitClear _) => 1
    | .notes, none => 0

theorem Dispenser.timersLeft_le (d : Dispenser) : d.timersLeft ≤ 3 := by
  unfold Dispenser.timersLeft; (repeat' split) <;> omega

theorem State.jobFault_job (j : JobProgress) (cause : FaultCause) (s : State) : (s.jobFault j cause).disp.job = none := by
  unfold State.jobFault; dsimp only; split <;> rfl

theorem State.jobComplete_job (j : JobProgress) (s : State) : (s.jobComplete j).disp.job = none := by
  unfold State.jobComplete; dsimp only; split
  · rw [State.settle_shape]; rfl
  · rfl

theorem Dispenser.timersLeft_idle {d : Dispenser} (h : d.job = none) : d.timersLeft = 0 := by
  unfold Dispenser.timersLeft; rw [h]

theorem State.startCoins_timersLeft (j : JobProgress) (s : State) : (s.startCoins j).disp.timersLeft ≤ 2 := by
  unfold State.startCoins; split
  · rw [Dispenser.timersLeft_idle (State.jobFault_job _ _ _)]; omega
  · simp [Dispenser.timersLeft]

theorem State.afterVend_timersLeft (j : JobProgress) (s : State) (hp : j.phase = .notes) :
    (s.afterVend j).disp.timersLeft ≤ 2 := by
  unfold State.afterVend; split
  · unfold State.startVend; split
    · rw [Dispenser.timersLeft_idle (State.jobFault_job _ _ _)]; omega
    · split <;> simp [Dispenser.timersLeft, State.driveVend, hp]
  · unfold State.endNotes; dsimp only; split
    · exact State.startCoins_timersLeft _ _
    · rw [Dispenser.timersLeft_idle (State.jobComplete_job _ _)]; omega

/-- A timer that ends leaves fewer to come. -/
theorem State.timerEnds_timersLeft {s : State} {j : JobProgress} {k : DispenserTimer} {m : Nat} (hj : s.disp.job = some j)
    (hk : j.timer s.disp = some (k, m)) : (s.timerEnds k m j).disp.timersLeft < s.disp.timersLeft := by
  rcases hp : j.phase with _ | _ | _
  · rcases hw : j.work with _ | ⟨since⟩ | ⟨start, exit⟩
    · simp [JobProgress.timer, hp, hw] at hk
    · simp [JobProgress.timer, hp, hw, NoteWork.limit] at hk
      obtain ⟨rfl, rfl⟩ := hk
      simp only [State.timerEnds, State.noteJams]
      rw [Dispenser.timersLeft_idle (State.jobFault_job _ _ _)]
      simp [Dispenser.timersLeft, hj, hp, hw]
    · cases hv : s.disp.noteVend
      · cases exit <;> simp [JobProgress.timer, hp, hw, NoteWork.limit, hv] at hk <;> obtain ⟨rfl, rfl⟩ := hk <;>
          simp only [State.timerEnds, State.noteJams] <;>
          rw [Dispenser.timersLeft_idle (State.jobFault_job _ _ _)] <;> simp [Dispenser.timersLeft, hj, hp, hw, hv]
      · simp [JobProgress.timer, hp, hw, hv] at hk
        obtain ⟨rfl, rfl⟩ := hk
        simp only [State.timerEnds, State.vendEnds, hw]
        cases exit
        · simp [Dispenser.timersLeft, hj, hp, hw, hv]
        · simp [Dispenser.timersLeft, hj, hp, hw, hv]
        · have h3 : s.disp.timersLeft = 3 := by simp [Dispenser.timersLeft, hj, hp, hw, hv]
          rw [h3, if_pos rfl]
          exact Nat.lt_of_le_of_lt (State.afterVend_timersLeft j _ hp) (by decide)
  · simp [JobProgress.timer, hp] at hk
    obtain ⟨rfl, rfl⟩ := hk
    simp [State.timerEnds, State.coinGapEnds, State.openRunOn, Dispenser.timersLeft, hj, hp]
  · simp [JobProgress.timer, hp] at hk
    obtain ⟨rfl, rfl⟩ := hk
    have h1 : s.disp.timersLeft = 1 := by simp [Dispenser.timersLeft, hj, hp]
    simp only [State.timerEnds, State.runOnEnds]
    split
    · rw [Dispenser.timersLeft_idle (State.jobComplete_job _ _), h1]; omega
    · rw [Dispenser.timersLeft_idle (State.jobFault_job _ _ _), h1]; omega

/-- With fuel for the timers that are left, more fuel changes nothing. -/
theorem State.dispenserTimers_enough {n : Nat} (t : Nat) {s : State} (h : s.disp.timersLeft ≤ n) (k : Nat) :
    State.dispenserTimers (n + k) t s = State.dispenserTimers n t s := by
  induction n generalizing s with
  | zero =>
    rcases k with _ | k
    · rfl
    · rw [Nat.zero_add, State.dispenserTimers, State.dispenserTimers]
      split
      · rfl
      · rename_i j hj
        split
        · rfl
        · rename_i k' m hk
          exact absurd (State.timerEnds_timersLeft hj hk) (by omega)
  | succ n ih =>
    rw [Nat.add_right_comm, State.dispenserTimers, State.dispenserTimers]
    split
    · rfl
    · rename_i j hj
      split
      · rfl
      · rename_i k' m hk
        split
        · exact ih (by have := State.timerEnds_timersLeft hj hk; simp only [State.sealed_disp]; omega)
        · rfl

/-- With no timer of the paying job ending before an event, time passes up to it and no more (R151, R152, R154, R156). -/
theorem State.dispenserElapse_quiet {after : Nat} {s : State}
    (h : ∀ j k m, s.disp.job = some j → j.timer s.disp = some (k, m) → s.now + after ≤ m) :
    s.dispenserElapse after = s.elapse after := by
  have e : State.dispenserTimers 3 (s.now + after) s = s := by
    unfold State.dispenserTimers
    split
    · rfl
    · rename_i j hj
      split
      · rfl
      · rename_i k m hk
        rw [if_neg (Nat.not_lt.mpr (h j k m hj hk))]
  unfold State.dispenserElapse
  rw [e, State.reach, Nat.add_sub_cancel_left]

/-- A timer that ends before an event takes effect first. -/
theorem State.dispenserTimers_passed {fuel t m : Nat} {s : State} {j : JobProgress} {k : DispenserTimer}
    (hj : s.disp.job = some j) (hk : j.timer s.disp = some (k, m)) (h : m < t) :
    State.dispenserTimers (fuel + 1) t s = State.dispenserTimers fuel t (s.timerEnds k m j).sealed := by
  rw [State.dispenserTimers]; simp only [hj, hk, h, if_true]

end Sys2Proof.Machine
end

