-- ==== Sys2Proof/Tests/Setup.lean ====
section
/-! SUPPORT. Small states the tests and the witnesses start from. The yard of these states follows the manual's worked
examples: account 17, classes 2 and 5 and ticket 212 of 4.9, 6.10 and 7.8. -/

set_option Elab.async false

namespace Sys2Proof.Tests

open Sys2Proof Sys2Proof.Machine

/-- What a command leaves, as far as a test looks at it. -/
def seen {α : Type} (o : Host.Outcome State Fault Refusal) (f : State → α) : Option α :=
  match o with
  | .next t => some (f t)
  | .fault _ => none
  | .refused _ => none

/-- The state a command leaves, for a test of two commands in a row. -/
def left (o : Host.Outcome State Fault Refusal) (s : State) : State :=
  match o with
  | .next t => t
  | .fault _ => s
  | .refused _ => s

def nine : Stamp := { day := 412, second := 32400, suspect := false }

def crate2 : ClassRecord :=
  { state := .active, kind := .crate, deposit := 150, foreign := 100, damage := 40, slots := 20, bottle := 8
    label := List.replicate 12 0x20 }

def keg5 : ClassRecord :=
  { state := .active, kind := .keg, deposit := 3000, foreign := 1500, damage := 20, slots := 0, bottle := 0
    label := List.replicate 12 0x20 }

def plain9 : ClassRecord :=
  { state := .retired, kind := .plain, deposit := 1200, foreign := 0, damage := 100, slots := 0, bottle := 0
    label := List.replicate 12 0x20 }

def line2 : Line := { cls := 2, good := 28, damaged := 5, foreignGood := 3, foreignDamaged := 0, bottles := 684, clamps := 1 }
def line5 : Line := { cls := 5, good := 5, damaged := 0, foreignGood := 0, foreignDamaged := 0, bottles := 0, clamps := 0 }

def customer17 : Account :=
  { state := .active, customer := 40215, outstanding := ((Vector.replicate 16 0).set 2 30).set 5 4, credit := 32
    saturated := false }

def customer88 : Account :=
  { state := .blocked, customer := 7, outstanding := (Vector.replicate 16 0).set 2 65530, credit := 4294967295
    saturated := false }

/-- An OPEN ticket with no lane and no line. -/
def plainTicket (n : Nat) (a : AccountId) : Ticket :=
  { number := n, account := a, state := .opened, attachments := [], holds := [], saturated := false, forced := false
    duplicates := 0, untagged := 0, unrecorded := 0, watchedTag := none, lines := [], closeDeadline := none, figures := none
    reservation := none, authorisation := none, progress := none, outcome := none, openedAt := nine, valuedAt := none
    settledAt := none, record := none }

/-- Ticket 212 as Table 6-6 has it: CLOSING on lane 2. -/
def ticket212 : Ticket :=
  { plainTicket 212 17 with
    state := .closing, attachments := [{ lane := 2, taken := 5 }], lines := [line2, line5], closeDeadline := some 120000 }

def ticket214 : Ticket :=
  { plainTicket 214 17 with
    attachments := [{ lane := 5, taken := 1 }, { lane := 8, taken := 40 }], lines := [{ line2 with good := 40, bottles := 800 }] }

/-- The valuation figures of Table 6-8. -/
def figures212 : Figures :=
  { lines := [{ goodIn := 28, damagedIn := 2, goodOver := 0, damagedOver := 3, value := 10332 },
      { goodIn := 4, damagedIn := 0, goodOver := 1, damagedOver := 0, value := 13500 }]
    total := 23832 }

def ticket230 : Ticket :=
  { plainTicket 230 17 with
    state := .valued, lines := [line2, line5], figures := some figures212, reservation := some [30, 4], valuedAt := some nine
    holds := [.duplicateTag, .forcedClose], forced := true }

/-- The walk-in plan of Table 7-2. -/
def plan240 : Authorisation := { means := .cash, credit := 0, cash := 1250, notes := 1, coins := 5, residue := 25 }

def ticket240 : Ticket :=
  { plainTicket 240 0 with
    state := .authorised, figures := some { lines := [], total := 1275 }, reservation := some [], valuedAt := some nine
    authorisation := some plan240 }

/-- The plan of ticket 212 in Table 7-2. -/
def plan250 : Authorisation := { means := .cash, credit := 0, cash := 23800, notes := 23, coins := 16, residue := 32 }

/-- A ticket at the fault of Table 7-6. -/
def ticket250 : Ticket :=
  { plainTicket 250 17 with
    state := .payFault, lines := [line2, line5], figures := some figures212, reservation := some [30, 4], valuedAt := some nine
    authorisation := some plan250
    progress := some { notesPaid := 23, coinsPaid := 10, retries := 0, fault := some .coinJam, converted := 0, manual := 0
                       overpay := 0 } }

def record180 : LogRecord :=
  { number := 180, account := 17, customer := 40215, outcome := .paid, suspect := false, forced := false, total := 1275
    credit := 0, converted := 0, residue := 25, cashPaid := 1250, manual := 0, overpay := 0, opened := nine, settled := nine
    valued := some nine, lines := [] }

/-- A part at work: both ports take the characters of a frame, the inputs have settled, five tickets stand in the table. -/
def yard : State :=
  State.sealed { State.reset with
    classes := (((Vector.replicate 16 ClassRecord.zero).set 2 crate2).set 5 keg5).set 9 plain9
    changes := [{ cls := 2, record := { crate2 with deposit := 200 }, day := 412, second := 43200 }]
    accounts := (State.reset.accounts.set 17 customer17).set 88 customer88
    residue := 25
    tickets := [ticket212, ticket214, ticket230, ticket240, ticket250]
    nextNumber := 251
    closingOrder := [212]
    tags := [{ tag := 7100422, ticket := 212, lane := 2, stamp := nine }]
    watch := [5500017]
    pulse := State.reset.pulse.set 2 { PulseLane.cold with enabled := true, cls := 2, mode := .full }
    queue := [{ ticket := 240, amount := 1250, notes := 1, coins := 5 }]
    log := [record180]
    disp := { Dispenser.cold with
      denoms := some (1000, 50), note := { state := .ready, stock := 60 }, coin := { state := .ready, stock := 120 }
      noteLow := 3, coinLow := 10 }
    office := { State.reset.office with receiver := .receiving }
    acctPort := { State.reset.acctPort with receiver := .receiving }
    clock := { day := 412, second := 32400, suspect := false, source := .crystal, sub := 0, anchor := 0 }
    power := .running true }

/-- The yard with the frame of a station in reception. -/
def inGrant (l : StationLane) (s : State) : State :=
  { s with bus := { s.bus with grant := some { lane := l, phase := .reception } } }

/-- The yard with ticket 240 PAYING: its job is taken and nothing is counted. -/
def job240 : JobProgress :=
  { ticket := 240, amount := 1250, plannedNotes := 1, plannedCoins := 5, phase := .notes, notes := 0, coins := 0, target := 0
    fault := none, work := some (.vend 0 .awaited), since := 0 }

def paying : State :=
  { yard with
    tickets := [ticket212, ticket214, ticket230,
      { ticket240 with
        state := .paying
        progress := some { notesPaid := 0, coinsPaid := 0, retries := 0, fault := none, converted := 0, manual := 0
                           overpay := 0 } }]
    queue := []
    disp := { yard.disp with note := { state := .running, stock := 60 }, job := some job240, noteVend := true } }

end Sys2Proof.Tests
end

