-- ==== Sys2Proof/Tests/Slice0.lean ====
section
/-! SUPPORT. Tests on fixed values: an ill-formed term for each check of `Instr.wf`, and single commands whose outcomes the
manual's worked examples, tables and rules give. -/

set_option Elab.async false

set_option synthInstance.maxSize 1000

namespace Sys2Proof.Tests

open Sys2Proof Sys2Proof.Machine

/-! ### Well-formedness: each check refuses an ill-formed term -/

/-- A request from the office whose bytes fit. -/
abbrev desk : Source := Port.office.sent
/-- A request from the accounts gateway whose bytes fit. -/
abbrev gate : Source := Port.accounts.sent

theorem test_wf_openTicket :
    ([.openTicket desk 17 [4, 256],
     .openTicket sentByStation 17 (List.replicate 19 0),
     .openTicket desk 17 (List.replicate 59 0)] : List Instr).all (fun i => !i.wf) = true := by decide +kernel

theorem test_wf_attachLane :
    ([.attachLane desk 65536 0,
     .attachLane desk 1 256] : List Instr).all (fun i => !i.wf) = true := by decide +kernel

theorem test_wf_detachLane :
    ([.detachLane desk 65536 0,
     .detachLane desk 1 256] : List Instr).all (fun i => !i.wf) = true := by decide +kernel

theorem test_wf_closeTicket :
    ([.closeTicket desk 65536] : List Instr).all (fun i => !i.wf) = true := by decide +kernel

theorem test_wf_reopen :
    ([.reopen desk 65536] : List Instr).all (fun i => !i.wf) = true := by decide +kernel

theorem test_wf_void :
    ([.void desk 65536] : List Instr).all (fun i => !i.wf) = true := by decide +kernel

theorem test_wf_release :
    ([.release desk 65536 [],
     .release desk 1 [256],
     .release desk 1 (List.replicate 58 0)] : List Instr).all (fun i => !i.wf) = true := by decide +kernel

theorem test_wf_setLimits :
    ([.setLimits desk 4294967296 120,
     .setLimits desk 1 65536] : List Instr).all (fun i => !i.wf) = true := by decide +kernel

theorem test_wf_readTicket :
    ([.readTicket desk 65536,
     .readTicket desk 0] : List Instr).all (fun i => !i.wf) = true := by decide +kernel

theorem test_wf_authorise :
    ([.authorise desk 65536 0 0,
     .authorise desk 1 256 0,
     .authorise desk 1 0 4294967296] : List Instr).all (fun i => !i.wf) = true := by decide +kernel

theorem test_wf_revoke :
    ([.revoke desk 65536] : List Instr).all (fun i => !i.wf) = true := by decide +kernel

theorem test_wf_resolve :
    ([.resolveRetry desk 65536,
     .resolveConvert desk 65536,
     .resolveManual desk 65536] : List Instr).all (fun i => !i.wf) = true := by decide +kernel

theorem test_wf_assignStrays :
    ([.assignStrays desk 256 1,
     .assignStrays desk 6 65536] : List Instr).all (fun i => !i.wf) = true := by decide +kernel

theorem test_wf_setClass :
    ([.setClass desk 256 1 0 0 0 0 0 0 (List.replicate 12 0x20) none,
     .setClass desk 0 256 0 0 0 0 0 0 (List.replicate 12 0x20) none,
     .setClass desk 0 1 256 0 0 0 0 0 (List.replicate 12 0x20) none,
     .setClass desk 0 1 0 16777216 0 0 0 0 (List.replicate 12 0x20) none,
     .setClass desk 0 1 0 0 16777216 0 0 0 (List.replicate 12 0x20) none,
     .setClass desk 0 1 0 0 0 256 0 0 (List.replicate 12 0x20) none,
     .setClass desk 0 1 0 0 0 0 256 0 (List.replicate 12 0x20) none,
     .setClass desk 0 1 0 0 0 0 0 65536 (List.replicate 12 0x20) none,
     .setClass desk 0 1 0 0 0 0 0 0 (List.replicate 11 0x20) none,
     .setClass desk 0 1 0 0 0 0 0 0 (List.replicate 12 0x20) (some (65536, 0)),
     .setClass desk 0 1 0 0 0 0 0 0 (List.replicate 12 0x20) (some (0, 16777216)),
     .setClass sentByStation 0 1 0 0 0 0 0 0 (List.replicate 12 0x20) none] : List Instr).all (fun i => !i.wf) = true := by decide +kernel

theorem test_wf_cancelChange :
    ([.cancelChange desk 256] : List Instr).all (fun i => !i.wf) = true := by decide +kernel

theorem test_wf_readClass :
    ([.readClass desk 256] : List Instr).all (fun i => !i.wf) = true := by decide +kernel

theorem test_wf_setLane :
    ([.setLaneStation desk 0 256 40,
     .setLaneStation desk 0 0 256,
     .setLanePulse desk 0 256 0 0 0 0 0,
     .setLanePulse desk 0 0 256 0 0 0 0,
     .setLanePulse desk 0 0 0 256 0 0 0,
     .setLanePulse desk 0 0 0 0 65536 0 0,
     .setLanePulse desk 0 0 0 0 0 256 0,
     .setLanePulse desk 0 0 0 0 0 0 256] : List Instr).all (fun i => !i.wf) = true := by decide +kernel

theorem test_wf_setDispenser :
    ([.setDispenser desk 16777216 0 0 0 0 0 0,
     .setDispenser desk 0 16777216 0 0 0 0 0,
     .setDispenser desk 0 0 65536 0 0 0 0,
     .setDispenser desk 0 0 0 65536 0 0 0,
     .setDispenser desk 0 0 0 0 65536 0 0,
     .setDispenser desk 0 0 0 0 0 65536 0,
     .setDispenser desk 0 0 0 0 0 0 65536] : List Instr).all (fun i => !i.wf) = true := by decide +kernel

theorem test_wf_channels :
    ([.refill desk 256 0,
     .refill desk 0 65536,
     .clearChannel desk 256] : List Instr).all (fun i => !i.wf) = true := by decide +kernel

theorem test_wf_watch :
    ([.watchAdd desk 4294967296,
     .watchRemove desk 4294967296] : List Instr).all (fun i => !i.wf) = true := by decide +kernel

theorem test_wf_setTime :
    ([.setTime desk 65536 0,
     .setTime desk 0 16777216] : List Instr).all (fun i => !i.wf) = true := by decide +kernel

theorem test_wf_accounts :
    ([.makeAccount gate 1 4294967296,
     .setAccountState gate 1 256,
     .setAccountState gate 1 0,
     .issue gate 1 256 1,
     .issue gate 1 0 65536,
     .adjust gate 1 256 0,
     .adjust gate 1 0 (-32769),
     .adjust gate 1 0 32768,
     .collect gate 1 4294967296,
     .clearResidue gate 4294967296,
     .takeLog gate 65536] : List Instr).all (fun i => !i.wf) = true := by decide +kernel

theorem test_wf_unknownRequest :
    ([.unknownRequest .office [0x4F, 0x50, 0x45],
     .unknownRequest .office [0x4F, 0x50, 0x45, 0x4E]] : List Instr).all (fun i => !i.wf) = true := by decide +kernel

theorem test_wf_arrive :
    ([.arrive sentByStation 256 0 0 1 0 none,
     .arrive sentByStation 0 256 0 1 0 none,
     .arrive sentByStation 0 0 256 1 0 none,
     .arrive sentByStation 0 0 0 256 0 none,
     .arrive sentByStation 0 0 0 1 65536 none,
     .arrive sentByStation 0 0 0 1 0 (some 4294967296)] : List Instr).all (fun i => !i.wf) = true := by decide +kernel

theorem test_wf_events :
    ([.closeWaitExpiry 65536,
     .crystalLoss 32768 0,
     .backupCrystalStop 32768] : List Instr).all (fun i => !i.wf) = true := by decide +kernel

/-! ### Section 1: the pending change list of 1.9 -/

/-- A record as Set Class carries it. -/
def sends (c : Nat) (st k d f g sl b : Nat) (eff : Option (Nat × Nat)) : Instr :=
  .setClass desk c st k d f g sl b (List.replicate 12 0x20) eff

/-- The yard of 1.9: classes 3, 9 and 11, nothing pending. -/
def schedule : State :=
  { yard with
    classes := (((Vector.replicate 16 ClassRecord.zero).set 3 { crate2 with deposit := 150 }).set 9
      { plain9 with state := .active }).set 11 { keg5 with deposit := 3000 }
    changes := [], tickets := [], pulse := State.reset.pulse }

def places (s : State) : List (ClassId × Nat × Nat) := s.changes.map fun e => (e.cls, e.day, e.second)

/-- The office port again takes the characters of a frame. -/
def nextFrame (s : State) : State := { s with office := { s.office with receiver := .receiving } }

/-- 1.9 at 09:05: a dated price change leaves the record and stands at place 1. -/
theorem test_setClass_dated :
    seen (exec (sends 3 1 0 200 100 40 20 8 (some (412, 43200))) schedule)
      (fun t => (places t, t.classes[3].deposit, t.resultOn .office)) = some ([(3, 412, 43200)], 150, some .ok) := by
  decide +kernel

/-- 1.9 at 09:30: a change brought forward takes its place by its new time. -/
theorem test_setClass_forward :
    seen (exec (sends 3 1 0 200 100 40 20 8 (some (412, 39600))) { schedule with changes :=
        [{ cls := 3, record := crate2, day := 412, second := 43200 }, { cls := 9, record := plain9, day := 412, second := 43200 },
         { cls := 11, record := ClassRecord.zero, day := 413, second := 0 }] }) places
      = some [(3, 412, 39600), (9, 412, 43200), (11, 413, 0)] := by decide +kernel

/-- R10, and 1.9 at midnight: a change that breaks the in-use rule is dropped with a notice. -/
theorem test_cancelChange : seen (exec (.cancelChange desk 2) yard) places = some [] := by decide +kernel

theorem test_clockAdvance_drops :
    seen (exec .clockAdvance { schedule with
        clock := { schedule.clock with second := 86399 }
        tickets := [{ plainTicket 64 17 with lines := [{ line5 with cls := 11, good := 1 }] }]
        changes := [{ cls := 11, record := ClassRecord.zero, day := 413, second := 0 }] })
      (fun t => (t.clock.day, t.clock.second, t.classes[11].deposit, places t, t.office.notices))
      = some (413, 0, 3000, [], [.changeDropped, .coldStart]) := by decide +kernel

/-- R14: Read Class shows the record, the in-use test and the pending entry with its place. -/
theorem test_readClass :
    seen (exec (.readClass desk 2) yard) (fun t => t.office.reply.map (·.body)) =
      some (some (.cls 2 crate2 true
        (some { record := { crate2 with deposit := 200 }, day := 412, second := 43200, place := 1 }))) := by decide +kernel

/-! ### Section 2: the accounts of 2.11 and 2.12 -/

/-- 2.11 at 07:40, from 26 crates outstanding. -/
theorem test_issue :
    seen (exec (.issue gate 17 2 4) { yard with accounts := yard.accounts.set 17 { customer17 with
          outstanding := (Vector.replicate 16 0).set 2 26 } })
      (fun t => (t.accounts[17].outstanding[2], t.accounts[17].saturated)) = some (30, false) := by decide +kernel

/-- 2.12: 65,530 crates and an Issue of 9. -/
theorem test_issue_saturates :
    seen (exec (.issue gate 88 2 9) yard) (fun t => (t.accounts[88].outstanding[2], t.accounts[88].saturated))
      = some (65535, true) := by decide +kernel

/-- 2.11 at 11:00: the count is clamped at 0. -/
theorem test_adjust_clamps :
    seen (exec (.adjust gate 17 9 (-1)) yard) (fun t => (t.accounts[17].outstanding[9], t.acctPort.reply.map (·.body)))
      = some (0, some (.float 9 0 false)) := by decide +kernel

/-- 2.12: an Adjust of 0 acknowledges, and clears the flag. -/
theorem test_adjust_acknowledges :
    seen (exec (.adjust gate 88 2 0) { yard with accounts := yard.accounts.set 88 { customer88 with
          outstanding := (Vector.replicate 16 0).set 2 65535, saturated := true } })
      (fun t => (t.accounts[88].outstanding[2], t.accounts[88].saturated)) = some (65535, false) := by decide +kernel

/-- 2.11 at 09:11, in both orders. -/
theorem test_collect :
    seen (exec (.collect gate 17 32) yard) (fun t => (t.accounts[17].credit, t.resultOn .accounts)) = some (0, some .ok) ∧
    seen (exec (.collect gate 17 33) yard) (fun t => t.acctPort.reply.map (·.body)) = some (some (.money 32)) := by
  decide +kernel

theorem test_makeAccount :
    seen (exec (.makeAccount gate 200 99) yard) (fun t => (t.accounts[200].state, t.accounts[200].customer))
      = some (.active, 99) := by decide +kernel

/-- R24: a deletion while the account is referred to is refused BUSY. -/
theorem test_deleteAccount_busy : seen (exec (.deleteAccount gate 17) yard) (·.resultOn .accounts) = some (some .busy) := by
  decide +kernel

theorem test_setAccountState :
    seen (exec (.setAccountState gate 17 2) yard) (fun t => t.accounts[17].state) = some .blocked := by decide +kernel

theorem test_readAccount :
    seen (exec (.readAccount gate 17) yard) (fun t => t.acctPort.reply.map (·.body))
      = some (some (.account 17 customer17 4)) := by decide +kernel

theorem test_residue :
    seen (exec (.readResidue gate) yard) (fun t => t.acctPort.reply.map (·.body)) = some (some (.money 25)) ∧
    seen (exec (.clearResidue gate 25) yard) (·.residue) = some 0 := by decide +kernel

/-! ### Section 3: tickets -/

/-- The table and the log of 3.15. -/
def wrap : State :=
  { yard with
    tickets := [{ ticket250 with number := 65535 }], log := [{ record180 with number := 1 }], nextNumber := 65534
    closingOrder := [], queue := [] }

/-- 3.15: the first Open takes 65,534, and the second passes over 65,535 and 1. -/
theorem test_openTicket_numbers :
    seen (exec (.openTicket desk 17 []) wrap) (fun t => (t.tickets.map (·.number), t.nextNumber)) = some ([65535, 65534], 65535) ∧
    seen (exec (.openTicket desk 17 []) { wrap with nextNumber := 65535 }) (fun t => (t.tickets.map (·.number), t.nextNumber))
      = some ([65535, 2], 3) := by decide +kernel

/-- Ticket 301 of 3.13. -/
def ticket301 : Ticket :=
  { plainTicket 301 17 with attachments := [{ lane := 1, taken := 14 }, { lane := 3, taken := 22 }, { lane := 7, taken := 61 }] }

def at1000 : State := { yard with tickets := [ticket301], closingOrder := [], now := 5 }

/-- 3.13 at 10:00:00. -/
theorem test_closeTicket :
    seen (exec (.closeTicket desk 301) at1000)
      (fun t => (t.tickets.map fun u => (u.state, u.attachments, u.closeDeadline), t.closingOrder))
      = some ([(.closing, [{ lane := 1, taken := 14 }, { lane := 3, taken := 22 }], some 120005)], [301]) := by decide +kernel

/-- 3.13 at 10:02:00. -/
theorem test_closeWaitExpiry :
    seen (exec (.closeWaitExpiry 301) (left (exec (.closeTicket desk 301) at1000) at1000))
      (fun t => (t.now, t.tickets.map fun u => (u.state, u.attachments, u.holds, u.forced), t.closingOrder, t.office.notices))
      = some (120005, [(.valued, [], [.forcedClose], true)], [], [.hold, .coldStart]) := by decide +kernel

theorem test_attachLane :
    seen (exec (.attachLane desk 212 0) yard) (fun t => (t.ticket? 212).map (·.attachments))
      = some (some [{ lane := 2, taken := 5 }, { lane := 0, taken := 0 }]) ∧
    seen (exec (.attachLane desk 212 6) yard) (·.resultOn .office) = some (some .wrongState) := by decide +kernel

/-- 6.10 and Table 6-9: the last station lane of ticket 212 leaves. -/
theorem test_detachLane_values :
    seen (exec (.detachLane desk 212 2) yard)
      (fun t => ((t.ticket? 212).map fun u => (u.state, u.figures, u.reservation, u.holds), t.accounts[17].outstanding[2],
        t.accounts[17].outstanding[5], t.office.reply.map (·.body)))
      = some (some (.valued, some figures212, some [30, 4], []), 0, 0, some (.detached 212 .valued 5)) := by decide +kernel

/-- R57, from the reservation of 6.10. -/
theorem test_reopen :
    seen (exec (.reopen desk 230) yard)
      (fun t => ((t.ticket? 230).map fun u => (u.state, u.figures, u.holds), t.accounts[17].outstanding[2],
        t.accounts[17].outstanding[5])) = some (some (.opened, none, [.duplicateTag]), 60, 8) := by decide +kernel

/-- R58, R83, R136: a voided OPEN ticket leaves raw counts in its record. -/
theorem test_void :
    seen (exec (.void desk 214) yard) (fun t => (t.ticket? 214, t.log.map fun r => (r.number, r.outcome, r.total),
        t.log.map fun r => r.lines.map fun l => (l.goodIn, l.goodOver, l.bottles, l.value)))
      = some (none, [(180, .paid, 1275), (214, .voided, 0)], [[], [(40, 0, 800, 0)]]) := by decide +kernel

theorem test_release :
    seen (exec (.release desk 230 [2]) yard) (fun t => (t.ticket? 230).map (·.holds)) = some (some [.duplicateTag]) := by
  decide +kernel

theorem test_setLimits :
    seen (exec (.setLimits desk 1000 600) yard) (fun t => (t.reviewThreshold, t.closeWait)) = some (1000, 600) := by
  decide +kernel

theorem test_readTicket_wait :
    seen (exec (.readTicket desk 212) { yard with now := 40001 }) (fun t => t.office.reply.map (·.body))
      = some (some (.ticket ticket212 (some 79))) := by decide +kernel

theorem test_readTicketTable :
    seen (exec (.readTicketTable desk) { yard with tickets := [ticket230] }) (fun t => t.office.reply.map (·.body))
      = some (some (.table [{ number := 230, account := 17, state := .valued, holds := [.duplicateTag, .forcedClose] }])) := by
  decide +kernel

/-! ### Section 4: arrivals of 4.9 -/

/-- Ticket 212 while it was OPEN, with the class 2 line as it stood at 08:23. -/
def filling : State :=
  inGrant 4 { yard with
    tickets := [{ plainTicket 212 17 with
      attachments := [{ lane := 4, taken := 2 }, { lane := 2, taken := 2 }]
      lines := [{ line2 with good := 20, damaged := 0, foreignGood := 0, bottles := 396, clamps := 0 }] }] }

/-- Table 4-5 at 08:27: clamped to its allowance. -/
theorem test_arrive_clamped :
    seen (exec (.arrive sentByStation 2 0 0 8 170 none) filling)
      (fun t => (t.tickets.map fun u => (u.lines, u.attachments.map (·.taken)), t.bus.grant))
      = some ([([{ line2 with good := 28, damaged := 0, foreignGood := 0, bottles := 556, clamps := 1 }], [3, 2])],
        some { lane := 4, phase := .reply (ReqName.arrv.reply .ok (.accepted 212 2 28 160 true)) }) := by decide +kernel

/-- Table 4-6 at 08:37: a second scan of a tag, answered with its entry. -/
theorem test_arrive_duplicate :
    seen (exec (.arrive sentByStation 5 0 0 1 0 (some 7100422)) (inGrant 2 yard))
      (fun t => ((t.ticket? 212).map fun u => (u.duplicates, u.holds, u.lines), t.bus.grant))
      = some (some (1, [], [line2, line5]), some { lane := 2, phase := .reply (ReqName.arrv.reply .duplicateTag
          (.duplicate 212 { tag := 7100422, ticket := 212, lane := 2, stamp := nine })) }) := by decide +kernel

theorem test_laneDone_values :
    seen (exec (.laneDone sentByStation) (inGrant 2 yard)) (fun t => ((t.ticket? 212).map (·.state), t.bus.grant))
      = some (some .valued, some { lane := 2, phase := .reply (ReqName.done.reply .ok (.laneDone 212 5)) }) := by decide +kernel

theorem test_laneQuery :
    seen (exec (.laneQuery sentByStation) (inGrant 2 { yard with now := 40000 })) (·.bus.grant)
      = some (some { lane := 2, phase := .reply (ReqName.qury.reply .ok
          (.query (some { number := 212, state := .closing, taken := 5, waitSeconds := some 80 }))) }) := by decide +kernel

theorem test_watch :
    seen (exec (.watchAdd desk 7) yard) (·.watch) = some [5500017, 7] ∧
    seen (exec (.watchRemove desk 5500017) yard) (·.watch) = some [] ∧
    seen (exec (.watchList desk) yard) (·.resultOn .office) = some (some .ok) := by decide +kernel

/-! ### Section 5: lane 8 of 5.9 -/

/-- Lane 8 after the edge counted at 1,005, with the beam clear again at 1,105. -/
def conveyor : State :=
  { yard with now := 1105, pulse := yard.pulse.set 2 { yard.pulse[2] with lastCounted := some 1005 } }

/-- Table 5-3 at 1,125: a bounce. -/
theorem test_peye_bounce :
    seen (exec (.peyeTransition 2 true 20) conveyor) (fun t => (t.pulse[2].bounces, (t.ticket? 214).map (·.lines)))
      = some (1, some [{ line2 with good := 40, bottles := 800 }]) := by decide +kernel

/-- Table 5-3 at 1,805: counted, with the bottles of one crate. -/
theorem test_peye_counted :
    seen (exec (.peyeTransition 2 true 700) conveyor)
      (fun t => ((t.ticket? 214).map fun u => (u.lines, u.attachments.map (·.taken)), t.pulse[2].lastCounted))
      = some (some ([{ line2 with good := 41, bottles := 820 }], [1, 41]), some 1805) := by decide +kernel

/-- Table 5-2: a level held under 5 ms is ignored. -/
theorem test_peye_filter :
    let blocked := left (exec (.peyeTransition 2 true 700) conveyor) conveyor
    exec (.peyeTransition 2 false 4) blocked = .next blocked ∧
    seen (exec (.peyeTransition 2 false 5) blocked) (fun t => t.pulse[2].blocked.level) = some false :=
  ⟨by rfl, by decide +kernel⟩

/-- 5.9: just after 10 s of a blocked beam. -/
theorem test_stall :
    seen (exec (.stall 2) { yard with now := 5005, pulse := yard.pulse.set 2 { yard.pulse[2] with
          blocked := .found true 5005, blockedSince := some 5005 } })
      (fun t => (t.now, t.pulse[2].stalled, t.office.notices)) = some (15006, true, [.stalled, .coldStart]) := by decide +kernel

/-- 5.9: two strays go into ticket 318, with the bottles of two crates. -/
theorem test_assignStrays :
    seen (exec (.assignStrays desk 8 214) { yard with pulse := yard.pulse.set 2 { yard.pulse[2] with strays := 2 } })
      (fun t => ((t.ticket? 214).map fun u => u.lines.map fun l => (l.good, l.bottles), t.pulse[2].strays))
      = some (some [(42, 840)], 0) := by decide +kernel

theorem test_setLanePulse :
    seen (exec (.setLanePulse desk 0 1 5 1 20 60 0) yard)
      (fun t => (t.pulse[0].enabled, t.pulse[0].cls, t.pulse[0].edge, t.pulse[0].spacing, t.pulse[0].stallTime, t.pulse[0].mode))
      = some (true, 5, .trailing, 20, 60, .full) ∧
    seen (exec (.setLanePulse desk 2 0 2 0 150 10 0) yard) (·.resultOn .office) = some (some .busy) := by decide +kernel

/-! ### Section 6: Tables 6-1, 6-8, 6-10 and 6.12 -/

/-- The third row of Table 6-1 and its note: three damaged items are 309 cents. -/
theorem test_reduced_values :
    (lineFigures { crate2 with deposit := 155, foreign := 120, damage := 33 } none
      { line2 with good := 0, damaged := 3, foreignGood := 0, foreignDamaged := 1, bottles := 0 }).value = 309 + 80 := by decide

theorem test_lineFigures_float :
    lineFigures crate2 (some 26) line2 = { goodIn := 26, damagedIn := 0, goodOver := 2, damagedOver := 5, value := 10172 } ∧
    (lineFigures crate2 (some 0) { line2 with good := 6, damaged := 0, foreignGood := 0, bottles := 120 }).value = 1560 := by
  decide

/-- 6.12: the largest line. -/
theorem test_largest_line :
    (lineFigures { crate2 with deposit := 99999, foreign := 99999, damage := 0, slots := 24, bottle := 999 } none
      { cls := 14, good := 9999, damaged := 9999, foreignGood := 9999, foreignDamaged := 9999, bottles := 959904
        clamps := 0 }).value = 4958504100 := by decide

/-! ### Section 7: Table 7-2, 7.8 and 7.9 -/

theorem test_plan :
    [plan .cash 23832 0 1000 50, plan .cash 1275 0 1000 50, plan .split 23832 5000 1000 50, plan .split 23832 5030 1000 50,
      plan .cash 40 0 1000 50, plan .credit 23832 0 1000 50] =
    [{ means := .cash, credit := 0, cash := 23800, notes := 23, coins := 16, residue := 32 },
      { means := .cash, credit := 0, cash := 1250, notes := 1, coins := 5, residue := 25 },
      { means := .split, credit := 18832, cash := 5000, notes := 5, coins := 0, residue := 0 },
      { means := .split, credit := 18802, cash := 5000, notes := 5, coins := 0, residue := 30 },
      { means := .cash, credit := 0, cash := 0, notes := 0, coins := 0, residue := 40 },
      { means := .credit, credit := 23832, cash := 0, notes := 0, coins := 0, residue := 0 }] := by decide

/-- 7.8 at 09:10, with a free ticket of no holds: 32 cents post to the account. -/
theorem test_authorise :
    seen (exec (.authorise desk 230 1 0) { yard with tickets := [{ ticket230 with holds := [] }], queue := [] })
      (fun t => (t.tickets.map (·.state), t.accounts[17].credit, t.queue, t.office.reply.map (·.body)))
      = some ([.authorised], 64, [{ ticket := 230, amount := 23800, notes := 23, coins := 16 }],
        some (.authorised 230 .authorised 0 23800 23 16 32 (some 1))) := by decide +kernel

theorem test_revoke :
    seen (exec (.revoke desk 240) yard) (fun t => ((t.ticket? 240).map fun u => (u.state, u.authorisation), t.queue))
      = some (some (.valued, none), []) := by decide +kernel

/-- 7.8 at 09:14: the remainder of 300 cents is 6 coins. -/
theorem test_resolveRetry :
    seen (exec (.resolveRetry desk 250) { yard with tickets := [ticket250], queue := [] })
      (fun t => (t.queue, t.office.reply.map (·.body)))
      = some ([{ ticket := 250, amount := 300, notes := 0, coins := 6 }],
        some (.resolved 250 .authorised 23500 300 (some (0, 6, 1)))) := by decide +kernel

/-- 7.8, had the office chosen CONVERT: the record adds up to 23,832. -/
theorem test_resolveConvert :
    seen (exec (.resolveConvert desk 250) { yard with log := [] })
      (fun t => (t.accounts[17].credit, t.log.map fun r => (r.converted, r.cashPaid, r.residue, r.overpay, r.total)))
      = some (332, [(300, 23500, 32, 0, 23832)]) := by decide +kernel

theorem test_resolveManual :
    seen (exec (.resolveManual desk 250) { yard with log := [] })
      (fun t => t.log.map fun r => (r.manual, r.cashPaid, r.total)) = some [(300, 23500, 23832)] := by decide +kernel

theorem test_peekLog :
    seen (exec (.peekLog gate) yard) (fun t => t.acctPort.reply.map (·.body)) = some (some (.peek (some record180) 1 0)) := by
  decide +kernel

/-- 7.9 at 16:30 in small: the record of a waiting ticket joins as the oldest is taken. -/
theorem test_takeLog :
    seen (exec (.takeLog gate 180) { yard with
        tickets := [{ plainTicket 241 17 with state := .settled, record := some { record180 with number := 241 } }]
        waiting := [241] }) (fun t => (t.log.map (·.number), t.waiting, t.tickets, t.acctPort.notices))
      = some ([241], [], [], [.logReady, .coldStart]) ∧
    seen (exec (.takeLog gate 181) yard) (fun t => t.acctPort.reply.map (·.body)) = some (some (.oldest (some 180))) := by
  decide +kernel

/-! ### Section 8: the counter of 8.11 -/

/-- Job 261 after the plan of 8.11: two notes, the first vend's exit passing since 200. -/
def job261 : JobProgress :=
  { ticket := 240, amount := 2000, plannedNotes := 2, plannedCoins := 0, phase := .notes, notes := 0, coins := 0, target := 0
    fault := none, work := some (.vend 100 (.passing 200)), since := 0 }

def vending : State :=
  { paying with
    now := 200
    tickets := paying.tickets.map fun t =>
      if t.number = 240 then { t with authorisation := some { plan240 with cash := 2000, notes := 2, coins := 0 } } else t
    disp := { paying.disp with note := { state := .running, stock := 5 }, job := some job261, noteVend := false, noteExit := .found true 202 } }

/-- Job 261: a pulse of 95 ms counts two notes, places STOCK_LOW and ends the job. -/
theorem test_noteExitEnd_double :
    seen (exec (.noteExitEnd { note := false, coin := false } 95) vending)
      (fun t => (t.disp.note, t.disp.job, t.ticket? 240, t.office.notices.contains .stockLow))
      = some ({ state := .ready, stock := 3 }, none, none, true) := by decide +kernel

theorem test_jobTake :
    seen (exec (.jobTake { note := false, coin := false }) { yard with tickets := [ticket240] })
      (fun t => (t.disp.noteVend, t.disp.note.state, t.disp.job.map (·.work), t.tickets.map (·.state), t.queue))
      = some (true, .running, some (some (.vend 0 .awaited)), [.paying], []) := by decide +kernel

/-- R151: the vend pulse lasts W, here 100 ms. -/
theorem test_noteVendEnd :
    seen (exec (.noteVendEnd { note := false, coin := false }) paying) (fun t => (t.now, t.disp.noteVend)) = some (100, false) := by
  decide +kernel

theorem test_noteExitStart :
    seen (exec (.noteExitStart 3101) paying) (fun t => (t.disp.noteExit.level, t.disp.job.isSome, t.disp.note.state))
      = some (true, false, .fault) ∧
    seen (exec (.noteExitStart 38) paying) (fun t => (t.disp.noteExit.level, t.disp.job.map (·.work)))
      = some (true, some (some (.vend 0 (.passing 38)))) := by decide +kernel

/-- R152: no exit pulse in 3,000 ms. -/
theorem test_noteJamTimeout :
    seen (exec .noteJamTimeout paying) (fun t => (t.now, t.disp.note.state, t.disp.job, (t.ticket? 240).map fun u =>
        (u.state, u.progress.bind (·.fault)))) = some (3001, .fault, none, some (.payFault, some .noteJam)) := by decide +kernel

/-- The coin phase of job 260: the target is 9. -/
def coining (coins : Nat) : State :=
  { paying with disp := { paying.disp with
      note := { state := .ready, stock := 5 }, noteVend := false, coin := { state := .running, stock := 40 }, coinRun := true
      job := some { job240 with phase := .coins, notes := 1, coins := coins, target := 9, work := none } } }

/-- 8.11: the ninth coin switches the motor off and opens the window. -/
theorem test_coinExitStart :
    seen (exec (.coinExitStart 50) (coining 8)) (fun t => (t.disp.coinRun, t.disp.coin.stock, t.disp.job.map fun j =>
        (j.phase, j.coins, j.since))) = some (false, 39, some (.runOn, 9, 50)) := by decide +kernel

theorem test_coinGapTimeout :
    seen (exec .coinGapTimeout (coining 3)) (fun t => (t.now, t.disp.coinRun, t.disp.job.map fun j => (j.phase, j.fault)))
      = some (3001, false, some (.runOn, some .coinJam)) := by decide +kernel

/-- R154 to R156: a coin 3,301 ms after the last finds the run-on window of the jam open, and one at 3,302 ms is a stray. -/
theorem test_coinExitStart_late :
    seen (exec (.coinExitStart 3301) (coining 8)) (fun t => t.disp.job.map fun j => (j.phase, j.coins, j.fault))
      = some (some (.runOn, 9, some .coinJam)) ∧
    seen (exec (.coinExitStart 3302) (coining 8)) (fun t => (t.disp.job, t.office.notices.contains .dispenserStray))
      = some (none, true) := by decide +kernel

/-- Table 8-1: NOTE_EMPTY and COIN_EMPTY change 20 ms after a change at the earliest, and COIN_EXIT clears between two coins. -/
theorem test_filters :
    (FilteredInput.found false 0).read 20 true 5 = { level := true, next := 20 } ∧
    (({ level := true, next := 20 } : FilteredInput).read 20 false 19).level = true ∧
    (({ level := true, next := 20 } : FilteredInput).read 20 false 20).level = false ∧
    (let first := left (exec (.coinExitStart 50) (coining 3)) (coining 3)
     exec (.coinExitStart 3) first = .next first ∧
      seen (exec (.coinExitStart 4) first) (fun t => t.disp.job.map (·.coins)) = some (some 5)) :=
  ⟨by decide, by decide, by decide, by rfl, by decide +kernel⟩

theorem test_coinEmptyAsserted :
    seen (exec (.coinEmptyAsserted 7) (coining 3)) (fun t => (t.disp.coinRun, t.disp.job.map fun j => (j.phase, j.fault)))
      = some (false, some (.runOn, some .coinEmpty)) := by decide +kernel

/-- R156: the window ends 300 ms after the motor, and the job completes with what was counted beyond its cash. -/
theorem test_runOnEnd :
    seen (exec .runOnEnd { coining 10 with disp := { (coining 10).disp with
        coinRun := false, job := some { job240 with phase := .runOn, notes := 1, coins := 10, target := 9, work := none } } })
      (fun t => (t.now, t.disp.coin.state, t.disp.job, t.ticket? 240)) = some (300, .ready, none, none) := by decide +kernel

theorem test_setDispenser :
    seen (exec (.setDispenser desk 1000 50 100 3000 60 3 10) { yard with queue := [], tickets := [] })
      (fun t => (t.disp.denoms, t.resultOn .office)) = some (some (1000, 50), some .ok) ∧
    seen (exec (.setDispenser desk 1000 50 100 3000 60 3 10) yard) (·.resultOn .office) = some (some .busy) := by decide +kernel

theorem test_refill :
    seen (exec (.refill desk 1 0) yard) (fun t => t.disp.coin) = some { state := .empty, stock := 0 } := by decide +kernel

theorem test_clearChannel :
    seen (exec (.clearChannel desk 0) { yard with disp := { yard.disp with note := { state := .fault, stock := 9 } } })
      (fun t => t.disp.note) = some { state := .ready, stock := 9 } := by decide +kernel

/-! ### Section 9: Table 9-3 and 9.11 -/

/-- A bus with the priorities of Table 9-3, the lanes named requesting and the lanes named marked. -/
def busOf (requests marks : List StationLane) : LaneBus :=
  { yard.bus with lanes := Vector.ofFn fun l : StationLane => { StationRecord.cold with
      priority := if l ∈ [0, 2, 5] then 1 else 0, low := .found (requests.contains l) 0, lastGranted := marks.contains l } }

/-- The five rows of Table 9-3. -/
theorem test_arbitration :
    [(busOf [1, 3] [1]).winner, (busOf [1, 3] [3]).winner, (busOf [0, 1, 5] [5]).winner, (busOf [0, 2, 5] [0]).winner,
      (busOf [4] []).winner] = [some 3, some 1, some 0, some 2, some 4] := by decide +kernel

/-- 9.11, grant 3: the third miss makes lane 1 SILENT and the next grant goes to lane 0. -/
theorem test_grantMiss_silent :
    seen (exec .grantMiss { yard with bus := { yard.bus with
        grant := some { lane := 1, phase := .window 0 40 }
        lanes := Vector.ofFn fun l : StationLane => { StationRecord.cold with
          priority := if l = 1 then 2 else 0, low := .found ([0, 1, 4].contains l) 0, misses := if l = 1 then 2 else 0
          lastGranted := l == 1 } } })
      (fun t => (t.bus.lanes[1].misses, t.bus.lanes[1].state, t.bus.lanes[1].lastGranted, t.bus.grant.map (·.lane),
        t.bus.lanes[0].lastGranted, t.office.notices))
      = some (3, .silent, true, some 0, true, [.laneSilent, .coldStart]) := by decide +kernel

theorem test_lreqChange_grants :
    seen (exec (.lreqChange 3 true 10) yard) (fun t => (t.bus.grant, t.bus.lbusDe))
      = some (some { lane := 3, phase := .window 10 40 }, true) ∧
    seen (exec (.lreqChange 4 true 1) (left (exec (.lreqChange 3 true 10) yard) yard)) (fun t => (t.bus.grant, t.bus.lbusDe))
      = some (some { lane := 3, phase := .window 10 40 }, false) := by decide +kernel

theorem test_frameStart :
    seen (exec (.frameStart 40) { yard with bus := { yard.bus with grant := some { lane := 3, phase := .window 0 40 } } })
      (·.bus.grant) = some (some { lane := 3, phase := .reception }) := by decide +kernel

theorem test_laneErrors :
    seen (exec (.laneFrameError .check 5) (inGrant 2 yard)) (fun t => (t.bus.lanes[2].lineErrors, t.bus.grant)) = some (1, none) ∧
    seen (exec (.laneFrameError .overrun 5) (inGrant 2 yard)) (fun t => (t.bus.lanes[2].lineErrors, t.bus.buffer)) = some (1, none) ∧
    seen (exec (.laneCharTimeout 10) (inGrant 2 yard)) (fun t => t.bus.lanes[2].lineErrors) = some 1 := by decide +kernel

/-- R163: a character that finds the one before it in the buffer is an overrun, and one before the frame start that is taken
leaves the window open. -/
theorem test_hearLane_overrun :
    hearLane 2 yard.bus [] [((frameStartChar 2).bits, true), (({ marked := false, data := 0x04 } : LaneChar).bits, false)]
      = .damaged .overrun ∧
    hearLane 2 yard.bus [] [(({ marked := false, data := 0x04 } : LaneChar).bits, true), ((frameStartChar 2).bits, true)]
      = .more [0x12] ∧
    hearLane 2 yard.bus [] [((frameStartChar 3).bits, true)] = .damaged .wrongAddress := by decide +kernel

theorem test_laneReplyEnd :
    seen (exec (.laneReplyEnd 5) (left (exec (.laneQuery sentByStation) (inGrant 2 yard)) yard))
      (fun t => (t.bus.grant, t.bus.lbusDe)) = some (none, false) := by decide +kernel

theorem test_setLaneStation :
    seen (exec (.setLaneStation desk 1 3 200) yard) (fun t => (t.bus.lanes[1].priority, t.bus.window)) = some (3, 200) := by
  decide +kernel

/-! ### Section 10: Table 10-5 -/

/-- The office port in each row of Table 10-5 that moves it. -/
theorem test_port_minute :
    seen (exec (.requestFrameStart .office 1) { yard with office := { yard.office with receiver := .hunt } })
      (fun t => t.office.receiver) = some .receiving ∧
    seen (exec (.portLineError .office .parity 1) yard) (fun t => (t.office.receiver, t.office.lineErrors)) = some (.recover, 1) ∧
    seen (exec (.portIdleRecover .office 20) { yard with office := { yard.office with receiver := .recover } })
      (fun t => t.office.receiver) = some .hunt ∧
    seen (exec (.portGapTimeout .office 50) yard) (fun t => (t.office.receiver, t.office.lineErrors)) = some (.hunt, 1) := by
  decide +kernel

/-- Table 10-5 at 10:00:04: a frame sent into a reply is lost as an overrun, and the port recovers after the reply. -/
theorem test_port_overrun :
    let held := left (exec (.readTicket desk 214) yard) yard
    let late := left (exec (.portOverrun .office 1) held) held
    (held.office.receiver, late.office.receiver, late.office.overrunMarked, late.office.overruns) = (.held, .held, true, 1) ∧
    seen (exec (.portReplyEnd .office 29) late) (fun t => t.office.receiver) = some .recover := by decide +kernel

theorem test_readNotices :
    seen (exec (.readNotices desk) yard) (fun t => (t.office.notices, t.office.attention, t.acctPort.notices))
      = some ([], false, [.coldStart]) := by decide +kernel

theorem test_readStatus : seen (exec (.readStatus gate) yard) (·.resultOn .accounts) = some (some .ok) := by decide +kernel

theorem test_unknownRequest :
    seen (exec (.unknownRequest .accounts [0x58, 0x58, 0x58, 0x58]) yard) (fun t => t.acctPort.reply)
      = some (some { name := [0x58, 0x58, 0x58, 0x58], result := .unknownRequest, body := .none }) := by decide +kernel

/-! ### Section 11: 11.7 -/

theorem test_crystal :
    seen (exec (.crystalLoss 100 4) yard) (fun t => (t.clock.source, t.clock.suspect, t.office.notices))
      = some (.reference, true, [.clockSuspect, .coldStart]) ∧
    seen (exec (.crystalReturn 100) (left (exec (.crystalLoss 100 4) yard) yard))
      (fun t => (t.clock.source, t.clock.suspect, t.clock.sub)) = some (.crystal, true, 100 * 1000 + 100 * 32768) := by decide +kernel

/-- 11.7 at 22:15: Set Time in source CRYSTAL clears the suspect flag. -/
theorem test_setTime :
    seen (exec (.setTime desk 611 80091) { yard with clock := { yard.clock with suspect := true } })
      (fun t => (t.clock.day, t.clock.second, t.clock.suspect, t.classes[2].deposit)) = some (611, 80091, false, 200) := by
  decide +kernel

/-- R192, R190: a stop, the crystal and the backup supply after it. -/
theorem test_stop :
    let stopped := left (exec (.powerStop .supplyFell) paying) paying
    (stopped.power, stopped.disp.noteVend, stopped.office.attention) = (.backup true, false, false) ∧
    seen (exec (.backupCrystalStop 5) stopped) (fun t => (t.power, t.lossMark)) = some (.backup false, true) ∧
    seen (exec .backupLow stopped) (·.marker) = some .invalid := by decide +kernel

/-- R64, R65, R193: a warm start values the CLOSING ticket and fails the PAYING one. -/
theorem test_warmStart :
    let stopped := (paying.halt .resetLow).sealed
    seen (exec (.warmStart { strap := .opened, intact := true } none) stopped)
      (fun t => (t.tickets.map (·.state), t.closingOrder, t.office.notices, t.power))
      = some ([.valued, .opened, .valued, .payFault], [], [.hold, .payFault, .warmStart], .running false) := by
  intro stopped
  show seen (execWarmStart _ none stopped) _ = _
  rw [execWarmStart_taken rfl ((State.startsWarm_iff _ _).2 ⟨rfl, rfl, rfl, rfl⟩)]
  decide +kernel

theorem test_coldStart :
    seen (exec (.coldStart { strap := .grounded, intact := true } none) { yard with power := .resetHeld })
      (fun t => (t.tickets, t.log, t.office.notices, t.classes[2].state)) = some ([], [], [.coldStart], .unused) := by
  decide +kernel

theorem test_inputsSettled :
    seen (exec (.inputsSettled
        { lreqLow := (Vector.replicate 6 false).set 4 true, blocked := Vector.replicate 4 true, noteExit := false
          coinExit := false, noteEmpty := true, coinEmpty := false } 5) { yard with power := .running false })
      (fun t => (t.power, t.bus.grant.map (·.lane), t.pulse[2].blockedSince, t.pulse[0].blockedSince, t.disp.noteEmpty.level))
      = some (.running true, some 4, some 5, none, true) := by decide +kernel

/-! ### Section 12 -/

/-- R194's example: the bytes of a Lane Query from lane 3, check byte included. -/
theorem test_laneQuery_frame :
    (encodeStation 3 (.laneQuery sentByStation)).map (fun cs => cs.map (·.data))
      = some [0x13, 0x04, 0x51, 0x55, 0x52, 0x59, 0x98] := by decide +kernel

theorem test_decodeStation :
    decodeStation 3 ({ marked := true, data := 0x13 } ::
      ([0x04, 0x51, 0x55, 0x52, 0x59, 0x98].map fun b => { marked := false, data := b })) = some (.laneQuery sentByStation) := by
  decide +kernel

/-- R194, R195: Adjust of account 17, class 5, minus one, and its bytes read back. -/
theorem test_adjust_frame :
    encodeTerminal (.adjust gate 17 5 (-1))
      = some [0x5A, 0x08, 0x41, 0x44, 0x4A, 0x54, 0x11, 0x05, 0xFF, 0xFF, 0x67] ∧
    decodeTerminal .accounts [0x5A, 0x08, 0x41, 0x44, 0x4A, 0x54, 0x11, 0x05, 0xFF, 0xFF, 0x67]
      = some (.adjust gate 17 5 (-1)) := by decide +kernel

/-- A frame one of whose bytes is another is discarded. -/
theorem test_decodeTerminal_check :
    decodeTerminal .accounts [0x5A, 0x08, 0x41, 0x44, 0x4A, 0x54, 0x11, 0x05, 0xFF, 0xFE, 0x67] = none := by decide +kernel

/-- R196: the record of 7.8 has 57 bytes and 21 for each of its two lines. -/
theorem test_recordBytes : (recordBytes { record180 with lines := List.replicate 2 {
      cls := 2, goodIn := 28, damagedIn := 2, goodOver := 0, damagedOver := 3, foreignGood := 3, foreignDamaged := 0
      bottles := 684, value := 10332 } }).length = 99 := by decide +kernel

/-! ### The queue -/

theorem test_step_runs_front : seen (step { yard with pending := [.closeTicket desk 214, .void desk 230] })
    (fun t => (t.pending, (t.ticket? 214).map (·.state))) = some ([.void desk 230], some .closing) := by decide +kernel

theorem test_step_idles : seen (step yard) (·.now) = some 1 := by decide +kernel

end Sys2Proof.Tests
end

