-- ==== Sys2Proof/Tests/Witnesses.lean ====
section
/-! SUPPORT. For each statement with hypotheses, concrete states and operands that meet them together, one line for each of
its clauses, at the boundary values of its ranges. -/

set_option synthInstance.maxSize 4000
set_option Elab.async false

namespace Sys2Proof.Tests

open Sys2Proof Sys2Proof.Machine

/-! ### The invariants hold in the yard -/

theorem yard_ports : PortsInv yard := by
  
  have named : ∀ n ∈ ([.coldStart] : List Notice), n.namedFor .office ∧ n.namedFor .accounts := by
    unfold Notice.namedFor; decide
  exact ⟨⟨by decide +kernel, fun n h => (named n h).1, by decide +kernel, by decide +kernel, by decide +kernel,
      by decide +kernel, by decide +kernel⟩,
    ⟨by decide +kernel, fun n h => (named n h).2, by decide +kernel, by decide +kernel, by decide +kernel,
      by decide +kernel, by decide +kernel⟩⟩

theorem yard_schedule : ScheduleInv yard where
  classes := by
    have h : ∀ c : ClassId, yard.classes[c] = crate2 ∨ yard.classes[c] = keg5 ∨ yard.classes[c] = plain9 ∨
        yard.classes[c] = ClassRecord.zero := by decide +kernel
    intro c
    rcases h c with h | h | h | h <;> rw [h] <;> constructor <;> decide +kernel
  changes := by
    intro e he
    have : e = { cls := 2, record := { crate2 with deposit := 200 }, day := 412, second := 43200 } := by
      simpa [yard] using he
    subst this
    refine ⟨?_, by decide⟩
    constructor <;> decide +kernel
  onePerClass := by decide +kernel
  inOrder := by exact List.pairwise_singleton _ _

theorem yard_accounts : AccountsInv yard where
  counts := by
    have h : yard.accounts.toList.all (fun a => a.outstanding.toList.all fun n => decide (n ≤ 65535)) = true := by
      decide +kernel
    intro a c
    simp only [List.all_eq_true, decide_eq_true_eq] at h
    exact h yard.accounts[a] (by simp) yard.accounts[a].outstanding[c] (by simp)
  credit := by decide +kernel
  customer := by decide +kernel
  walkIn := by decide +kernel
  unused := by intro _; decide +kernel
  named := by intro _; decide +kernel

theorem yard_tally : TallyInv yard := by
  have ok2 : line2.Ok := by constructor <;> decide
  have ok5 : line5.Ok := by constructor <;> decide
  have ok3 : ({ line2 with good := 40, bottles := 800 } : Line).Ok := by constructor <;> decide
  intro t ht
  have : t = ticket212 ∨ t = ticket214 ∨ t = ticket230 ∨ t = ticket240 ∨ t = ticket250 := by simpa [yard] using ht
  have hl : ∀ l ∈ t.lines, l.Ok := by
    rcases this with rfl | rfl | rfl | rfl | rfl <;>
      simp only [ticket212, ticket214, ticket230, ticket240, ticket250, plainTicket, List.forall_mem_cons, List.not_mem_nil,
        false_implies, implies_true, and_true, ok2, ok5, ok3]
  rcases this with rfl | rfl | rfl | rfl | rfl <;> refine ⟨hl, ?_, ?_, ?_, ?_, ?_, ?_, ?_, ?_⟩ <;> decide +kernel

theorem yard_limits : LimitsInv yard := by constructor <;> decide +kernel

theorem yard_numbers : NumbersInv yard where
  distinct := by decide +kernel
  inRange := by decide +kernel
  next := by decide +kernel
  room := by decide +kernel
  records := by
    have h : ∀ t ∈ yard.tickets, t.record = none := by decide +kernel
    intro t ht r hr; rw [h t ht] at hr; cases hr

theorem yard_flow : FlowInv yard := by
  have mem : ∀ (p : Ticket → Bool) (n : Nat), (∃ t ∈ yard.tickets, t.number = n ∧ p t = true) ↔
      n ∈ (yard.tickets.filter p).map (·.number) := by
    intro p n; simp only [List.mem_map, List.mem_filter]
    exact ⟨fun ⟨t, h, k, l⟩ => ⟨t, ⟨h, l⟩, k⟩, fun ⟨t, ⟨h, l⟩, k⟩ => ⟨t, h, k, l⟩⟩
  refine
    { numbers := by decide +kernel
      attach := fun t ht => ⟨?_, ?_, ?_⟩
      oneTicketPerLane := by decide +kernel
      closing := ⟨by decide +kernel, fun n => ?_⟩
      jobs := ⟨by decide +kernel, fun n => ?_⟩
      amounts := by decide +kernel
      paying := by intro j hj; cases hj
      onePaying := by decide +kernel
      waiting := ⟨by decide +kernel, fun n => ?_⟩
      records := by decide +kernel
      notFree := by decide +kernel }
  · revert t; decide +kernel
  · revert t; decide +kernel
  · revert t; decide +kernel
  · have := mem (fun t => t.state == .closing) n
    simp only [beq_iff_eq] at this
    rw [this, show (yard.tickets.filter fun t => t.state == .closing).map (·.number) = [212] by decide +kernel]
    rfl
  · have := mem (fun t => t.state == .authorised) n
    simp only [beq_iff_eq] at this
    rw [this, show (yard.tickets.filter fun t => t.state == .authorised).map (·.number) = [240] by decide +kernel]
    simp [yard, eq_comm]
  · have := mem (fun t => t.state == .settled) n
    simp only [beq_iff_eq] at this
    rw [this, show (yard.tickets.filter fun t => t.state == .settled).map (·.number) = [] by decide +kernel]
    simp [yard, State.reset, State.coldContent]

theorem yard_pulse : PulseInv yard where
  lanes := by
    have h : ∀ i : PulseIx, yard.pulse[i] = PulseLane.cold ∨
        yard.pulse[i] = { PulseLane.cold with enabled := true, cls := 2, mode := .full } := by decide +kernel
    intro i
    rcases h i with h | h <;> rw [h] <;> constructor <;> decide +kernel
  bound := by intro _; decide +kernel

theorem yard_dispenser : DispenserInv yard where
  denoms := by intro un uc h; cases h; decide
  vendPulse := by decide +kernel
  jamTime := by decide +kernel
  doublePick := by decide +kernel
  lows := by decide +kernel
  stocks := by decide +kernel
  noteRest := by decide +kernel
  coinRest := by decide +kernel
  noteRuns := by decide +kernel
  coinRuns := by decide +kernel
  coinMotor := by decide +kernel
  found := by decide +kernel
  vend := by intro h; exact absurd h (by decide +kernel)

theorem yard_bus : LaneBusInv yard where
  lanes := by
    have h : ∀ l : StationLane, yard.bus.lanes[l] = StationRecord.cold := by decide +kernel
    intro l; rw [h l]; constructor <;> decide
  window := by decide +kernel
  oneMark := by decide +kernel
  granted := by intro g hg; cases hg
  driver := by
    constructor
    · intro h; exact absurd h (by decide +kernel)
    · rintro ⟨-, ⟨l, r, h⟩ | ⟨l, n, h⟩⟩ <;> cases h
  opened := by intro l since n h; cases h
  buffer := rfl

theorem yard_money : MoneyInv yard where
  tickets := by
    intro t ht
    have : t = ticket212 ∨ t = ticket214 ∨ t = ticket230 ∨ t = ticket240 ∨ t = ticket250 := by simpa [yard] using ht
    rcases this with rfl | rfl | rfl | rfl | rfl
    · exact ⟨by decide +kernel, fun h => absurd h (by unfold Ticket.cashOpen; decide +kernel),
        fun h => absurd h (by unfold Ticket.cashOpen; decide +kernel), fun h => absurd h (by unfold Ticket.cashOpen; decide +kernel),
        by decide +kernel, fun r h => by cases h⟩
    · exact ⟨by decide +kernel, fun h => absurd h (by unfold Ticket.cashOpen; decide +kernel),
        fun h => absurd h (by unfold Ticket.cashOpen; decide +kernel), fun h => absurd h (by unfold Ticket.cashOpen; decide +kernel),
        by decide +kernel, fun r h => by cases h⟩
    · exact ⟨by decide +kernel, fun h => absurd h (by unfold Ticket.cashOpen; decide +kernel),
        fun h => absurd h (by unfold Ticket.cashOpen; decide +kernel), fun h => absurd h (by unfold Ticket.cashOpen; decide +kernel),
        by decide +kernel, fun r h => by cases h⟩
    · exact ⟨by decide +kernel, fun _ => ⟨plan240, rfl, by unfold Authorisation.addsUp; decide +kernel, by decide +kernel⟩,
        fun _ => by decide +kernel, fun _ p h => (by cases h), by decide +kernel, fun r h => by cases h⟩
    · exact ⟨by decide +kernel, fun _ => ⟨plan250, rfl, by unfold Authorisation.addsUp; decide +kernel, by decide +kernel⟩,
        fun _ => by decide +kernel, fun _ p h => (by cases h; decide), by decide +kernel, fun r h => by cases h⟩
  jobs := by decide +kernel
  paying := by intro j h; cases h
  target := by intro j h; cases h
  reached := by intro j h; cases h
  log := by unfold LogRecord.addsUp; decide +kernel

/-! ### Section 10 -/

theorem witness_StepRunsTheFrontCommandOrIdles :
    ({ yard with pending := [.closeTicket desk 214] } : State).pending = .closeTicket desk 214 :: [] ∧ yard.pending = [] ∧
    yard.on = true ∧ ({ yard with power := .resetHeld } : State).on = false := by decide +kernel

theorem witness_WhatIsNotTakenChangesNothing :
    Instr.source? (.closeTicket desk 214) = some desk ∧ desk.link = Port.office.link ∧
    (({ yard with office := { yard.office with receiver := .held } } : State).port .office).receiver ≠ .receiving ∧
    Instr.source? (.laneDone sentByStation) = some sentByStation ∧ sentByStation.link = .laneBus ∧
    (∀ l, yard.bus.grant ≠ some { lane := l, phase := .reception }) ∧
    ({ yard with power := .backup false } : State).on = false ∧ Instr.runOnEnd ≠ .clockAdvance ∧ Instr.runOnEnd ≠ .backupLow ∧
    (∀ k, Instr.runOnEnd ≠ .backupCrystalStop k) ∧ (∀ k, Instr.runOnEnd ≠ .powerStop k) ∧
    (∀ f k, Instr.runOnEnd ≠ .warmStart f k) ∧ (∀ f k, Instr.runOnEnd ≠ .coldStart f k) := by
  refine ⟨rfl, rfl, by decide, rfl, rfl, fun l h => (by cases h), rfl, ?_, ?_, ?_, ?_, ?_, ?_⟩ <;> (intros; intro h; cases h)

theorem witness_RequestsRefusedBeforeTheirBlock :
    Instr.payload? (.collect { link := .office, fits := true } 17 1) = some (.coll, be 1 17 ++ be 4 1) ∧
    yard.receiving .office ∧ ReqName.coll ∉ requestsOf .office ∧
    Instr.payload? (.revoke { link := .office, fits := false } 0) = some (.rvok, be 2 0) ∧ ReqName.rvok ∈ requestsOf .office ∧
    Instr.payload? (.revoke { link := .laneBus, fits := true } 0) = some (.rvok, be 2 0) ∧ (inGrant 5 yard).hears 5 ∧
    ReqName.rvok ∉ stationRequests ∧
    Instr.payload? (.laneDone { link := .laneBus, fits := false }) = some (.done, []) ∧ ReqName.done ∈ stationRequests ∧
    (∀ n : ReqName, n.chars ≠ [0x58, 0x58, 0x58, 0x58]) ∧ yard.receiving .accounts := by
  refine ⟨rfl, by decide +kernel, by decide, rfl, by decide, rfl, ⟨rfl, rfl⟩, by decide, rfl, by decide, ?_, by decide +kernel⟩
  intro n; cases n <;> decide

theorem witness_PortReceptionEvents :
    yard.on = true ∧ (yard.port .accounts).receiver = .receiving ∧
    (({ yard with office := { yard.office with receiver := .hunt } } : State).port .office).receiver = .hunt ∧
    (({ yard with office := { yard.office with receiver := .recover } } : State).port .office).receiver = .recover ∧
    (({ yard with office := { yard.office with receiver := .held } } : State).port .office).receiver = .held ∧
    yard.office.overrunMarked = false := by decide +kernel

theorem witness_ReadNoticesEmptiesItsSet : yard.receiving .office ∧ yard.office.notices = [.coldStart] := by decide +kernel

theorem witness_ReadsShowTheRecordsUnchanged :
    yard.receiving .accounts ∧ yard.ticket? 212 = some ticket212 ∧ ticket212.state = .closing ∧
    yard.ticket? 214 = some ticket214 ∧ yard.ticket? 65535 = none ∧ 15 < 16 := by decide +kernel

theorem witness_PortsInvariantKept : PortsInv yard ∧ ∃ t, step yard = .next t := ⟨yard_ports, _, rfl⟩

/-! ### Section 1 -/

theorem witness_SetClassTakesEffect :
    yard.receiving .office ∧ ScheduleInv yard ∧
    (∀ x ∈ ([0x20, 0x7E] : List Byte), 0x20 ≤ x.toNat ∧ x.toNat ≤ 0x7E) ∧
    (ClassState.active ≠ .unused ∧ (yard.classes[2].state ≠ .unused → Kind.crate = yard.classes[2].kind)) ∧
    yard.classInUse 2 = true ∧ yard.classInUse 9 = false ∧
    (yard.clock.day = 412 ∧ 32400 ≤ yard.clock.second) ∧ (yard.clock.day = 412 ∧ yard.clock.second < 32401) ∧
    yard.changes.length < 8 ∧ (∃ e ∈ yard.changes, e.cls = 2) := by
  refine ⟨by decide +kernel, yard_schedule, ?_⟩; decide +kernel

/-- Eight changes pending, none of class 9. -/
def eightPending : State :=
  { yard with changes := [0, 1, 2, 3, 4, 5, 6, 7].map fun c => { cls := c, record := crate2, day := 500, second := 0 } }

theorem witness_SetClassChecksInOrder :
    yard.receiving .office ∧ (15 < 16 ∧ 2 < 3 ∧ 86399 < 86400 ∧ 99999 < 100000 ∧ 100 < 101 ∧ 24 < 25 ∧ 999 < 1000) ∧
    ((0x1F : Byte).toNat < 0x20 ∧ 0x7E < (0x7F : Byte).toNat) ∧
    (yard.classInUse 2 = true ∧ yard.classes[2].state ≠ .unused ∧ 1 ≠ yard.classes[2].kind.code) ∧
    (eightPending.receiving .office ∧ eightPending.classInUse 9 = false ∧ eightPending.clock.day < 413 ∧
      (∀ e ∈ eightPending.changes, e.cls.val ≠ 9) ∧ 8 ≤ eightPending.changes.length) ∧
    (∃ e ∈ eightPending.changes, e.cls.val = 7) := by decide +kernel

theorem witness_CancelChangeRemovesThePendingEntry :
    yard.receiving .office ∧ 15 < 16 ∧ (∀ e ∈ yard.changes, e.cls ≠ 15) ∧ ∃ e ∈ yard.changes, e.cls = 2 := by decide +kernel

theorem witness_ScheduleInvariantKept : ScheduleInv yard ∧ ∃ t, step yard = .next t := ⟨yard_schedule, _, rfl⟩

/-! ### Section 2 -/

theorem witness_AccountsAreMadeReadAndDeleted :
    let s : State := { yard with accounts := yard.accounts.set 90 { Account.empty with state := .active, customer := 4294967295 } }
    yard.receiving .office ∧ yard.receiving .accounts ∧ 4294967295 ≤ 4294967295 ∧ (0 : AccountId).val = 0 ∧
    yard.accounts[17].state ≠ .unused ∧ yard.accounts[255].state = .unused ∧ (255 : AccountId).val ≠ 0 ∧
    yard.accounts[17].credit ≠ 0 ∧ 2 < 3 ∧ s.receiving .accounts ∧ s.accounts[90].state ≠ .unused ∧
    (∀ c : ClassId, s.accounts[90].outstanding[c] = 0) ∧ s.accounts[90].credit = 0 ∧ (∀ t ∈ s.tickets, t.account ≠ 90) := by
  decide +kernel

theorem witness_IssueAdjustCollectAndResidue :
    yard.receiving .accounts ∧ (17 : AccountId).val ≠ 0 ∧ yard.accounts[17].state ≠ .unused ∧ yard.classes[2].state = .active ∧
    ((0 : AccountId).val = 0 ∧ (255 : AccountId).val ≠ 0 ∧ yard.accounts[255].state = .unused) ∧
    (1 ≤ 1 ∧ 1 ≤ 9999 ∧ 9999 ≤ 9999) ∧ ((-9999 : Int) ≤ -9999 ∧ (9999 : Int) ≤ 9999) ∧ yard.classes[9].state = .retired ∧
    (15 < 16 ∧ 9999 < 10000 ∧ (-10000 : Int) < -9999) ∧ yard.classes[0].state = .unused ∧
    32 ≤ yard.accounts[17].credit ∧ yard.accounts[17].credit < 33 ∧ 25 ≤ yard.residue ∧ yard.residue < 26 := by
  decide +kernel

theorem witness_AccountsInvariantKept : AccountsInv yard ∧ ∃ t, step yard = .next t := ⟨yard_accounts, _, rfl⟩

/-! ### Section 3 -/

theorem witness_ColdStartValues :
    ({ yard with power := .resetHeld } : State).on = false ∧
    (({ yard with power := .backup true, marker := .invalid } : State).marker = .invalid ∧
      ({ yard with power := .backup true, check := yard.check + 1 } : State).check ≠ Config.checkOf yard.retained ∧
      ({ strap := .opened, intact := false } : StartFound).intact = false ∧
      ({ strap := .grounded, intact := true } : StartFound).strap = .grounded) :=
  ⟨rfl, rfl, Nat.succ_ne_self _, rfl, rfl⟩

/-- A full ticket table. -/
def fullTable : State := { yard with tickets := (List.range 16).map fun k => plainTicket (k + 1) 17 }

theorem witness_OpenTicketMakesATicket :
    yard.receiving .office ∧ yard.accounts[200].state = .unused ∧ yard.accounts[17].state ≠ .unused ∧
    (4 < [0, 1, 3, 4, 6].length ∧ (∃ l ∈ [10], 9 < l) ∧ ¬[0, 0].Nodup) ∧ (∃ l ∈ [8], ¬yard.laneFree l) ∧
    (fullTable.receiving .office ∧ 16 ≤ fullTable.tickets.length ∧ fullTable.accounts[17].state ≠ .unused) ∧
    (([0, 1, 3, 9] : List Nat).Nodup ∧ (∀ l ∈ [0, 1, 3, 9], yard.laneFree l) ∧ yard.tickets.length < 16) ∧
    NumbersInv yard := by
  refine ⟨by decide +kernel, by decide +kernel, by decide +kernel, by decide +kernel, by decide +kernel, by decide +kernel,
    by decide +kernel, yard_numbers⟩

/-- Ticket 212 on four lanes, the last of them its only station lane. -/
def onFour : Ticket :=
  { ticket214 with attachments := [{ lane := 6, taken := 0 }, { lane := 7, taken := 0 }, { lane := 9, taken := 0 },
      { lane := 5, taken := 0 }] }

theorem witness_AttachAndDetachLanes :
    yard.receiving .office ∧ yard.ticket? 212 = some ticket212 ∧ yard.ticket? 214 = some ticket214 ∧
    yard.ticket? 230 = some ticket230 ∧ (9 < 10 ∧ 9 ≤ 9) ∧
    (¬(ticket212.state = .opened ∨ (ticket212.state = .closing ∧ 6 ≤ 5)) ∧ ¬(ticket230.state = .opened ∨ ticket230.state = .closing)) ∧
    ¬yard.laneFree 2 ∧ (yard.laneFree 9 ∧ ticket214.attachments.length < 4) ∧
    (({ yard with tickets := [onFour] } : State).ticket? 214 = some onFour ∧
      ({ yard with tickets := [onFour] } : State).laneFree 0 ∧ 4 ≤ onFour.attachments.length) ∧
    (∀ e ∈ ticket214.attachments, e.lane ≠ 0) ∧
    ticket214.attachments.find? (fun e => e.lane == 8) = some { lane := 8, taken := 40 } ∧
    (ticket212.attachments.find? (fun e => e.lane == 2) = some { lane := 2, taken := 5 } ∧ ticket212.state = .closing ∧
      (∀ e ∈ ticket212.attachments.filter (fun e => e.lane != 2), 5 < e.lane)) := by decide +kernel

theorem witness_CloseTicketAndExpiry :
    yard.receiving .office ∧ ticket212.state ≠ .opened ∧ ticket214.state = .opened ∧
    (ticket214.attachments.filter fun e => e.lane < 6) ≠ [] ∧
    (({ yard with tickets := [plainTicket 1 17] } : State).ticket? 1 = some (plainTicket 1 17) ∧
      ((plainTicket 1 17).attachments.filter fun e => e.lane < 6) = []) ∧
    (yard.on = true ∧ ticket212.state = .closing ∧ ticket212.closeDeadline = some 120000) := by decide +kernel

theorem witness_TicketValuation :
    (ticket212.lines.map (·.cls)).Nodup ∧ ticket212.account.val ≠ 0 ∧ ticket240.account.val = 0 ∧
    (∃ c : ClassId, c ∉ ticket212.lines.map (·.cls)) ∧ ¬yard.reviewThreshold < 23832 ∧ yard.reviewThreshold < 50001 ∧
    yard.accounts[88].state = .blocked := by decide +kernel

theorem witness_LineFiguresFollowTheFloat : crate2.Ok ∧ line2.Ok :=
  ⟨by constructor <;> decide, by constructor <;> decide⟩

theorem witness_ReopenBringsATicketBack :
    yard.receiving .office ∧ yard.ticket? 230 = some ticket230 ∧ ticket230.state = .valued ∧ ticket212.state ≠ .valued ∧
    ticket230.reservation = some [30, 4] ∧ ticket230.account.val ≠ 0 ∧ (ticket230.lines.map (·.cls)).Nodup ∧
    (2, 30) ∈ (ticket230.lines.map (·.cls)).zip [30, 4] ∧ (∃ c : ClassId, ∀ p ∈ ticket230.lines.zip [30, 4], p.1.cls ≠ c) ∧
    AccountsInv yard ∧ (∃ v, (yard.valueTicket false ticket212).ticket? ticket212.number = some v) := by
  refine ⟨by decide +kernel, by decide +kernel, by decide, by decide, by decide, by decide, by decide, by decide, by decide,
    yard_accounts, Option.isSome_iff_exists.1 (by decide +kernel)⟩

theorem witness_VoidEndsATicket :
    yard.receiving .office ∧ yard.ticket? 240 = some ticket240 ∧ ticket240.state = .authorised ∧
    yard.ticket? 250 = some ticket250 ∧ ticket250.state = .payFault ∧ ticket214.state = .opened ∧ ticket212.state = .closing ∧
    ticket230.state = .valued := by decide +kernel

theorem witness_ReleaseAndSetLimits :
    let s : State := { yard with tickets := [plainTicket 1 88] }
    (s.receiving .office ∧ s.ticket? 1 = some (plainTicket 1 88) ∧ HoldReason.accountBlocked ∈ HoldReason.names ∧
      HoldReason.names.length ≤ 5 ∧ s.accounts[(plainTicket 1 88).account].state = .blocked) ∧
    (yard.ticket? 240 = some ticket240 ∧ ticket240.state = .authorised) ∧
    (yard.ticket? 230 = some ticket230 ∧ ticket230.state = .valued ∧ yard.accounts[ticket230.account].state ≠ .blocked) ∧
    (5 < [0, 0, 0, 0, 0, 0].length ∧ ∃ k ∈ [0, 5], 4 < k) ∧ (4294967295 ≤ 4294967295 ∧ 5 ≤ 5 ∧ 600 ≤ 600) ∧ (4 < 5 ∧ 600 < 601) ∧ yard.ticket? 65535 = none := by
  decide +kernel

/-! ### Section 4 -/

/-- Ticket 214 with eight lines, of classes 8 to 15. -/
def eightLines : Ticket :=
  { ticket214 with lines := [8, 9, 10, 11, 12, 13, 14, 15].map fun c => Line.fresh c }

/-- Ticket 214 with a full cell. -/
def fullCell : Ticket := { ticket214 with lines := [{ line2 with good := 9900 }] }

theorem witness_ArriveAccepted :
    (inGrant 5 yard).hears 5 ∧ (inGrant 5 yard).feeding 5 = some ticket214 ∧
    (crate2.state ≠ .unused ∧ crate2.kind = .crate ∧ 1 ≤ 1 ∧ 99 ≤ 99 ∧ 2376 ≤ 2376 ∧ (∃ x ∈ ticket214.lines, x.cls = 2) ∧
      40 + 99 ≤ 9999 ∧ 99 * crate2.slots < 2376) ∧
    (keg5.state ≠ .unused ∧ keg5.kind = .keg ∧ (∀ e ∈ yard.tags, some 7100423 ≠ some e.tag) ∧
      (∀ x ∈ ticket214.lines, x.cls ≠ 5) ∧ ticket214.lines.length < 8) ∧
    (let s := inGrant 5 { yard with tickets := [fullCell] }
     s.hears 5 ∧ s.feeding 5 = some fullCell ∧ line2.cell .own .good = 28 ∧
        ((fullCell.lines.find? fun x => x.cls == 2).getD (Line.fresh 2)).cell .own .good + 99 ≤ 9999) ∧
    ((ticket212.lines.map (·.cls)).Nodup ∧ (5 : ClassId) ∈ ticket212.lines.map (·.cls) ∧
      (9 : ClassId) ∉ ticket212.lines.map (·.cls)) := by decide +kernel

theorem witness_ArriveRefusedInOrder :
    ((inGrant 0 yard).hears 0 ∧ (inGrant 0 yard).laneFree 0) ∧
    ((inGrant 5 yard).hears 5 ∧ (inGrant 5 yard).feeding 5 = some ticket214 ∧ 15 < 16) ∧ yard.classes[0].state = .unused ∧
    (crate2.state ≠ .unused ∧ (1 < 2 ∧ 99 < 100 ∧ 2376 < 2377) ∧ crate2.kind ≠ .keg ∧ keg5.kind = .keg ∧ 1 < 2) ∧
    (yard.tags.find? (fun e => e.tag == 7100422) = some { tag := 7100422, ticket := 212, lane := 2, stamp := nine } ∧
      ticket214.number ≠ 212 ∧ (inGrant 2 yard).feeding 2 = some ticket212 ∧ ticket212.number = 212) ∧
    (let s := inGrant 5 { yard with tickets := [eightLines] }
     s.hears 5 ∧ s.feeding 5 = some eightLines ∧ (∀ x ∈ eightLines.lines, x.cls ≠ 2) ∧ 8 ≤ eightLines.lines.length) ∧
    (let s := inGrant 5 { yard with tickets := [{ fullCell with lines := [{ line2 with good := 9901 }] }] }
     s.hears 5 ∧ s.feeding 5 = some { fullCell with lines := [{ line2 with good := 9901 }] } ∧ 9999 < 9901 + 99) := by
  decide +kernel

theorem witness_LaneDoneAndLaneQuery :
    ((inGrant 0 yard).hears 0 ∧ (inGrant 0 yard).laneFree 0) ∧
    ((inGrant 5 yard).feeding 5 = some ticket214 ∧ ticket214.state = .opened ∧
      ticket214.attachments.find? (fun e => e.lane == 5) = some { lane := 5, taken := 1 }) ∧
    ((inGrant 2 yard).feeding 2 = some ticket212 ∧ ticket212.state = .closing ∧ ticket212.closeDeadline = some 120000 ∧
      ticket212.attachments.find? (fun e => e.lane == 2) = some { lane := 2, taken := 5 } ∧
      (∀ e ∈ ticket212.attachments.filter (fun e => e.lane != 2), 5 < e.lane)) := by decide +kernel

theorem witness_WatchListRequests :
    (yard.receiving .office ∧ 5500017 ∈ yard.watch ∧ 7 ∉ yard.watch ∧ yard.watch.length < 8) ∧
    (let s : State := { yard with watch := [0, 1, 2, 3, 4, 5, 6, 8] }
     s.receiving .office ∧ 7 ∉ s.watch ∧ 8 ≤ s.watch.length) := by decide +kernel

theorem witness_TallyInvariantKept : ScheduleInv yard ∧ TallyInv yard ∧ ∃ t, step yard = .next t :=
  ⟨yard_schedule, yard_tally, _, rfl⟩

theorem witness_LimitsAndNumbersKept : LimitsInv yard ∧ NumbersInv yard ∧ ∃ t, step yard = .next t :=
  ⟨yard_limits, yard_numbers, _, rfl⟩

theorem witness_FlowInvariantKept :
    NumbersInv yard ∧ (yard.marker = .valid → FlowInv yard) ∧ ∃ t, step yard = .next t ∧ t.marker = .valid :=
  ⟨yard_numbers, fun _ => yard_flow, _, rfl, rfl⟩

/-! ### Section 5 -/

/-- Lane 8 with the beam blocked since 5,005 and the last counted edge then. -/
def jammed : State :=
  { yard with now := 5005, pulse := yard.pulse.set 2 { yard.pulse[2] with
      blocked := .found true 5005, blockedSince := some 5005, lastCounted := some 5005 } }

theorem witness_NoiseFilter :
    let f : NoiseFilter := { level := false, raw := false, since := 0 }
    (f.since :: [10, 14, 20, 40, 41, 50]).Pairwise (· ≤ ·) ∧ f.changes 5 [10, 14, 20, 40, 41, 50] = [(25, true), (55, false)] ∧
      f.raw = f.level ∧ 14 < 10 + 5 := by decide +kernel

theorem witness_PulseTransitionsAndStalls :
    (yard.settled = true ∧ yard.pulse[0].blocked.level ≠ true ∧ yard.pulse[0].blocked.next ≤ yard.now + 0 ∧
      ({ yard.pulse[0] with blocked := { level := true, next := 7 } } : PulseLane).blocked.level = true ∧ yard.pulse[0].enabled = false) ∧
    (yard.pulse[2].blocked.level ≠ true ∧ yard.pulse[2].enabled = true ∧ yard.pulse[2].edge = .leading) ∧
    (jammed.settled = true ∧ jammed.pulse[2].blocked.level ≠ false ∧ jammed.pulse[2].blocked.next ≤ jammed.now + 0 ∧
      ¬((jammed.pulse[2].edge = .leading ∧ false = true) ∨ (jammed.pulse[2].edge = .trailing ∧ false = false))) ∧
    (conveyor.settled = true ∧ conveyor.pulse[2].blocked.level ≠ true ∧ conveyor.pulse[2].blocked.next ≤ conveyor.now + 49 ∧ conveyor.pulse[2].lastCounted = some 1005 ∧
      ¬conveyor.pulse[2].spacing ≤ 1105 + 49 - 1005 ∧ conveyor.pulse[2].spacing ≤ 1105 + 50 - 1005) ∧
    (({ yard with tickets := [] } : State).laneFree 8 ∧ yard.feeding 8 = some ticket214) ∧
    (∃ x ∈ ticket214.lines, x.cls = yard.pulse[2].cls) ∧ 40 + 1 ≤ 9999 ∧ yard.classes[2].kind = .crate ∧
    (let s : State := { yard with tickets := [{ fullCell with lines := [{ line2 with good := 9999 }] }] }
     s.feeding 8 = some { fullCell with lines := [{ line2 with good := 9999 }] } ∧ ¬9999 + 1 ≤ 9999) ∧
    (jammed.on = true ∧ jammed.pulse[2].enabled = true ∧ jammed.pulse[2].blockedSince = some 5005 ∧
      jammed.pulse[2].stalled = false ∧ 5005 + 1000 * jammed.pulse[2].stallTime + 1 ≤ jammed.now + 20000 ∧ ({ jammed.pulse[2] with stalled := true } : PulseLane).stalled = true) := by
  decide +kernel

/-- The yard with a count of strays on lane 8. -/
def strays (n : Nat) (t : Ticket) : State :=
  { yard with tickets := [t], pulse := yard.pulse.set 2 { yard.pulse[2] with strays := n } }

theorem witness_AssignStraysMovesTheCount :
    yard.receiving .office ∧ yard.ticket? 65535 = none ∧ (yard.ticket? 212 = some ticket212 ∧ ticket212.state ≠ .opened) ∧
    (yard.ticket? 214 = some ticket214 ∧ ticket214.state = .opened ∧ yard.pulse[2].strays = 0) ∧
    ((strays 1 eightLines).ticket? 214 = some eightLines ∧ 0 < (strays 1 eightLines).pulse[2].strays ∧
      ¬((∃ x ∈ eightLines.lines, x.cls = 2) ∨ eightLines.lines.length < 8)) ∧
    ((strays 9960 ticket214).ticket? 214 = some ticket214 ∧ 9999 < 40 + 9960) ∧
    ((strays 9959 ticket214).ticket? 214 = some ticket214 ∧ 40 + 9959 ≤ 9999 ∧ (strays 9959 ticket214).receiving .office ∧
      yard.classes[2].kind = .crate) ∧ (5 < 6 ∧ 9 < 10) := by decide +kernel

theorem witness_SetLaneConfiguresAPulseLane :
    yard.receiving .office ∧ (1 < 2 ∧ 15 < 16) ∧ (¬20 ≤ 19 ∧ ¬2001 ≤ 2000 ∧ ¬1 ≤ 0 ∧ ¬61 ≤ 60) ∧ (20 ≤ 20 ∧ 2000 ≤ 2000 ∧ 1 ≤ 1 ∧ 60 ≤ 60) ∧
    yard.classes[0].state = .unused ∧ yard.classes[2].state ≠ .unused ∧
    (yard.pulse[2].enabled = true ∧ (5 : ClassId) ≠ yard.pulse[2].cls ∧ ¬yard.laneFree 8) ∧
    (let s : State := { yard with tickets := [] }
     s.receiving .office ∧ s.laneFree 8 ∧ s.pulse[2].strays = 0 ∧ s.pulse[0].enabled = false) ∧
    (let s : State := { jammed with now := 6006 }
     s.receiving .office ∧ 1 ≠ s.pulse[2].stallTime ∧ s.pulse[2].stalled = false ∧ s.pulse[2].blockedSince = some 5005 ∧
        1000 * 1 < s.now - 5005) := by decide +kernel

theorem witness_PulseInvariantKept : PulseInv yard ∧ ∃ t, step yard = .next t := ⟨yard_pulse, _, rfl⟩

/-! ### Section 7 -/

theorem witness_PlanAddsUp :
    5000 ≤ 23832 ∧ 23832 ≤ 23832 ∧ (Means.split ≠ .credit ∧ 0 < 50 ∧ 50 ∣ 1000 ∧ 50 ≤ 1000) := by decide

/-- Ticket 230 with no holds left. -/
def free230 : Ticket := { ticket230 with holds := [] }

/-- The yard with one VALUED ticket. -/
def valued (t : Ticket) : State := { yard with tickets := [t], queue := [] }

theorem witness_AuthorisePlansAndQueues :
    (2 < 3 ∧ yard.receiving .office ∧ yard.ticket? 230 = some ticket230 ∧ ticket230.state = .valued ∧ ticket212.state ≠ .valued) ∧
    ({ ticket230 with saturated := true } : Ticket).saturated = true ∧ (ticket230.saturated = false ∧ ticket230.holds ≠ []) ∧
    (free230.saturated = false ∧ free230.holds = [] ∧ yard.accounts[({ free230 with account := 88 } : Ticket).account].state = .blocked) ∧
    ((valued free230).ticket? 230 = some free230 ∧ (valued free230).receiving .office ∧
      yard.accounts[free230.account].state ≠ .blocked ∧ ({ free230 with account := 0 } : Ticket).account.val = 0) ∧
    (23832 < 23833 ∧ 0 < 23832 ∧ ({ valued free230 with disp := Dispenser.cold } : State).disp.denoms = none) ∧
    (plan .cash 23832 0 1000 50).cash = 23800 ∧ 8 ≤ (List.replicate 8 plan240).length ∧ (valued free230).queue.length < 8 ∧
    ((valued free230).disp.note.stock = 60 ∧ 60 < 61 ∧ 23 ≤ 60 ∧ 16 ≤ 120) ∧
    (4294967295 < 4294967264 + (23832 - 23800) ∧ ¬4294967295 < 32 + (23832 - 23800)) ∧
    (plan .credit 23832 0 1000 50).cash = 0 := by decide +kernel

theorem witness_SettlementAndTheSettledLog :
    ticket250.figures = some figures212 ∧ ticket250.authorisation = some plan250 ∧ yard.log.length < 63 ∧
    (List.replicate 63 record180).length = 63 ∧ 64 ≤ (List.replicate 64 record180).length := by decide

/-- Ticket 240 returned to the queue by a retry. -/
def retried : Ticket := { ticket240 with
  progress := some { notesPaid := 1, coinsPaid := 0, retries := 1, fault := some .coinJam, converted := 0, manual := 0
                     overpay := 0 } }

theorem witness_RevokeTakesTheJobBack :
    yard.receiving .office ∧ (yard.ticket? 230 = some ticket230 ∧ ticket230.state ≠ .authorised) ∧
    (yard.ticket? 240 = some ticket240 ∧ ticket240.state = .authorised ∧ ticket240.progress = none ∧
      0 ≤ yard.accounts[ticket240.account].credit) ∧
    (let t : Ticket := { ticket250 with state := .authorised, progress := none }
     (valued t).ticket? 250 = some t ∧ t.account.val ≠ 0 ∧ 32 ≤ (valued t).accounts[t.account].credit ∧
        ({ yard.accounts[t.account] with credit := 31 } : Account).credit < 32) ∧
    ((valued retried).ticket? 240 = some retried ∧ retried.state = .authorised ∧ retried.progress.isSome = true) := by
  decide +kernel

theorem witness_ResolveEndsAPayoutFault :
    (yard.receiving .office ∧ yard.ticket? 250 = some ticket250 ∧ ticket250.state = .payFault ∧
      yard.disp.denoms = some (1000, 50) ∧ ticket250.progress.isSome = true) ∧
    (yard.ticket? 240 = some ticket240 ∧ ticket240.state ≠ .payFault) ∧ (3 ≤ 3 ∧ 2 < 3) ∧
    (23800 - (23 * 1000 + 16 * 50) = 0 ∧ 0 < 23800 - (23 * 1000 + 10 * 50)) ∧
    (yard.queue.length < 8 ∧ 8 ≤ (List.replicate 8 plan240).length) ∧
    (yard.notesAvailable = 59 ∧ yard.coinsAvailable = 115 ∧ ¬(59 < 0 ∨ 115 < 6) ∧
      ({ yard with disp := { yard.disp with coin := { state := .ready, stock := 10 } } } : State).coinsAvailable < 6) ∧
    (ticket250.account.val ≠ 0 ∧ ({ ticket250 with account := 0 } : Ticket).account.val = 0) ∧
    (4294967295 < 4294966996 + 300 ∧ 32 + 300 ≤ 4294967295) := by decide +kernel

/-- The yard with ticket 241 SETTLED, waiting for log room. -/
def waiting241 : Ticket :=
  { plainTicket 241 17 with state := .settled, record := some { record180 with number := 241 } }

theorem witness_PeekAndTakeLog :
    yard.receiving .accounts ∧ (yard.log.head? = some record180 ∧ record180.number ≠ 181) ∧
    (∀ r, ({ yard with log := [] } : State).log.head? = some r → r.number ≠ 1) ∧
    (yard.log = record180 :: [] ∧ record180.number = 180 ∧ yard.waiting = []) ∧
    (let s : State := { yard with tickets := [waiting241], waiting := [241] }
     s.waiting = 241 :: [] ∧ s.ticket? 241 = some waiting241 ∧ waiting241.record = some { record180 with number := 241 }) ∧
    (List.replicate 63 record180).length + 1 = 64 := by
  refine ⟨by decide +kernel, by decide +kernel, fun r h => (by cases h), by decide +kernel, by decide +kernel, by decide⟩

theorem witness_MoneyInvariantKept :
    DispenserInv yard ∧ NumbersInv yard ∧ (yard.marker = .valid → FlowInv yard ∧ MoneyInv yard) ∧
      ∃ t, step yard = .next t ∧ t.marker = .valid :=
  ⟨yard_dispenser, yard_numbers, fun _ => ⟨yard_flow, yard_money⟩, _, rfl, rfl⟩

/-! ### Section 8 -/

theorem witness_DispenserRequests :
    yard.receiving .office ∧
    (let v : DispenserSettings :=
        { un := 100, uc := 1, vendPulse := 20, jamTime := 500, doublePick := 10, noteLow := 9999, coinLow := 65535 }
     100 ≤ v.un ∧ 1 ≤ v.uc ∧ v.uc ≤ v.un ∧ v.uc ∣ v.un ∧ 20 ≤ v.vendPulse ∧ 500 ≤ v.jamTime ∧ 10 ≤ v.doublePick) ∧
    (¬100 ≤ 99 ∧ ¬100001 ≤ 100000 ∧ ¬501 ≤ 500 ∧ ¬10001 ≤ 10000 ∧ ¬10000 ≤ 9999 ∧ ¬65536 ≤ 65535 ∧ ¬3 ∣ 100) ∧
    (yard.queue ≠ [] ∧ (∃ t ∈ yard.tickets, t.state = .paying ∨ t.state = .payFault)) ∧
    (let s : State := { yard with queue := [], tickets := [ticket214] }
     s.receiving .office ∧ s.queue = [] ∧ ∀ t ∈ s.tickets, t.state ≠ .paying ∧ t.state ≠ .payFault) ∧
    (9999 < 10000 ∧ 9999 ≤ 9999 ∧ 65535 ≤ 65535) ∧
    (paying.receiving .office ∧ paying.disp.note.state = .running ∧ yard.disp.coin.state = .ready ∧
      ({ state := .fault, stock := 0 } : ChannelRecord).state = .fault) ∧ 1 < 2 := by decide +kernel

theorem witness_StockCountsAndFaults : ∃ t, paying.ticket? job240.ticket = some t :=
  Option.isSome_iff_exists.1 (by decide +kernel)

theorem witness_JobTakeStartsTheHeadJob :
    (yard.settled = true ∧ yard.queue = { ticket := 240, amount := 1250, notes := 1, coins := 5 } :: [] ∧
      yard.disp.job = none ∧ (∀ u ∈ yard.tickets, u.state ≠ .paying) ∧ yard.disp.note.state = .ready ∧
      yard.disp.coin.state = .ready ∧ yard.ticket? 240 = some ticket240) ∧
    (0 < 1 ∧ 0 < yard.disp.note.stock ∧ yard.disp.noteExit.level = false ∧
      ({ yard.disp with noteExit := .found true 0 } : Dispenser).noteExit.level = true) ∧
    (let s : State := { yard with queue := [{ ticket := 240, amount := 250, notes := 0, coins := 5 }] }
     s.queue = { ticket := 240, amount := 250, notes := 0, coins := 5 } :: [] ∧ 0 < s.disp.coin.stock) := by decide +kernel

/-- The first vend of `paying` with its pulse over, with its exit, or waiting for NOTE_EXIT. -/
def atWork (w : NoteWork) (exit : Bool) : State :=
  { paying with disp := { paying.disp with
      noteVend := false, noteExit := .found exit 2, job := some { job240 with work := some w } } }

theorem witness_VendEvents :
    (paying.settled = true ∧ paying.disp.job = some job240 ∧ job240.phase = .notes ∧ job240.work = some (.vend 0 .awaited) ∧
      paying.disp.noteVend = true ∧ paying.disp.noteExit.level = false ∧ paying.disp.noteExit.next ≤ paying.now + 100 ∧
      paying.now + 100 ≤ 0 + paying.disp.vendPulse) ∧
    (let s := atWork (.vend 0 .awaited) false
     s.disp.noteExit.next ≤ s.now + 3000 ∧ s.now + 3000 ≤ 0 + s.disp.jamTime ∧ ¬s.disp.noteExit.next ≤ s.now + 1) ∧
    (let s := atWork (.vend 0 .gone) false
     s.settled = true ∧ s.disp.noteVend = false ∧ s.disp.noteExit.level = false) ∧
    (let s := atWork (.vend 0 .gone) true
     s.disp.noteExit.level = true ∧ s.disp.noteExit.next ≤ s.now + 2 ∧ ¬s.disp.noteExit.next ≤ s.now + 1) ∧
    (vending.settled = true ∧ vending.disp.job = some job261 ∧ job261.phase = .notes ∧
      job261.work = some (.vend 100 (.passing 200)) ∧ vending.disp.noteExit.level = true ∧
      vending.disp.noteVend = false ∧ vending.now + 3000 ≤ 200 + vending.disp.jamTime ∧
      vending.disp.doublePick < vending.now + 61 - 200 ∧ ¬vending.disp.doublePick < vending.now + 60 - 200) ∧
    (let s := atWork (.waitClear 0) true
     s.disp.noteExit.level = true ∧ s.disp.noteExit.next ≤ s.now + 3000 ∧ s.now + 3000 ≤ 0 + s.disp.jamTime) ∧
    (yard.settled = true ∧ yard.disp.job = none ∧ yard.disp.noteExit.level = false) ∧
    ((coining 8).settled = true ∧ ((coining 8).disp.job.map fun j => (j.phase, j.since)) = some (.coins, 0) ∧
      (coining 8).now + 3000 ≤ 0 + (coining 8).disp.jamTime) := by decide +kernel

theorem witness_VendEvents_timers :
    (paying.settled = true ∧ paying.disp.noteVend = true ∧ paying.now ≤ 0 + paying.disp.vendPulse ∧
      0 + paying.disp.vendPulse < paying.now + 101 ∧ paying.disp.noteExit.level = false ∧ paying.disp.noteExit.next ≤ paying.now + 101 ∧
      ∃ u, exec (.noteVendEnd { note := paying.disp.noteEmpty.level, coin := paying.disp.coinEmpty.level }) paying = .next u) ∧
    (let s := atWork (.waitClear 0) true
     s.disp.noteVend = false ∧ 0 + s.disp.jamTime < s.now + 3001 ∧ s.disp.noteExit.next ≤ s.now + 3001 ∧
     ∃ u, exec .noteJamTimeout s = .next u) ∧
    ((coining 8).disp.coinExit.level = false ∧ (coining 8).disp.coinExit.next ≤ (coining 8).now + 3001 ∧ 0 + (coining 8).disp.jamTime < (coining 8).now + 3001 ∧
      ∃ u, exec .coinGapTimeout (coining 8) = .next u) ∧
    ((coining 8).disp.coinEmpty.level = false ∧ (coining 8).disp.coinEmpty.next ≤ (coining 8).now + 3001 ∧
      ∃ u, exec .coinGapTimeout (coining 8) = .next u ∧ u.disp.coinEmpty.level = false ∧
        u.disp.coinEmpty.next ≤ (coining 8).now + 3001) := by
  refine ⟨⟨by decide +kernel, by decide +kernel, by decide +kernel, by decide +kernel, by decide +kernel, by decide +kernel, _, rfl⟩,
    ⟨by decide +kernel, by decide +kernel, by decide +kernel, _, rfl⟩,
    ⟨by decide +kernel, by decide +kernel, by decide +kernel, _, rfl⟩,
    by decide +kernel, by decide +kernel, _, rfl, by decide +kernel, by decide +kernel⟩

theorem witness_AfterTheVend :
    vending.disp.denoms = some (1000, 50) ∧ 0 < 50 ∧ (∃ t, vending.ticket? job261.ticket = some t) ∧
    job261.notes < job261.plannedNotes ∧ (0 < vending.disp.note.stock ∧ vending.disp.noteEmpty.level = false) ∧
    (({ job261 with notes := 2 } : JobProgress).plannedNotes ≤ 2 ∧ (2000 - 2 * 1000) / 50 = 0 ∧ 0 < (3450 - 3 * 1000) / 50) := by
  refine ⟨by decide +kernel, by decide, Option.isSome_iff_exists.1 (by decide +kernel), by decide, by decide +kernel, by decide⟩

theorem witness_CoinEvents :
    (yard.settled = true ∧ yard.disp.job = none ∧ yard.disp.coinExit.level = false ∧ yard.disp.coinExit.next ≤ yard.now + 0 ∧
      yard.disp.coinEmpty.level = false ∧ yard.disp.coinEmpty.next ≤ yard.now + 0) ∧
    (paying.settled = true ∧ paying.disp.job = some job240 ∧ job240.phase = .notes ∧
      job240.timer paying.disp = some (.vendEnd, paying.now + 100)) ∧
    ((coining 8).settled = true ∧ ((coining 8).ticket? 240).isSome = true ∧ (coining 8).disp.coinExit.next ≤ (coining 8).now + 0 ∧
      ((coining 8).disp.job.map fun j => (j.ticket, j.phase, j.coins, j.target, j.since)) = some (240, .coins, 8, 9, 0) ∧
      (coining 8).now + 3000 ≤ 0 + (coining 8).disp.jamTime ∧ 7 + 1 < 9 ∧ 9 ≤ 8 + 1) ∧
    (let s := left (exec (.coinExitStart 50) (coining 8)) yard
     (s.disp.job.map fun j => (j.phase, j.fault, j.since)) = some (.runOn, none, 50) ∧ s.disp.coinExit.level = true ∧
     s.disp.coinExit.next + 2 ≤ s.now + 4 ∧ ¬s.disp.coinExit.next + 2 ≤ s.now + 3 ∧ s.now + 300 ≤ 50 + 300) ∧
    (({ job240 with phase := .runOn, fault := some .coinJam } : JobProgress).phase = .runOn) := by decide +kernel

theorem witness_DispenserInvariantKept : DispenserInv yard ∧ ∃ t, step yard = .next t := ⟨yard_dispenser, _, rfl⟩

/-! ### Section 9 -/

theorem witness_ArbiterChoosesByPriorityThenInTurn :
    LaneBusInv yard ∧ (∀ l, ¬(yard.bus.lanes[(l : StationLane)].state = .active ∧ yard.bus.lanes[l].low.level = true)) ∧
    (let b := busOf [1, 3] [1]
     b.winner = some 3 ∧ (b.lanes[(1 : StationLane)].state = .active ∧ b.lanes[(1 : StationLane)].low.level = true) ∧
        b.lanes[(1 : StationLane)].lastGranted = true) ∧
    (yard.bus.grant = none ∧ yard.bus.winner = none) := by
  refine ⟨yard_bus, ?_⟩; decide +kernel

theorem witness_RequestLinesAndSetLane :
    (yard.settled = true ∧ yard.bus.lanes[(0 : StationLane)].low.level ≠ true ∧
      yard.bus.lanes[(0 : StationLane)].low.next ≤ yard.now + 0 ∧ yard.bus.lanes[(0 : StationLane)].state = .active) ∧
    (let s : State := { yard with bus := { yard.bus with lanes := yard.bus.lanes.set 0 { StationRecord.cold with
        state := .silent, misses := 3 } } }
     s.settled = true ∧ s.bus.lanes[(0 : StationLane)].low.level ≠ true ∧ s.bus.lanes[(0 : StationLane)].state = .silent) ∧
    ((busOf [1] []).lanes[(1 : StationLane)].low.level ≠ false) ∧
    (yard.receiving .office ∧ 3 ≤ 3 ∧ 10 ≤ 10 ∧ 200 ≤ 200) ∧ (3 < 4 ∧ 9 < 10 ∧ 200 < 201) := by decide +kernel

theorem witness_GrantEvents :
    (let s : State := { yard with bus := { yard.bus with grant := some { lane := 3, phase := .window 0 40 } } }
     s.on = true ∧ s.bus.grant = some { lane := 3, phase := .window 0 40 } ∧ s.now + 40 ≤ 0 + 40 ∧ s.bus.lbusDe = false ∧
        min 3 (s.bus.lanes[(3 : StationLane)].misses + 1) < 3 ∧ s.bus.lanes[(3 : StationLane)].state = .active) ∧
    min 3 (2 + 1) = 3 ∧
    ((inGrant 2 yard).on = true ∧ (inGrant 2 yard).bus.grant = some { lane := 2, phase := .reception } ∧
      LaneError.check ≠ .wrongAddress) ∧
    (∃ r, (left (exec (.laneQuery sentByStation) (inGrant 2 yard)) yard).bus.grant = some { lane := 2, phase := .reply r }) := by
  refine ⟨by decide +kernel, by decide, by decide +kernel, _, rfl⟩

theorem witness_LaneBusInvariantKept : LaneBusInv yard ∧ ∃ t, step yard = .next t := ⟨yard_bus, _, rfl⟩

/-! ### Section 11 -/

/-- The yard clock in source REFERENCE, one unit short of a full second at 1,000 ms. -/
def onReference : State :=
  { yard with now := 1000, clock := { yard.clock with source := .reference, suspect := true, sub := 0, anchor := 0 } }

theorem witness_ClockCommands :
    (yard.on = true ∧ yard.clock.source = .crystal ∧ yard.receiving .office) ∧
    (onReference.on = true ∧ onReference.clock.source = .reference ∧ onReference.clock.anchor ≤ onReference.now ∧
      onReference.clock.sub + (onReference.now - onReference.clock.anchor) * 32768 ≤ 32768000) ∧
    ({ yard with power := .backup true } : State).power = .backup true ∧ (86399 < 86400 ∧ 65535 ≤ 65535 ∧ 86399 ≤ 86399) ∧
    (yard.clock.day = 412 ∧ yard.clock.second < 32401 ∧ 32400 ≤ yard.clock.second) := by decide +kernel

/-- The yard when its pending change has come due. -/
def due : State := { yard with clock := { yard.clock with second := 43200 } }

theorem witness_DueChangesAreApplied :
    due.changes = { cls := 2, record := { crate2 with deposit := 200 }, day := 412, second := 43200 } :: [] ∧
    (412 = due.clock.day ∧ 43200 ≤ due.clock.second) ∧ ¬(412 < yard.clock.day ∨ (412 = yard.clock.day ∧ 43200 ≤ yard.clock.second)) ∧
    (due.classInUse 2 = true ∧ crate2.state ≠ .unused ∧ crate2.kind = due.classes[2].kind ∧ ClassRecord.zero.state = .unused) ∧
    ({ due with changes := [] } : State).changes = [] := by decide +kernel

theorem witness_StopsAndSettling :
    yard.on = true ∧ ({ yard with power := .resetHeld } : State).power = .resetHeld ∧
    (({ yard with power := .backup true } : State).power = .backup true ∧
      ({ yard with power := .backup false } : State).power = .backup false) ∧
    (({ yard with power := .running false } : State).power = .running false ∧ yard.power ≠ .running false) := by decide +kernel

theorem witness_WarmStart :
    (let s : State := { yard with power := .resetHeld, closingOrder := [], tickets := [ticket214] }
     s.on = false ∧ s.marker = .valid ∧
        (∀ e ∈ s.changes.head?, s.clock.day < e.day ∨ (s.clock.day = e.day ∧ s.clock.second < e.second)) ∧
        s.closingOrder = [] ∧ (∀ t ∈ s.tickets, t.state ≠ .paying)) ∧
    (yard.closingOrder = 212 :: [] ∧ 212 ∉ ([] : List Nat) ∧ yard.ticket? 212 = some ticket212) ∧
    (∃ t, t ∈ paying.tickets ∧ t.state = .paying ∧ ∀ u ∈ paying.tickets, u.state = .paying → u = t) := by
  refine ⟨by decide +kernel, by decide +kernel, _, .tail _ (.tail _ (.tail _ (.head _))), rfl, by decide +kernel⟩

theorem witness_WarmStart_check :
    ∃ s : State, s.on = false ∧ s.marker = .valid ∧ s.check = Config.checkOf s.retained ∧
      ({ strap := .opened, intact := true } : StartFound).intact = true :=
  ⟨(yard.halt .resetLow).sealed, rfl, rfl, rfl, rfl⟩

theorem witness_CheckField : CheckInv yard ∧ ∃ t, step yard = .next t := ⟨fun _ => rfl, _, rfl⟩

/-! ### Section 12 -/

theorem witness_FramesCarryTheirRequest :
    (Instr.wf (.adjust gate 17 5 (-32768)) = true ∧ Instr.source? (.adjust gate 17 5 (-32768)) = some Port.accounts.sent) ∧
    (Instr.wf (.arrive sentByStation 255 255 255 255 65535 (some 4294967295)) = true ∧
      Instr.source? (.arrive sentByStation 255 255 255 255 65535 (some 4294967295)) = some sentByStation) := by decide +kernel

theorem witness_FrameCheckAndRecordLength :
    record180.valued.isSome = true ∧ ({ record180 with valued := none } : LogRecord).valued = none ∧
    (let bs := frame 0x5A [0x04] [0x52, 0x53, 0x54, 0x41]
     3 < bs.length ∧ bs[3]? ≠ some 0x54 ∧ openFrame 0x5A 64 bs = some ([0x52, 0x53, 0x54, 0x41], []) ∧ 5 + 1 < bs.length) ∧
    (∃ e, readPortChar (portChar 0x41 ^^^ 2#11) = .error e) ∧
    (openFrame (stationStart 3) 24 (frame 0x13 [0x04] [0x51, 0x55, 0x52, 0x59]) = some ([0x51, 0x55, 0x52, 0x59], [])) ∧
    (∃ e, readLaneChar 0 = .error e) ∧ hearLaneChar 3 [] (frameStartChar 3) = .more [0x13] ∧
    ({ marked := false, data := 0x04 } : LaneChar).marked = false :=
  ⟨by decide +kernel, by decide +kernel, by decide +kernel, ⟨.parity, by rfl⟩, by decide +kernel, ⟨.framing, by rfl⟩,
    by decide +kernel, by decide⟩

end Sys2Proof.Tests
end

section
/-! SUPPORT. The deposit schedule (Section 1), said once: the order of effective times, the stored form of a Set Class, the pending
change list, the in-use test, and what each request of the section answers. -/

namespace Sys2Proof.Machine

/-! ### Effective times (R8, R11) -/

theorem timeLe_iff {day second day' second' : Nat} :
    timeLe day second day' second' = true ↔ day < day' ∨ (day = day' ∧ second ≤ second') := by simp [timeLe]

theorem YardClock.reached_iff {c : YardClock} {day second : Nat} :
    c.reached day second = true ↔ day < c.day ∨ (day = c.day ∧ second ≤ c.second) := timeLe_iff

/-- A time the clock has not reached lies after it: any two times can be compared. -/
theorem YardClock.not_reached_iff {c : YardClock} {day second : Nat} :
    c.reached day second = false ↔ c.day < day ∨ (c.day = day ∧ c.second < second) := by
  rw [← Bool.not_eq_true, YardClock.reached_iff]; omega

theorem effectiveFits_iff {eff : Option (Nat × Nat)} :
    effectiveFits eff = true ↔ ∀ day second, eff = some (day, second) → second ≤ 86399 := by
  rcases eff with _ | ⟨day, second⟩ <;> simp [effectiveFits]

/-! ### The stored form (R1, R3, R4) -/

theorem ClassState.code_eq_zero {st : ClassState} : st.code = 0 ↔ st = .unused := ClassState.code_inj (y := .unused)

theorem Kind.code_eq_zero {k : Kind} : k.code = 0 ↔ k = .crate := Kind.code_inj (y := .crate)

theorem ClassState.code_le (st : ClassState) : st.code ≤ 2 := by cases st <;> decide

theorem Kind.code_le (k : Kind) : k.code ≤ 2 := by cases k <;> decide

theorem ClassState.exists_code {n : Nat} (h : n ≤ 2) : ∃ st : ClassState, st.code = n := by
  cases hn : ClassState.ofCode n with
  | none => exact absurd (ClassState.ofCode_eq_none.1 hn) (by simp [ClassState.names]; omega)
  | some st => exact ⟨st, ClassState.ofCode_eq_some.1 hn⟩

theorem Kind.exists_code {n : Nat} (h : n ≤ 2) : ∃ k : Kind, k.code = n := by
  cases hn : Kind.ofCode n with
  | none => exact absurd (Kind.ofCode_eq_none.1 hn) (by simp [Kind.names]; omega)
  | some k => exact ⟨k, Kind.ofCode_eq_some.1 hn⟩

theorem labelFits_iff {label : List Byte} :
    labelFits label = true ↔ ∀ x ∈ label, 0x20 ≤ x.toNat ∧ x.toNat ≤ 0x7E := by simp [labelFits, inRange_iff]

/-- The fields a Set Class carries are in their ranges (step 1 of R3): those besides the state are checked only where the
record is not carried UNUSED. -/
def FieldsFit (st kind d g sl b : Nat) (label : List Byte) : Prop :=
  st ≤ 2 ∧ (st ≠ 0 → kind ≤ 2 ∧ d ≤ 99999 ∧ g ≤ 100 ∧ (∀ x ∈ label, 0x20 ≤ x.toNat ∧ x.toNat ≤ 0x7E) ∧
    (kind = 0 → sl ≤ 24 ∧ b ≤ 999))

/-- The record a Set Class of a named state and kind stores once its fields have passed (R4). -/
def ClassRecord.corrected (st : ClassState) (k : Kind) (d f g sl b : Nat) (label : List Byte) : ClassRecord :=
  if st = .unused then ClassRecord.zero
  else { state := st, kind := k, deposit := d, foreign := min f d, damage := g,
         slots := if k = .crate then sl else 0, bottle := if k = .crate then b else 0, label := label }

@[simp] theorem ClassRecord.corrected_state (st : ClassState) (k : Kind) (d f g sl b : Nat) (label : List Byte) :
    (ClassRecord.corrected st k d f g sl b label).state = st := by
  unfold ClassRecord.corrected; split
  · exact Eq.symm ‹_›
  · rfl

theorem ClassRecord.corrected_kind {st : ClassState} (h : st ≠ .unused) (k : Kind) (d f g sl b : Nat) (label : List Byte) :
    (ClassRecord.corrected st k d f g sl b label).kind = k := by simp [ClassRecord.corrected, h]

/-- A record carried UNUSED is the zero record, whatever else is carried (R4). -/
theorem storedForm_unused (kind d f g sl b : Nat) (label : List Byte) :
    storedForm ClassState.unused.code kind d f g sl b label = some ClassRecord.zero := by simp [storedForm]

/-- A record carried ACTIVE or RETIRED with a named kind (R3, R4). -/
theorem storedForm_named {st : ClassState} (h : st ≠ .unused) (k : Kind) (d f g sl b : Nat) (label : List Byte) :
    storedForm st.code k.code d f g sl b label =
      if d ≤ 99999 ∧ g ≤ 100 ∧ labelFits label = true ∧ (k = .crate → sl ≤ 24 ∧ b ≤ 999) then
        some (ClassRecord.corrected st k d f g sl b label)
      else none := by
  cases st with
  | unused => contradiction
  | active | retired => simp [storedForm, ClassRecord.corrected, imp_iff_not_or, and_assoc]

/-- A state that is not named, or a record that is not UNUSED with a kind that is not named (R3). -/
theorem storedForm_unnamed {st kind : Nat} (h : 2 < st ∨ (st ≠ 0 ∧ 2 < kind)) (d f g sl b : Nat) (label : List Byte) :
    storedForm st kind d f g sl b label = none := by
  unfold storedForm; split
  next => rfl
  next hst => have := ClassState.ofCode_eq_some.1 hst; have := ClassState.code_eq_zero.2 rfl; omega
  next state hne hst =>
    have hle := ClassState.ofCode_eq_some.1 hst ▸ state.code_le
    have hkind : Kind.ofCode kind = none := Kind.ofCode_eq_none.2 (by simp only [Kind.names, List.length]; omega)
    rw [hkind]

/-- Fields that fit have the corrected form (R3, R4). -/
theorem storedForm_of_fits {st : ClassState} {k : Kind} {kind d g sl b : Nat} {label : List Byte}
    (hk : st ≠ .unused → kind = k.code) (h : FieldsFit st.code kind d g sl b label) (f : Nat) :
    storedForm st.code kind d f g sl b label = some (ClassRecord.corrected st k d f g sl b label) := by
  by_cases hst : st = .unused
  · rw [hst, storedForm_unused, ClassRecord.corrected, if_pos rfl]
  · obtain ⟨-, hd, hg, hl, hc⟩ := h.2 (mt ClassState.code_eq_zero.1 hst)
    rw [hk hst, Kind.code_eq_zero] at hc
    rw [hk hst, storedForm_named hst, if_pos ⟨hd, hg, labelFits_iff.2 hl, hc⟩]

/-- Fields of which one is out of range have none (R3). -/
theorem storedForm_of_not_fits {st kind d g sl b : Nat} {label : List Byte} (h : ¬FieldsFit st kind d g sl b label) (f : Nat) :
    storedForm st kind d f g sl b label = none := by
  have h0 : st ≠ 0 := fun h0 => h ⟨by omega, fun hne => absurd h0 hne⟩
  by_cases hnamed : st ≤ 2 ∧ kind ≤ 2
  · obtain ⟨hst, hkind⟩ := hnamed
    obtain ⟨state, rfl⟩ := ClassState.exists_code hst
    obtain ⟨k, rfl⟩ := Kind.exists_code hkind
    rw [storedForm_named (mt ClassState.code_eq_zero.2 h0), if_neg]
    rintro ⟨hd, hg, hl, hc⟩
    exact h ⟨hst, fun _ => ⟨hkind, hd, hg, labelFits_iff.1 hl, fun hk => hc (Kind.code_eq_zero.1 hk)⟩⟩
  · exact storedForm_unnamed (by omega) ..

/-! ### The in-use test (R5, R6) -/

theorem vector_any_iff {α : Type} {n : Nat} {p : α → Bool} {v : Vector α n} :
    v.toList.any p = true ↔ ∃ i : Fin n, p v[i] = true := by
  simp [Vector.any_toList, Vector.any_eq_true, Fin.exists_iff]

theorem State.classInUse_iff {c : ClassId} {s : State} : s.classInUse c = true ↔
    (∃ t ∈ s.tickets, ∃ l ∈ t.lines, l.cls = c) ∨ (∃ a : AccountId, s.accounts[a].outstanding[c] ≠ 0) ∨
      ∃ i : PulseIx, s.pulse[i].enabled = true ∧ s.pulse[i].cls = c := by
  simp only [State.classInUse, Bool.or_eq_true, vector_any_iff, or_assoc]
  simp

theorem State.breaksInUse_iff {c : ClassId} {r : ClassRecord} {s : State} : s.breaksInUse c r = true ↔
    s.classInUse c = true ∧ (r.state = .unused ∨ (s.classes[c].state ≠ .unused ∧ r.kind ≠ s.classes[c].kind)) := by
  simp [State.breaksInUse]

/-- The in-use rule over what a Set Class stores: the kind counts only where the record is not carried UNUSED (R6). -/
theorem State.breaksInUse_corrected_iff {c : ClassId} {st : ClassState} {k : Kind} {d f g sl b : Nat} {label : List Byte}
    {s : State} : s.breaksInUse c (ClassRecord.corrected st k d f g sl b label) = true ↔
      s.classInUse c = true ∧ (st = .unused ∨ (s.classes[c].state ≠ .unused ∧ k ≠ s.classes[c].kind)) := by
  rw [State.breaksInUse_iff, ClassRecord.corrected_state]
  by_cases hst : st = .unused
  · simp [hst]
  · rw [ClassRecord.corrected_kind hst]

/-! ### The pending change list (R9, R14) -/

theorem hasChange_iff {c : ClassId} {es : List PendingChange} : hasChange c es = true ↔ ∃ e ∈ es, e.cls = c := by
  simp [hasChange]

theorem hasChange_eq_false_iff {c : ClassId} {es : List PendingChange} : hasChange c es = false ↔ ∀ e ∈ es, e.cls ≠ c := by
  simp [hasChange]

theorem mem_removeChange {c : ClassId} {e : PendingChange} {es : List PendingChange} :
    e ∈ removeChange c es ↔ e ∈ es ∧ e.cls ≠ c := by simp [removeChange]

/-- A class without a pending entry shows none. -/
theorem pendingView_eq_none {c : ClassId} {es : List PendingChange} (h : ∀ e ∈ es, e.cls ≠ c) (place : Nat) :
    pendingView c es place = none := by
  induction es generalizing place with
  | nil => rfl
  | cons e es ih =>
    rw [pendingView, if_neg (h e (.head _))]
    exact ih (fun x hx => h x (.tail _ hx)) _

/-- The entry shown stands behind those of other classes, and its place counts them (R14). -/
theorem pendingView_append {before : List PendingChange} {e : PendingChange} (h : ∀ x ∈ before, x.cls ≠ e.cls)
    (behind : List PendingChange) (place : Nat) :
    pendingView e.cls (before ++ e :: behind) place =
      some { record := e.record, day := e.day, second := e.second, place := before.length + place } := by
  induction before generalizing place with
  | nil => simp [pendingView]
  | cons x before ih =>
    rw [List.cons_append, pendingView, if_neg (h x (.head _)), ih fun y hy => h y (.tail _ hy)]
    simp [Nat.add_assoc, Nat.add_comm 1]

/-- In a list in order, a new entry goes behind every entry that is not later and before every later one (R9). -/
theorem insertChange_split (e : PendingChange) {es : List PendingChange} (h : es.Pairwise PendingChange.notLater) :
    ∃ before behind, before ++ behind = es ∧ (∀ x ∈ before, x.notLater e) ∧
      (∀ x ∈ behind, e.day < x.day ∨ (e.day = x.day ∧ e.second < x.second)) ∧
      insertChange e es = before ++ e :: behind := by
  induction es with
  | nil => exact ⟨[], [], rfl, by simp, by simp, rfl⟩
  | cons x xs ih =>
    obtain ⟨hx, hxs⟩ := List.pairwise_cons.1 h
    by_cases hle : x.notLater e
    · obtain ⟨before, behind, rfl, hb, hl, hi⟩ := ih hxs
      refine ⟨x :: before, behind, rfl, List.forall_mem_cons.2 ⟨hle, hb⟩, hl, ?_⟩
      rw [insertChange, if_pos (timeLe_iff.2 hle), hi, List.cons_append]
    · refine ⟨[], x :: xs, rfl, by simp, fun y hy => ?_, by rw [insertChange, if_neg (mt timeLe_iff.1 hle), List.nil_append]⟩
      have hxy : x.notLater y := by
        rcases List.mem_cons.1 hy with rfl | hy
        · exact .inr ⟨rfl, Nat.le_refl _⟩
        · exact hx y hy
      simp only [PendingChange.notLater] at hle hxy
      omega

/-! ### Applying due entries (R11, R12) -/

theorem State.applyChange_changes (e : PendingChange) (rest : List PendingChange) (s : State) :
    (s.applyChange e rest).changes = rest := by unfold State.applyChange; split <;> rfl

theorem State.applyChange_drops {e : PendingChange} {s : State} (h : s.breaksInUse e.cls e.record = true)
    (rest : List PendingChange) :
    s.applyChange e rest = { s with changes := rest, office := s.office.place .changeDropped } := by
  rw [State.applyChange, if_pos h]; rfl

theorem State.applyChange_sets {e : PendingChange} {s : State} (h : ¬s.breaksInUse e.cls e.record = true)
    (rest : List PendingChange) :
    s.applyChange e rest = { s with changes := rest, classes := s.classes.set e.cls.val e.record e.cls.isLt } := by
  rw [State.applyChange, if_neg h]; rfl

theorem State.applyDue_nil {s : State} (h : s.changes = []) : s.applyDue = s := by
  rw [State.applyDue, h]; rfl

theorem State.applyDue_cons {e : PendingChange} {rest : List PendingChange} {s : State} (h : s.changes = e :: rest) :
    s.applyDue = if s.clock.reached e.day e.second then (s.applyChange e rest).applyDue else s := by
  rw [State.applyDue, State.applyDue, State.applyChange_changes, h, List.length_cons, State.applyDueN, h]

/-! ### Set Class and Cancel Change (R3, R7 to R10) -/

theorem setClassChecked_breaks {c : ClassId} {r : ClassRecord} {s : State} (h : s.breaksInUse c r = true)
    (eff : Option (Nat × Nat)) : setClassChecked c r eff s = refuse .classInUse s := if_pos h

/-- A change that takes effect now, or is dated for a time the clock has reached (R7, R8). -/
theorem setClassChecked_now {c : ClassId} {r : ClassRecord} {eff : Option (Nat × Nat)} {s : State}
    (h : ¬s.breaksInUse c r = true) (hnow : ∀ day second, eff = some (day, second) → s.clock.reached day second = true) :
    setClassChecked c r eff s = okay ((s.setClassRecord c r).classBody c) (s.setClassRecord c r) := by
  rcases eff with _ | ⟨day, second⟩
  · simp [setClassChecked, h]
  · simp [setClassChecked, h, hnow day second rfl]

theorem setClassChecked_full {c : ClassId} {r : ClassRecord} {day second : Nat} {s : State}
    (h : ¬s.breaksInUse c r = true) (hlater : s.clock.reached day second = false) (hnone : hasChange c s.changes = false)
    (hfull : 8 ≤ s.changes.length) : setClassChecked c r (some (day, second)) s = refuse .listFull s := by
  simp [setClassChecked, h, hlater, hnone, hfull]

/-- The class shows the record it has been given, and its pending entry as it was (R7, R14). -/
theorem State.setClassRecord_classBody (c : ClassId) (r : ClassRecord) (s : State) : (s.setClassRecord c r).classBody c =
    .cls c.val r ((s.setClassRecord c r).classInUse c) (pendingView c s.changes 1) := by
  simp [State.classBody]

/-- A change dated for later is put into the list (R9). -/
theorem setClassChecked_later {c : ClassId} {r : ClassRecord} {day second : Nat} {s : State}
    (h : ¬s.breaksInUse c r = true) (hlater : s.clock.reached day second = false)
    (hroom : s.changes.length < 8 ∨ hasChange c s.changes = true) :
    let t : State := { s with
      changes := insertChange { cls := c, record := r, day := day, second := second } (removeChange c s.changes) }
    setClassChecked c r (some (day, second)) s = okay (t.classBody c) t := by
  have : (!hasChange c s.changes && decide (s.changes.length ≥ Config.changeSlots)) = false := by
    rcases hroom with hroom | hroom <;> simp [hroom]
  simp [setClassChecked, h, hlater, this]

/-- Where it waits in a list in order, and what the class shows then (R9, R14). -/
theorem setClassChecked_waits {c : ClassId} {r : ClassRecord} {day second : Nat} {s : State}
    (hord : s.changes.Pairwise PendingChange.notLater) (h : ¬s.breaksInUse c r = true)
    (hlater : s.clock.reached day second = false) (hroom : s.changes.length < 8 ∨ hasChange c s.changes = true) :
    ∃ before behind, before ++ behind = removeChange c s.changes ∧
      (∀ e ∈ before, e.day < day ∨ (e.day = day ∧ e.second ≤ second)) ∧
      (∀ e ∈ behind, day < e.day ∨ (day = e.day ∧ second < e.second)) ∧
      setClassChecked c r (some (day, second)) s =
        okay (.cls c.val s.classes[c] (s.classInUse c)
            (some { record := r, day := day, second := second, place := before.length + 1 }))
          { s with changes := before ++ { cls := c, record := r, day := day, second := second } :: behind } := by
  obtain ⟨before, behind, hsplit, hbefore, hbehind, hins⟩ :=
    insertChange_split { cls := c, record := r, day := day, second := second } (hord.filter fun e => e.cls != c)
  have hother : ∀ x ∈ before, x.cls ≠ c := fun x hx => by
    have hmem : x ∈ removeChange c s.changes := by rw [removeChange, ← hsplit]; exact List.mem_append_left _ hx
    exact (mem_removeChange.1 hmem).2
  have hview := pendingView_append (e := { cls := c, record := r, day := day, second := second }) hother behind 1
  refine ⟨before, behind, hsplit, hbefore, hbehind, ?_⟩
  rw [setClassChecked_later h hlater hroom, removeChange, hins, State.classBody, hview]
  rfl

/-- A Set Class that passes step 1 of R3 goes on to the in-use rule and its time. -/
theorem setClass_checked (c : ClassId) {st : ClassState} {k : Kind} {kind d g sl b : Nat} {label : List Byte}
    {eff : Option (Nat × Nat)} (hk : st ≠ .unused → kind = k.code) (h : FieldsFit st.code kind d g sl b label)
    (heff : effectiveFits eff = true) (f : Nat) (s : State) :
    setClass c.val st.code kind d f g sl b label eff s =
      setClassChecked c (ClassRecord.corrected st k d f g sl b label) eff s := by
  simp [setClass, storedForm_of_fits hk h, heff]

/-- The same, for the codes carried: some record of some class goes on, and whether it breaks the in-use rule is read off the
codes (R3, R6). -/
theorem setClass_of_fits {cls st kind d g sl b : Nat} {label : List Byte} {eff : Option (Nat × Nat)} (hcls : cls ≤ 15)
    (hfit : FieldsFit st kind d g sl b label) (heff : effectiveFits eff = true) (f : Nat) (s : State) :
    ∃ (c : ClassId) (r : ClassRecord), c.val = cls ∧
      (s.breaksInUse c r = true ↔ s.classInUse c = true ∧
        (st = 0 ∨ (s.classes[c].state ≠ .unused ∧ kind ≠ s.classes[c].kind.code))) ∧
      setClass cls st kind d f g sl b label eff s = setClassChecked c r eff s := by
  obtain ⟨state, rfl⟩ := ClassState.exists_code hfit.1
  obtain ⟨k, hk⟩ : ∃ k : Kind, state ≠ .unused → kind = k.code := by
    by_cases hu : state = .unused
    · exact ⟨.crate, fun h => absurd hu h⟩
    · obtain ⟨k, hk⟩ := Kind.exists_code (hfit.2 (mt ClassState.code_eq_zero.1 hu)).1
      exact ⟨k, fun _ => hk.symm⟩
  refine ⟨⟨cls, by omega⟩, _, rfl, ?_, setClass_checked ⟨cls, by omega⟩ hk hfit heff f s⟩
  rw [State.breaksInUse_corrected_iff, ClassState.code_eq_zero]
  by_cases hu : state = .unused
  · simp [hu]
  · rw [hk hu, ne_eq k.code, Kind.code_inj]

/-- Step 1 of R3. -/
theorem setClass_badValue {cls st kind d g sl b : Nat} {label : List Byte} {eff : Option (Nat × Nat)}
    (h : ¬(cls ≤ 15 ∧ FieldsFit st kind d g sl b label ∧ effectiveFits eff = true)) (f : Nat) (s : State) :
    setClass cls st kind d f g sl b label eff s = refuse .badValue s := by
  unfold setClass; split
  next c r hc hr =>
    have hcls : cls ≤ 15 := by have := classOf_eq_some.1 hc; omega
    have hfit : FieldsFit st kind d g sl b label := by
      by_contra hn; rw [storedForm_of_not_fits hn] at hr; cases hr
    exact if_neg fun heff => h ⟨hcls, hfit, heff⟩
  next => rfl

theorem cancelChange_none {c : ClassId} {s : State} (h : ∀ e ∈ s.changes, e.cls ≠ c) :
    cancelChange c.val s = refuse .wrongState s := by
  simp [cancelChange, hasChange_eq_false_iff.2 h]

/-- The entry leaves, and the class then shows none (R10). -/
theorem cancelChange_removes {c : ClassId} {s : State} (h : ∃ e ∈ s.changes, e.cls = c) :
    cancelChange c.val s = okay (.cls c.val s.classes[c] (s.classInUse c) none)
      { s with changes := removeChange c s.changes } := by
  have hview : pendingView c (removeChange c s.changes) 1 = none :=
    pendingView_eq_none (fun e he => (mem_removeChange.1 he).2) 1
  simp only [cancelChange, classOf_val, hasChange_iff.2 h, if_true, State.classBody, hview]
  rfl

end Sys2Proof.Machine
end

section
/-! SUPPORT. The statements about the deposit schedule (Section 1), and the reads of the office's books. -/

namespace Sys2Proof.Machine

theorem ReqName.rsta_permitted (p : Port) : ReqName.rsta.permitted p = true := by cases p <;> rfl
theorem ReqName.rtkt_permitted (p : Port) : ReqName.rtkt.permitted p = true := by cases p <;> rfl
theorem ReqName.rcls_permitted (p : Port) : ReqName.rcls.permitted p = true := by cases p <;> rfl

theorem State.waitSeconds_eq (t : Ticket) (s : State) : s.waitSeconds t =
    if t.state = .closing then some ((t.closeDeadline.getD s.now - s.now) / 1000) else none := by
  unfold State.waitSeconds State.closeWaitLeft; cases t.closeDeadline <;> simp

theorem readTicket_found {n : Nat} {t : Ticket} {s : State} (hn : n ≠ 0) (h : s.ticket? n = some t) :
    readTicket n s = okay (.ticket t
      (if t.state = .closing then some ((t.closeDeadline.getD s.now - s.now) / 1000) else none)) s := by
  simp [readTicket, hn, h, State.waitSeconds_eq]

theorem readTicket_unknown {n : Nat} {s : State} (hn : n ≠ 0) (h : s.ticket? n = none) :
    readTicket n s = refuse .unknownTicket s := by simp [readTicket, hn, h]

theorem readClass_known (c : ClassId) (s : State) : readClass c.val s = okay (s.classBody c) s := by simp [readClass]

theorem readClass_unknown {k : Nat} (h : 15 < k) (s : State) : readClass k s = refuse .badValue s := by
  simp [readClass, classOf_eq_none.2 h]

/-- Settles O7: each read's block answers the state it was given, so that only the reply is new. -/
theorem readsShowTheRecordsUnchanged : Obligations.ReadsShowTheRecordsUnchanged := by
  intro p s hp
  refine ⟨request_answers hp (ReqName.rsta_permitted p) _ rfl, request_answers hp (ReqName.rtkt_permitted p) _ rfl,
    fun n hn => ⟨?_, ?_⟩, ?_, ?_⟩
  · exact fun t ht => request_answers hp (ReqName.rtkt_permitted p) _ (readTicket_found hn ht)
  · exact fun ht => request_answers hp (ReqName.rtkt_permitted p) _ (readTicket_unknown hn ht)
  · exact fun c => request_answers hp (ReqName.rcls_permitted p) _ (readClass_known c s)
  · exact fun k hk => request_answers hp (ReqName.rcls_permitted p) _ (readClass_unknown hk s)

/-- Settles O10: a record that passes its checks goes to the class at once, or to its place in the pending list. -/
theorem setClassTakesEffect : Obligations.SetClassTakesEffect := by
  intro c st k kind d f g sl b label eff s hp hinv hfields huse heff
  have hfit : FieldsFit st.code kind d g sl b label := by
    refine ⟨st.code_le, fun hst => ?_⟩
    obtain ⟨rfl, hd, hg, hl, hc⟩ := hfields (mt ClassState.code_eq_zero.2 hst)
    exact ⟨k.code_le, hd, hg, hl, fun hk => hc (Kind.code_eq_zero.1 hk)⟩
  have hset : ∀ a, setClassChecked c (ClassRecord.corrected st k d f g sl b label) eff s = a →
      setClass c.val st.code kind d f g sl b label eff s = a := fun a h =>
    (setClass_checked c (fun hst => (hfields hst).1) hfit (effectiveFits_iff.2 heff) f s).trans h
  have hbreaks : ¬s.breaksInUse c (ClassRecord.corrected st k d f g sl b label) = true := by
    rw [State.breaksInUse_corrected_iff]
    rintro ⟨hin, hst | ⟨hne, hk⟩⟩
    · exact (huse hin).1 hst
    · exact hk ((huse hin).2 hne)
  refine ⟨fun hnow => ?_, fun day second he hlater hroom => ?_⟩
  · have hok := hset _ (setClassChecked_now hbreaks fun day second he => YardClock.reached_iff.2 (hnow day second he))
    rw [State.setClassRecord_classBody] at hok
    exact request_answers hp rfl _ hok
  · subst he
    have hafter : s.clock.reached day second = false := YardClock.not_reached_iff.2 (by omega)
    obtain ⟨before, behind, hsplit, hbefore, hbehind, hwaits⟩ :=
      setClassChecked_waits hinv.inOrder hbreaks hafter (hroom.imp_right hasChange_iff.2)
    exact ⟨before, behind, hsplit, hbefore, hbehind, request_answers hp rfl _ (hset _ hwaits)⟩

/-- Settles O11: what is not bad goes on as one record of one class, whose in-use rule and time decide the rest. -/
theorem setClassChecksInOrder : Obligations.SetClassChecksInOrder := by
  intro cls st kind d f g sl b label eff s hp i bad breaks later refusedWith
  have hbad : bad ↔ ¬(cls ≤ 15 ∧ FieldsFit st kind d g sl b label ∧ effectiveFits eff = true) := by
    rw [effectiveFits_iff]
    simp only [bad, FieldsFit]
    grind
  have hgood : ¬bad → ∃ (c : ClassId) (r : ClassRecord), c.val = cls ∧ (s.breaksInUse c r = true ↔ breaks) ∧
      setClass cls st kind d f g sl b label eff s = setClassChecked c r eff s := fun h => by
    obtain ⟨hcls, hfit, heff⟩ := Classical.not_not.1 (mt hbad.2 h)
    obtain ⟨c, r, rfl, hb, hset⟩ := setClass_of_fits hcls hfit heff f s
    exact ⟨c, r, rfl, hb.trans ⟨fun h => ⟨c, rfl, h⟩, fun ⟨c', hc, h⟩ => Fin.ext hc ▸ h⟩, hset⟩
  refine ⟨fun h => request_answers hp rfl _ (setClass_badValue (hbad.1 h) f s), fun h hb => ?_, ?_, fun h hb hroom => ?_⟩
  · obtain ⟨c, r, -, hbr, hset⟩ := hgood h
    exact request_answers hp rfl _ (hset.trans (setClassChecked_breaks (hbr.2 hb) eff))
  · rintro h hb ⟨day, second, rfl, hlate⟩ hnone hfull
    obtain ⟨c, r, rfl, hbr, hset⟩ := hgood h
    have hother : hasChange c s.changes = false := hasChange_eq_false_iff.2 fun e he hc => hnone e he (hc ▸ rfl)
    exact request_answers hp rfl _ (hset.trans
      (setClassChecked_full (mt hbr.1 hb) (YardClock.not_reached_iff.2 hlate) hother hfull))
  · obtain ⟨c, r, rfl, hbr, hset⟩ := hgood h
    by_cases hlate : later
    · obtain ⟨day, second, rfl, hl⟩ := id hlate
      have hplace : s.changes.length < 8 ∨ hasChange c s.changes = true :=
        (hroom hlate).symm.imp_right fun ⟨e, he, hc⟩ => hasChange_iff.2 ⟨e, he, Fin.ext hc⟩
      exact ⟨_, request_answers hp rfl _ (hset.trans
        (setClassChecked_later (mt hbr.1 hb) (YardClock.not_reached_iff.2 hl) hplace)), rfl⟩
    · have hnow : ∀ day second, eff = some (day, second) → s.clock.reached day second = true := fun day second he =>
        Bool.of_not_eq_false fun hr => hlate ⟨day, second, he, YardClock.not_reached_iff.1 hr⟩
      exact ⟨_, request_answers hp rfl _ (hset.trans (setClassChecked_now (mt hbr.1 hb) hnow)), rfl⟩

/-- Settles O12, by the presence of an entry in the list. -/
theorem cancelChangeRemovesThePendingEntry : Obligations.CancelChangeRemovesThePendingEntry := by
  refine fun k s hp => ⟨fun hk => ?_, ?_⟩
  · exact request_answers hp rfl _ (show cancelChange k s = refuse .badValue s by simp [cancelChange, classOf_eq_none.2 hk])
  · rintro c rfl
    exact ⟨fun h => request_answers hp rfl _ (cancelChange_none h), fun h => request_answers hp rfl _ (cancelChange_removes h)⟩

/-- Settles O56: applying the head leaves the rest of the list, which is applied in turn. -/
theorem dueChangesAreApplied : Obligations.DueChangesAreApplied := by
  refine ⟨fun s => ⟨State.applyDue_nil, fun e rest hs => ⟨fun hdue => ?_, fun hdue hb => ?_, fun hdue hb => ?_⟩⟩,
    fun c s => State.classInUse_iff⟩
  · rw [State.applyDue_cons hs, if_neg (mt YardClock.reached_iff.1 hdue)]
  · rw [State.applyDue_cons hs, if_pos (YardClock.reached_iff.2 hdue),
      State.applyChange_drops (State.breaksInUse_iff.2 hb)]
  · rw [State.applyDue_cons hs, if_pos (YardClock.reached_iff.2 hdue),
      State.applyChange_sets (mt State.breaksInUse_iff.1 hb)]

end Sys2Proof.Machine
end

section
/-! SUPPORT. The account table (Section 2), said once: the checks every account request begins with, what an account shows after
its record is replaced, the deletion test, and what each request of the section answers. -/

namespace Sys2Proof.Machine

/-! ### The checks of R21 -/

theorem onAccount_walkIn {a : AccountId} (h : a.val = 0) (block : Account → Answer) (s : State) :
    onAccount a block s = refuse .walkIn s := if_pos h

theorem onAccount_unknown {a : AccountId} {s : State} (h : a.val ≠ 0) (hu : s.accounts[a].state = .unused)
    (block : Account → Answer) : onAccount a block s = refuse .unknownAccount s := by
  rw [onAccount, if_neg h, if_pos hu]

theorem onAccount_made {a : AccountId} {s : State} (h : a.val ≠ 0) (hm : s.accounts[a].state ≠ .unused)
    (block : Account → Answer) : onAccount a block s = block s.accounts[a] := by
  rw [onAccount, if_neg h, if_neg hm]

/-- Every request that begins with the checks of R21 is refused the same way, whatever it would go on to do. -/
theorem request_refusesAccount {a : AccountId} {s : State} (hp : s.receiving .accounts) {n : ReqName}
    (hn : n.permitted .accounts = true) (i : Instr) {block : State → Answer} {made : Account → Answer}
    (hb : block s = onAccount a made s) :
    (a.val = 0 → request Port.accounts.sent i n block s = .next (s.answered .accounts i (n.reply .walkIn .none))) ∧
    (a.val ≠ 0 → s.accounts[a].state = .unused →
      request Port.accounts.sent i n block s = .next (s.answered .accounts i (n.reply .unknownAccount .none))) :=
  ⟨fun h => request_answers hp hn i (hb.trans (onAccount_walkIn h made s)),
    fun h hu => request_answers hp hn i (hb.trans (onAccount_unknown h hu made))⟩

/-! ### What an account shows (R25, R35) -/

theorem State.setAccount_accounts_same (a : AccountId) (r : Account) (s : State) : (s.setAccount a r).accounts[a] = r := by simp

theorem State.setAccount_accountBody (a : AccountId) (r : Account) (s : State) :
    (s.setAccount a r).accountBody a = .account a r (s.ticketsOf a) := by
  rw [State.accountBody, State.setAccount_accounts_same]; rfl

theorem State.setAccount_floatBody (a : AccountId) (r : Account) (c : ClassId) (s : State) :
    (s.setAccount a r).floatBody a c = .float c.val r.outstanding[c] r.saturated := by
  rw [State.floatBody, State.setAccount_accounts_same]

theorem State.ticketsOf_eq_zero {a : AccountId} {s : State} : s.ticketsOf a = 0 ↔ ¬∃ t ∈ s.tickets, t.account = a := by
  simp [State.ticketsOf]

/-! ### Make Account, Set Account State and the deletion (R22 to R24) -/

theorem makeAccount_walkIn {a : AccountId} (h : a.val = 0) (customer : Nat) (s : State) :
    makeAccount a customer s = refuse .walkIn s := if_pos h

/-- Past its own refusals of the operands, Make Account depends on the state of the account alone (R22). -/
theorem makeAccount_checked {a : AccountId} {customer : Nat} (h : a.val ≠ 0) (hc : customer ≤ 4294967295) (s : State) :
    makeAccount a customer s =
      if s.accounts[a].state ≠ .unused then refuse .wrongState s
      else okay (.account a { Account.empty with state := .active, customer := customer } (s.ticketsOf a))
        (s.setAccount a { Account.empty with state := .active, customer := customer }) := by
  rw [makeAccount, if_neg h, if_neg (Nat.not_lt.2 hc)]
  simp only [State.setAccount_accountBody]

/-- What keeps an account from being deleted (R24). -/
theorem State.accountBusy_iff {a : AccountId} {s : State} : s.accountBusy a = true ↔
    (∃ c : ClassId, s.accounts[a].outstanding[c] ≠ 0) ∨ s.accounts[a].credit ≠ 0 ∨ ∃ t ∈ s.tickets, t.account = a := by
  simp only [State.accountBusy, Bool.or_eq_true, vector_any_iff, bne_iff_ne, or_assoc, ne_eq, State.ticketsOf_eq_zero,
    Classical.not_not]

theorem deleteAccount_busy {a : AccountId} {s : State} (h : a.val ≠ 0) (hm : s.accounts[a].state ≠ .unused)
    (hbusy : s.accountBusy a = true) : deleteAccount a s = refuse .busy s := by
  rw [deleteAccount, onAccount_made h hm, if_pos hbusy]

theorem deleteAccount_empties {a : AccountId} {s : State} (h : a.val ≠ 0) (hm : s.accounts[a].state ≠ .unused)
    (hfree : ¬s.accountBusy a = true) :
    deleteAccount a s = okay (.account a Account.empty 0) (s.setAccount a Account.empty) := by
  have hnone : s.ticketsOf a = 0 :=
    State.ticketsOf_eq_zero.2 fun ht => hfree (State.accountBusy_iff.2 (.inr (.inr ht)))
  rw [deleteAccount, onAccount_made h hm, if_neg hfree]
  simp only [State.setAccount_accountBody, hnone]

theorem setAccountState_badValue {a : AccountId} {k : Nat} {s : State} (h : a.val ≠ 0)
    (hm : s.accounts[a].state ≠ .unused) (hk : 2 < k) : setAccountState a k s = refuse .badValue s := by
  rw [setAccountState, onAccount_made h hm, AccountState.ofCode_eq_none.2 hk]

theorem setAccountState_sets {a : AccountId} {st : AccountState} {s : State} (h : a.val ≠ 0)
    (hm : s.accounts[a].state ≠ .unused) (hst : st ≠ .unused) :
    setAccountState a st.code s = okay (.account a { s.accounts[a] with state := st } (s.ticketsOf a))
      (s.setAccount a { s.accounts[a] with state := st }) := by
  rw [setAccountState, onAccount_made h hm, AccountState.ofCode_code, ← State.setAccount_accountBody]
  cases st with
  | unused => exact absurd rfl hst
  | active => rfl
  | blocked => rfl

/-! ### Issue (R25) -/

theorem issue_badValue {a : AccountId} {k n : Nat} {s : State} (h : a.val ≠ 0) (hm : s.accounts[a].state ≠ .unused)
    (hbad : 15 < k ∨ n = 0 ∨ 9999 < n) : issue a k n s = refuse .badValue s := by
  rw [issue, onAccount_made h hm]
  cases hc : classOf k with
  | none => rfl
  | some c =>
    have hk : c.val = k := classOf_eq_some.1 hc
    have hn : ¬inRange 1 9999 n = true := by rw [inRange_iff]; omega
    simp [hn]

section
variable {a : AccountId} {c : ClassId} {n : Nat} {s : State} (h : a.val ≠ 0) (hm : s.accounts[a].state ≠ .unused)
  (hn : inRange 1 9999 n = true)
include h hm hn

theorem issue_unknownClass (hc : s.classes[c].state = .unused) : issue a c.val n s = refuse .unknownClass s := by
  rw [issue, onAccount_made h hm, classOf_val]
  simp [hn, hc, -Fin.getElem_fin]

theorem issue_retired (hc : s.classes[c].state = .retired) : issue a c.val n s = refuse .classRetired s := by
  rw [issue, onAccount_made h hm, classOf_val]
  simp [hn, hc, -Fin.getElem_fin]

/-- The count grows, and the reply shows it as it has grown (R25). -/
theorem issue_grows (hc : s.classes[c].state = .active) :
    issue a c.val n s = okay (.float c.val (s.accounts[a].grow c n).outstanding[c] (s.accounts[a].grow c n).saturated)
      (s.setAccount a (s.accounts[a].grow c n)) := by
  rw [issue, onAccount_made h hm, classOf_val, ← State.setAccount_floatBody a _ c s]
  simp [hn, hc, -Fin.getElem_fin]

end

/-- What has grown is the one count, up to its limit, and the flag with it when the limit is passed (R25). -/
theorem Account.grow_count (c : ClassId) (n : Nat) (r : Account) :
    (r.grow c n).outstanding[c] = min 65535 (r.outstanding[c] + n) := by
  rw [Account.grow_eq]; exact (Account.setCount_outstanding c c _ r).trans (if_pos rfl)

/-! ### Adjust (R27) -/

/-- The clamp, by the side on which the sum leaves the range. -/
theorem adjusted_eq (count : Nat) (change : Int) : adjusted count change =
    if (count : Int) + change < 0 then 0 else if 65535 < (count : Int) + change then 65535
    else ((count : Int) + change).toNat := by
  unfold adjusted Config.countMax; split_ifs <;> omega

theorem adjust_badValue {a : AccountId} {k : Nat} {x : Int} {s : State} (h : a.val ≠ 0)
    (hm : s.accounts[a].state ≠ .unused) (hbad : 15 < k ∨ x < -9999 ∨ 9999 < x) : adjust a k x s = refuse .badValue s := by
  rw [adjust, onAccount_made h hm]
  cases hc : classOf k with
  | none => rfl
  | some c =>
    have hk : c.val = k := classOf_eq_some.1 hc
    have hx : x < -9999 ∨ 9999 < x := by omega
    simp [hx]

/-- Past the ranges of its operands, Adjust is refused for an UNUSED class only (R27). -/
theorem adjust_checked {a : AccountId} {x : Int} {s : State} (h : a.val ≠ 0) (hm : s.accounts[a].state ≠ .unused)
    (h1 : -9999 ≤ x) (h2 : x ≤ 9999) (c : ClassId) :
    adjust a c.val x s =
      if s.classes[c].state = .unused then refuse .unknownClass s
      else okay (.float c.val (adjusted s.accounts[a].outstanding[c] x) false) (s.setAccount a
        { s.accounts[a].setCount c (adjusted s.accounts[a].outstanding[c] x) with saturated := false }) := by
  have hx : ¬(x < -9999 ∨ 9999 < x) := by omega
  rw [adjust, onAccount_made h hm, classOf_val]
  simp [hx, State.setAccount_floatBody, Account.setCount]

/-! ### Collect and the yard residue counter (R28, R34) -/

theorem collect_checked {a : AccountId} {s : State} (h : a.val ≠ 0) (hm : s.accounts[a].state ≠ .unused) (x : Nat) :
    collect a x s =
      if x ≤ s.accounts[a].credit then
        okay (.money (s.accounts[a].credit - x)) (s.setAccount a (s.accounts[a].debit x))
      else { state := s, result := .mismatch, body := .money s.accounts[a].credit } := onAccount_made h hm _

end Sys2Proof.Machine
end

section
/-! SUPPORT. The statements about the account table (Section 2): each request's answer, put through its port. -/

namespace Sys2Proof.Machine

theorem ReqName.racc_permitted (p : Port) : ReqName.racc.permitted p = true := by cases p <;> rfl

/-- Settles O14: account 0 and an UNUSED account are turned away first, and every other account goes by its own record. -/
theorem accountsAreMadeReadAndDeleted : Obligations.AccountsAreMadeReadAndDeleted := by
  refine ⟨fun a customer s => ⟨fun p hp => ?_, fun hp hc => ⟨fun h => ?_, fun h hm => ?_, fun h hu => ?_⟩⟩,
    fun a s hp => ⟨fun h hm => ⟨fun st hst => ?_, fun k hk => ?_, fun hheld => ?_, fun hfree => ?_⟩, ?_⟩⟩
  · exact request_answers hp (ReqName.racc_permitted p) _ rfl
  · exact request_answers hp rfl _ (makeAccount_walkIn h customer s)
  · exact request_answers hp rfl _ ((makeAccount_checked h hc s).trans (if_pos hm))
  · exact request_answers hp rfl _ ((makeAccount_checked h hc s).trans (if_neg (Classical.not_not.2 hu)))
  · exact request_answers hp rfl _ (setAccountState_sets h hm hst)
  · exact request_answers hp rfl _ (setAccountState_badValue h hm hk)
  · exact request_answers hp rfl _ (deleteAccount_busy h hm (State.accountBusy_iff.2 hheld))
  · exact request_answers hp rfl _ (deleteAccount_empties h hm (mt State.accountBusy_iff.1 hfree))
  · rintro i (rfl | ⟨k, rfl⟩)
    · exact request_refusesAccount hp rfl _ rfl
    · exact request_refusesAccount hp rfl _ rfl

/-- Settles O15: account 0 and an UNUSED account are turned away first; then each request goes by its operands, the class, and
the count or balance it changes. -/
theorem issueAdjustCollectAndResidue : Obligations.IssueAdjustCollectAndResidue := by
  refine ⟨fun a k n change s hp x hx => ?_,
    fun a c n change s hp h hm => ⟨fun hc h1 h2 => ?_, fun hc h1 h2 => ?_, fun hc h1 h2 => ?_, fun k m hbad => ?_,
      fun hc h1 h2 => ?_, fun k x hbad => ?_, fun hc h1 h2 => ?_⟩,
    fun a x s hp => ⟨fun h hm => ⟨fun hx => ?_, fun hx => ?_⟩, fun hx => ?_, fun hx => ?_, ?_⟩⟩
  · simp only [List.mem_cons, List.not_mem_nil, or_false] at hx
    obtain rfl | rfl | rfl := hx
    · exact request_refusesAccount hp rfl _ rfl
    · exact request_refusesAccount hp rfl _ rfl
    · exact request_refusesAccount hp rfl _ rfl
  · have hok := issue_grows h hm (inRange_iff.2 ⟨h1, h2⟩) hc
    rw [Account.grow_count, Account.grow_eq] at hok
    exact request_answers hp rfl _ hok
  · have hok := (adjust_checked h hm h1 h2 c).trans (if_neg hc)
    rw [adjusted_eq] at hok
    exact request_answers hp rfl _ hok
  · exact request_answers hp rfl _ (issue_retired h hm (inRange_iff.2 ⟨h1, h2⟩) hc)
  · exact request_answers hp rfl _ (issue_badValue h hm hbad)
  · exact request_answers hp rfl _ (issue_unknownClass h hm (inRange_iff.2 ⟨h1, h2⟩) hc)
  · exact request_answers hp rfl _ (adjust_badValue h hm hbad)
  · exact request_answers hp rfl _ ((adjust_checked h hm h1 h2 c).trans (if_pos hc))
  · exact request_answers hp rfl _ ((collect_checked h hm x).trans (if_pos hx))
  · exact request_answers hp rfl _ ((collect_checked h hm x).trans (if_neg (Nat.not_le.2 hx)))
  · exact request_answers hp rfl _ (if_pos hx)
  · exact request_answers hp rfl _ (if_neg (Nat.not_le.2 hx))
  · exact request_answers hp rfl _ rfl

end Sys2Proof.Machine
end

section
/-! SUPPORT. Return tickets (Section 3), said once: the checks a ticket request begins with, the search for a ticket number, a
lane's coming and going, the float that a Reopen puts back, and the reasons a Release names. -/

namespace Sys2Proof.Machine

/-! ### The checks of R40 -/

theorem onTicket_unknown {n : Nat} {s : State} (h : s.ticket? n = none) (allowed : Ticket → Bool) (block : Ticket → Answer) :
    onTicket n allowed block s = refuse .unknownTicket s := by rw [onTicket, h]

theorem onTicket_taken {n : Nat} {t : Ticket} {s : State} (h : s.ticket? n = some t) {allowed : Ticket → Bool}
    (ha : allowed t = true) (block : Ticket → Answer) : onTicket n allowed block s = block t := by
  rw [onTicket, h]; exact if_pos ha

theorem onTicket_wrongState {n : Nat} {t : Ticket} {s : State} (h : s.ticket? n = some t) {allowed : Ticket → Bool}
    (ha : ¬allowed t = true) (block : Ticket → Answer) : onTicket n allowed block s = refuse .wrongState s := by
  rw [onTicket, h]; exact if_neg ha

/-- Every request that begins with the checks of R40 is refused the same way where its number names no ticket. -/
theorem request_refusesTicket {n : Nat} {s : State} (hp : s.receiving .office) (h : s.ticket? n = none) {q : ReqName}
    (hq : q.permitted .office = true) (i : Instr) {block : State → Answer} {allowed : Ticket → Bool}
    {taken : Ticket → Answer} (hb : block s = onTicket n allowed taken s) :
    request Port.office.sent i q block s = .next (s.answered .office i (q.reply .unknownTicket .none)) :=
  request_answers hp hq i (hb.trans (onTicket_unknown h allowed taken))

/-! ### The number an Open Ticket takes (R39) -/

theorem State.numberUsed_iff {n : Nat} {s : State} :
    s.numberUsed n = true ↔ (∃ t ∈ s.tickets, t.number = n) ∨ ∃ r ∈ s.log, r.number = n := by
  simp [State.numberUsed]

/-- The numbers go round from 65,535 to 1. -/
theorem nextTicketNumber_iterate {n : Nat} (h1 : 1 ≤ n) (h2 : n ≤ 65535) (k : Nat) :
    nextTicketNumber^[k] n = (n - 1 + k) % 65535 + 1 := by
  induction k with
  | zero => rw [Function.iterate_zero_apply]; omega
  | succ k ih =>
    rw [Function.iterate_succ_apply', ih, nextTicketNumber, Config.ticketNumberMax]
    split <;> omega

/-- The search passes over used numbers only, and what stops it before its fuel does is a number not in use. -/
theorem State.freeNumber_spec (s : State) (fuel n : Nat) : ∃ k ≤ fuel, s.freeNumber fuel n = nextTicketNumber^[k] n ∧
    (∀ j < k, s.numberUsed (nextTicketNumber^[j] n) = true) ∧
    (k < fuel → s.numberUsed (nextTicketNumber^[k] n) = false) := by
  induction fuel generalizing n with
  | zero => exact ⟨0, Nat.le_refl 0, rfl, by simp, by simp⟩
  | succ fuel ih =>
    by_cases hu : s.numberUsed n = true
    · obtain ⟨k, hk, hfree, hpassed, hstop⟩ := ih (nextTicketNumber n)
      refine ⟨k + 1, Nat.succ_le_succ hk, ?_, fun j hj => ?_, fun h => hstop (Nat.lt_of_succ_lt_succ h)⟩
      · rw [State.freeNumber, if_pos hu, hfree, Function.iterate_succ_apply]
      · cases j with
        | zero => exact hu
        | succ j => exact hpassed j (Nat.lt_of_succ_lt_succ hj)
    · refine ⟨0, Nat.zero_le _, ?_, by simp, fun _ => Bool.eq_false_of_not_eq_true hu⟩
      rw [State.freeNumber, if_neg hu, Function.iterate_zero_apply]

/-- Table and log hold at most 80 numbers, so one of 81 numbers in a row is free. -/
theorem State.exists_freeNumber {s : State} (hs : NumbersInv s) :
    ∃ j < 81, s.numberUsed (nextTicketNumber^[j] s.nextNumber) = false := by
  by_contra hall
  have hused : ∀ j < 81, s.numberUsed (nextTicketNumber^[j] s.nextNumber) = true := fun j hj =>
    Bool.of_not_eq_false fun h => hall ⟨j, hj, h⟩
  have hnodup : ((List.range 81).map fun j => nextTicketNumber^[j] s.nextNumber).Nodup := by
    refine List.nodup_range.map_on fun i hi j hj hij => ?_
    rw [List.mem_range] at hi hj
    rw [nextTicketNumber_iterate hs.next.1 hs.next.2, nextTicketNumber_iterate hs.next.1 hs.next.2] at hij
    omega
  have hsub : ((List.range 81).map fun j => nextTicketNumber^[j] s.nextNumber) ⊆
      s.tickets.map (·.number) ++ s.log.map (·.number) := by
    intro m hm
    obtain ⟨j, hj, rfl⟩ := List.mem_map.1 hm
    simpa using State.numberUsed_iff.1 (hused j (List.mem_range.1 hj))
  have hle := (List.subperm_of_subset hnodup hsub).length_le
  simp only [List.length_map, List.length_range, List.length_append] at hle
  have hroom := hs.room
  omega

/-- The number taken is the first one not in use, and it is found within the search (R39). -/
theorem State.takenNumber_first {s : State} (hs : NumbersInv s) : ∃ k < 81,
    s.takenNumber = nextTicketNumber^[k] s.nextNumber ∧ s.numberUsed s.takenNumber = false ∧
    ∀ j < k, s.numberUsed (nextTicketNumber^[j] s.nextNumber) = true := by
  obtain ⟨k, -, htaken, hpassed, hstop⟩ := s.freeNumber_spec Config.numberSearch s.nextNumber
  obtain ⟨j, hj, hfree⟩ := State.exists_freeNumber hs
  have hkj : k ≤ j := Nat.le_of_not_lt fun h => by simp [hpassed j h] at hfree
  have hk : k < 81 := Nat.lt_of_le_of_lt hkj hj
  exact ⟨k, hk, htaken, by rw [State.takenNumber, htaken]; exact hstop hk, hpassed⟩

/-! ### Open Ticket (R42) -/

theorem laneFits_iff {lane : Nat} : laneFits lane = true ↔ lane ≤ 9 := by simp [laneFits, Nat.lt_succ_iff]

theorem laneFits_eq_false {lane : Nat} : laneFits lane = false ↔ 9 < lane := by
  rw [← Bool.not_eq_true, laneFits_iff, Nat.not_le]

theorem lanesFit_iff {lanes : List Nat} :
    lanesFit lanes = true ↔ ¬(4 < lanes.length ∨ (∃ l ∈ lanes, 9 < l) ∨ ¬lanes.Nodup) := by
  simp [lanesFit, laneFits_iff, and_assoc]

/-- A lane of the list is attached to a ticket (R42). -/
theorem State.anyFeeding_iff {lanes : List Nat} {s : State} :
    (lanes.any fun l => (s.feeding l).isSome) = true ↔ ∃ l ∈ lanes, ¬s.laneFree l := by
  simp only [List.any_eq_true, State.feeding_isSome]

section
variable {a : AccountId} {lanes : List Nat} {s : State} (hm : s.accounts[a].state ≠ .unused)
include hm

theorem openTicket_badValue (h : ¬lanesFit lanes = true) : openTicket a lanes s = refuse .badValue s := by
  rw [openTicket, if_neg hm, if_pos (by simpa using h)]

variable (hf : lanesFit lanes = true)
include hf

theorem openTicket_laneBusy (h : ∃ l ∈ lanes, ¬s.laneFree l) : openTicket a lanes s = refuse .laneBusy s := by
  rw [openTicket, if_neg hm, if_neg (by simpa using hf), if_pos (State.anyFeeding_iff.2 h)]

/-- Past the lanes, Open Ticket depends on the room in the table alone. -/
theorem openTicket_checked (h : ¬∃ l ∈ lanes, ¬s.laneFree l) : openTicket a lanes s =
    if 16 ≤ s.tickets.length then refuse .tableFull s
    else okay (.ticketState s.takenNumber .opened)
      { s with tickets := s.tickets ++ [s.newTicket a lanes], nextNumber := nextTicketNumber s.takenNumber } := by
  rw [openTicket, if_neg hm, if_neg (by simpa using hf), if_neg (mt State.anyFeeding_iff.1 h)]
  rfl

end

/-! ### Attach Lane and Detach Lane (R43, R44) -/

theorem attachLane_badValue {lane : Nat} (h : 9 < lane) (n : Nat) (s : State) : attachLane n lane s = refuse .badValue s :=
  if_pos (by rw [laneFits_eq_false.2 h]; rfl)

/-- Past its lane number, Attach Lane begins with the checks of R40. -/
theorem attachLane_checked {lane : Nat} (h : lane ≤ 9) (n : Nat) (s : State) : attachLane n lane s =
    onTicket n (fun t => t.mayAttach lane) (fun t =>
      if (s.feeding lane).isSome then refuse .laneBusy s
      else if 4 ≤ t.attachments.length then refuse .listFull s
      else okay (.ticketState n t.state)
        (s.putTicket { t with attachments := t.attachments ++ [{ lane := lane, taken := 0 }] })) s :=
  if_neg (by rw [laneFits_iff.2 h]; decide)

theorem detachLane_badValue {lane : Nat} (h : 9 < lane) (n : Nat) (s : State) : detachLane n lane s = refuse .badValue s :=
  if_pos (by rw [laneFits_eq_false.2 h]; rfl)

/-- Past its lane number, Detach Lane begins with the checks of R40. -/
theorem detachLane_checked {lane : Nat} (h : lane ≤ 9) (n : Nat) (s : State) : detachLane n lane s =
    onTicket n Ticket.takesArrivals (fun t =>
      if !t.attached lane then refuse .noTicket s
      else okay (.detached n ((s.detachLane lane t).slotState n) (t.takenOn lane)) (s.detachLane lane t)) s :=
  if_neg (by rw [laneFits_iff.2 h]; decide)

/-- The entry of a lane shows that the lane is attached, and its count is the one answered. -/
theorem detachLane_attached {n lane : Nat} {t : Ticket} {e : Attachment} {s : State} (hl : lane ≤ 9)
    (ht : s.ticket? n = some t) (hst : t.state = .opened ∨ t.state = .closing)
    (he : t.attachments.find? (fun e => e.lane == lane) = some e) : detachLane n lane s =
      okay (.detached n ((s.detachLane lane t).slotState n) e.taken) (s.detachLane lane t) := by
  have hat : t.attached lane = true :=
    Ticket.attached_iff.2 ⟨e, List.mem_of_find?_eq_some he, by simpa using List.find?_some he⟩
  rw [detachLane_checked hl, onTicket_taken ht (Ticket.takesArrivals_iff.2 hst), hat, Ticket.takenOn_of he]
  rfl

@[simp] theorem Ticket.detach_number (lane : Nat) (t : Ticket) : (t.detach lane).number = t.number := rfl

/-- A ticket that stays OPEN, or keeps a station lane, only loses the entry (R44, R45). -/
theorem State.detachLane_keeps {lane : Nat} {t : Ticket}
    (h : t.state = .opened ∨ ∃ e ∈ (t.detach lane).attachments, e.lane ≤ 5) (s : State) : s.detachLane lane t = s.putTicket (t.detach lane) := by
  refine if_neg fun ⟨hc, hs⟩ => ?_
  rcases h with ho | ⟨e, he, hl⟩
  · exact absurd (ho.symm.trans hc) (by decide)
  · have hstation : (t.detach lane).hasStation = true := Ticket.hasStation_iff.2 ⟨e, he, Nat.lt_succ_of_le hl⟩
    simp [hstation] at hs

/-- A CLOSING ticket that keeps no station lane is valued (R44, R45, R49). -/
theorem State.detachLane_values {lane : Nat} {t : Ticket} (hc : t.state = .closing)
    (h : ∀ e ∈ (t.detach lane).attachments, 5 < e.lane) (s : State) :
    s.detachLane lane t = s.valueTicket false (t.detach lane) := by
  have hnone : ¬(t.detach lane).hasStation = true := fun hs => by
    obtain ⟨e, he, hl⟩ := Ticket.hasStation_iff.1 hs
    exact absurd (h e he) (by omega)
  exact if_pos ⟨hc, by simpa using hnone⟩

/-! ### Lane Done and Lane Query (R45, R91) -/

/-- In a grant a station's request is put for the lane of the grant (R67, R169). -/
theorem request_onGrantedLane {l : StationLane} {s t : State} {r : Result} {b : Body} {q : ReqName}
    {block : StationLane → State → Answer} (h : s.hears l) (hq : q.ofStation = true) (i : Instr)
    (hb : block l s = { state := t, result := r, body := b }) :
    request sentByStation i q (fun s => onGrantedLane (fun l => block l s) s) s =
      .next (t.answeredOnLane l (q.reply r b)) :=
  request_heard_answers h hq i (by rw [onGrantedLane, h.2]; exact hb)

theorem laneDone_free {l : StationLane} {s : State} (h : s.laneFree l.val) : laneDone l s = refuse .noTicket s := by
  rw [laneDone, State.feeding_eq_none.2 h]

theorem laneDone_feeding {l : StationLane} {t : Ticket} {e : Attachment} {s : State} (h : s.feeding l.val = some t)
    (he : t.attachments.find? (fun e => e.lane == l.val) = some e) :
    laneDone l s = okay (.laneDone t.number e.taken) (s.detachLane l.val t) := by
  rw [laneDone, h, ← Ticket.takenOn_of he]

theorem laneQuery_free {l : StationLane} {s : State} (h : s.laneFree l.val) : laneQuery l s = okay (.query none) s := by
  rw [laneQuery, State.feeding_eq_none.2 h]; rfl

theorem laneQuery_feeding {l : StationLane} {t : Ticket} {e : Attachment} {s : State} (h : s.feeding l.val = some t)
    (he : t.attachments.find? (fun e => e.lane == l.val) = some e) :
    laneQuery l s = okay (.query (some
      { number := t.number, state := t.state, taken := e.taken, waitSeconds := s.waitSeconds t })) s := by
  rw [laneQuery, h, ← Ticket.takenOn_of he]; rfl

/-! ### The float at a Reopen (R31, R32, R57) -/

theorem Ticket.byClass_eq (t : Ticket) (rs : List Nat) :
    t.byClass rs = (t.lines.zip rs).map fun p => (p.1.cls, p.2) := List.zip_map_left

theorem map_fst_zip_sublist {α β : Type} : ∀ (xs : List α) (ys : List β), ((xs.zip ys).map (·.1)).Sublist xs
  | [], _ => List.Sublist.refl []
  | x :: xs, [] => List.nil_sublist (x :: xs)
  | x :: xs, _ :: ys => (map_fst_zip_sublist xs ys).cons_cons x

/-- One line a class gives one reservation a class. -/
theorem Ticket.byClass_nodup {t : Ticket} (h : (t.lines.map (·.cls)).Nodup) (rs : List Nat) :
    ((t.byClass rs).map (·.1)).Nodup := h.sublist (map_fst_zip_sublist _ rs)

theorem State.restoreTicket_none {t : Ticket} (h : t.account.val = 0 ∨ t.reservation = none) (s : State) :
    s.restoreTicket t = s := by
  unfold State.restoreTicket
  split
  · rfl
  · next hr => exact if_pos (h.resolve_right (by simp [hr]))

theorem State.restoreTicket_reserved {t : Ticket} {rs : List Nat} (hr : t.reservation = some rs) (ha : t.account.val ≠ 0)
    (s : State) :
    s.restoreTicket t = s.setAccount t.account (restoreAll (t.byClass rs) s.accounts[t.account]) := by
  rw [State.restoreTicket, hr]; exact if_neg ha

/-- A restore leaves every other account as it was. -/
theorem State.restoreTicket_accounts_ne {t : Ticket} {b : AccountId} (h : b ≠ t.account) (s : State) :
    (s.restoreTicket t).accounts[b] = s.accounts[b] := by
  by_cases hnone : t.account.val = 0 ∨ t.reservation = none
  · rw [State.restoreTicket_none hnone]
  · obtain ⟨ha, hr⟩ := not_or.1 hnone
    obtain ⟨rs, hr⟩ := Option.ne_none_iff_exists'.1 hr
    have hval : t.account.val ≠ b.val := fun e => h (Fin.ext e.symm)
    rw [State.restoreTicket_reserved hr ha]
    simp [Vector.getElem_set_ne, hval]

/-- The ticket's account after a restore, line by line: each count grows by its line's reservation up to 65,535, and passing it
sets the saturated flag (R32). -/
theorem State.restoreTicket_account {t : Ticket} {rs : List Nat} (hr : t.reservation = some rs) (ha : t.account.val ≠ 0)
    (hn : (t.lines.map (·.cls)).Nodup) (s : State) :
    (∀ p ∈ t.lines.zip rs, (s.restoreTicket t).accounts[t.account].outstanding[p.1.cls] =
      min 65535 (s.accounts[t.account].outstanding[p.1.cls] + p.2)) ∧
    (∀ c : ClassId, (∀ p ∈ t.lines.zip rs, p.1.cls ≠ c) →
      (s.restoreTicket t).accounts[t.account].outstanding[c] = s.accounts[t.account].outstanding[c]) ∧
    ((s.restoreTicket t).accounts[t.account].saturated = true ↔ s.accounts[t.account].saturated = true ∨
      ∃ p ∈ t.lines.zip rs, 65535 < s.accounts[t.account].outstanding[p.1.cls] + p.2) ∧
    (s.restoreTicket t).accounts[t.account].state = s.accounts[t.account].state ∧
    (s.restoreTicket t).accounts[t.account].credit = s.accounts[t.account].credit ∧
    (s.restoreTicket t).accounts[t.account].customer = s.accounts[t.account].customer := by
  have hspec := restoreAll_spec (t.byClass rs) s.accounts[t.account] (Ticket.byClass_nodup hn rs)
  rw [State.restoreTicket_reserved hr ha, State.setAccount_accounts_same]
  rw [Ticket.byClass_eq] at hspec ⊢
  obtain ⟨hcount, hother, hstate, hcustomer, hcredit, hsat⟩ := hspec
  refine ⟨fun p hp => hcount _ (List.mem_map_of_mem hp), fun c hc => hother c ?_, ?_, hstate, hcredit, hcustomer⟩
  · simpa using fun l r hp => hc (l, r) hp
  · simpa only [List.mem_map, exists_exists_and_eq_and] using hsat

/-- Reservations that the counts cover come back whole (R31, R32). -/
theorem restoreAll_reserveAll {rs : List (ClassId × Nat)} {a : Account} (hn : (rs.map (·.1)).Nodup)
    (hcover : ∀ p ∈ rs, p.2 ≤ a.outstanding[p.1]) (hmax : ∀ c : ClassId, a.outstanding[c] ≤ 65535) :
    restoreAll rs (reserveAll rs a) = a := by
  obtain ⟨hout, hleft, hstate, hcustomer, hcredit, hsat⟩ := reserveAll_spec rs a hn
  obtain ⟨hback, hkept, hstate', hcustomer', hcredit', hsat'⟩ := restoreAll_spec rs (reserveAll rs a) hn
  have hsum : ∀ p ∈ rs, (reserveAll rs a).outstanding[p.1] + p.2 = a.outstanding[p.1] := fun p hp => by
    rw [hout p hp, Nat.sub_add_cancel (hcover p hp)]
  refine Account.ext_counts (fun c => ?_) (hstate'.trans hstate) (hcustomer'.trans hcustomer) (hcredit'.trans hcredit) ?_
  · by_cases hc : c ∈ rs.map (·.1)
    · obtain ⟨p, hp, rfl⟩ := List.mem_map.1 hc
      rw [hback p hp, hsum p hp, Nat.min_eq_right (hmax p.1)]
    · rw [hkept c hc, hleft c hc]
  · rw [Bool.eq_iff_iff, hsat', hsat]
    refine or_iff_left ?_
    rintro ⟨p, hp, hover⟩
    rw [hsum p hp] at hover
    exact absurd (hmax p.1) (by omega)

/-- The float covers what a line takes of it (R112). -/
theorem lineFigures_within (r : ClassRecord) (o : Nat) (l : Line) :
    (lineFigures r (some o) l).goodIn + (lineFigures r (some o) l).damagedIn ≤ o := by
  simp only [lineFigures, within, floatLeft, Option.map_some]
  omega

/-- The account covers the reservation of each line at its valuation (R110, R112, R116). -/
theorem State.reservation_covered {t : Ticket} {s : State} (ha : t.account.val ≠ 0) :
    ∀ p ∈ t.byClass ((s.ticketFigures t).map (reservedBy t.account)), p.2 ≤ s.accounts[t.account].outstanding[p.1] := by
  intro p hp
  rw [Ticket.byClass, State.ticketFigures, List.map_map, List.zip_map'] at hp
  obtain ⟨l, -, rfl⟩ := List.mem_map.1 hp
  simp only [Function.comp, reservedBy, if_neg ha, State.floatOf]
  exact lineFigures_within _ _ l

/-- What a number names after a valuation of its ticket is the valued ticket. -/
theorem State.valueTicket_ticket?_eq {forced : Bool} {t v : Ticket} {s : State}
    (h : (s.valueTicket forced t).ticket? t.number = some v) : v = s.valuedTicket forced t := by
  have hmem := State.ticket?_mem h
  rw [State.valueTicket_tickets] at hmem
  obtain ⟨u, -, rfl⟩ := List.mem_map.1 hmem
  by_cases hu : u.number = t.number
  · exact if_pos hu
  · rw [if_neg hu] at h
    exact absurd (State.ticket?_number h) hu

@[simp] theorem State.valuedTicket_account (forced : Bool) (t : Ticket) (s : State) :
    (s.valuedTicket forced t).account = t.account := rfl
@[simp] theorem State.valuedTicket_byClass (forced : Bool) (t : Ticket) (rs : List Nat) (s : State) :
    (s.valuedTicket forced t).byClass rs = t.byClass rs := rfl

/-- A valuation leaves its ticket's account with the reservations taken out (R31). -/
theorem State.valueTicket_account {t : Ticket} (ha : t.account.val ≠ 0) (forced : Bool) (s : State) :
    (s.valueTicket forced t).accounts[t.account] =
      reserveAll (t.byClass ((s.ticketFigures t).map (reservedBy t.account))) s.accounts[t.account] := by
  rw [State.valueTicket_accounts, if_neg ha]; exact Vector.getElem_set_self t.account.isLt

/-- The restore of a valuation brings every account back (R31, R32, R116). -/
theorem State.restoreTicket_valueTicket {t : Ticket} {s : State} (hs : AccountsInv s) (hn : (t.lines.map (·.cls)).Nodup)
    (forced : Bool) : ((s.valueTicket forced t).restoreTicket (s.valuedTicket forced t)).accounts = s.accounts := by
  have hself : s.accounts.set t.account.val s.accounts[t.account] t.account.isLt = s.accounts :=
    Vector.set_getElem_self t.account.isLt
  by_cases ha : t.account.val = 0
  · rw [State.restoreTicket_none (t := s.valuedTicket forced t) (.inl ha), State.valueTicket_accounts, if_pos ha, hself]
  · have hback := restoreAll_reserveAll (Ticket.byClass_nodup hn _) (State.reservation_covered (s := s) ha)
      (hs.counts t.account)
    rw [State.restoreTicket_reserved (t := s.valuedTicket forced t) rfl ha]
    simp only [State.setAccount_accounts, State.valuedTicket_account, State.valuedTicket_byClass,
      State.valueTicket_account ha, hback]
    rw [State.valueTicket_accounts, Vector.set_set, hself]

/-- The reasons that stay on a reopened ticket are the two of the arrivals (R57). -/
theorem dropHolds_valuation (set : List HoldReason) : dropHolds [.forcedClose, .overLimit, .accountBlocked] set =
    set.filter fun r => r == .watchedTag || r == .duplicateTag := by
  refine List.filter_congr fun r _ => ?_
  cases r <;> rfl

/-- A Reopen of a VALUED ticket changes the table and the account's counts alone (R57). -/
theorem State.reopened_eq {n : Nat} {t : Ticket} {s : State} (ht : s.ticket? n = some t) :
    (s.restoreTicket t).putTicket t.reopened = { s with
      accounts := (s.restoreTicket t).accounts
      tickets := s.tickets.map fun u => if u.number = n then
        { t with
          state := .opened, attachments := [], saturated := false, forced := false, figures := none
          reservation := none, valuedAt := none
          holds := t.holds.filter fun r => r == .watchedTag || r == .duplicateTag } else u } := by
  obtain rfl := State.ticket?_number ht
  rw [← dropHolds_valuation, State.restoreTicket_eq]
  rfl

/-! ### Release (R56) -/

theorem dropHolds_eq (rs set : List HoldReason) : dropHolds rs set = set.filter fun r => decide (r ∉ rs) := by
  simp [dropHolds]

theorem mapM_ofCode_code (rs : List HoldReason) : (rs.map HoldReason.code).mapM HoldReason.ofCode = some rs := by
  induction rs with
  | nil => rfl
  | cons r rs ih => rw [List.map_cons, List.mapM_cons, HoldReason.ofCode_code, ih]; rfl

theorem mapM_ofCode_eq_none {codes : List Nat} (h : ∃ k ∈ codes, 4 < k) : codes.mapM HoldReason.ofCode = none := by
  induction codes with
  | nil => simp at h
  | cons c codes ih =>
    rw [List.mapM_cons]
    by_cases hc : 4 < c
    · rw [HoldReason.ofCode_eq_none.2 hc]; rfl
    · rw [ih (by simpa [hc] using h)]
      cases HoldReason.ofCode c <;> rfl

theorem reasonsOf_codes {rs : List HoldReason} (h : rs.length ≤ 5) : reasonsOf (rs.map HoldReason.code) = some rs := by
  rw [reasonsOf, if_pos (by rwa [List.length_map]), mapM_ofCode_code]

theorem reasonsOf_eq_none {codes : List Nat} (h : 5 < codes.length ∨ ∃ k ∈ codes, 4 < k) : reasonsOf codes = none := by
  rcases h with hlong | hcode
  · exact if_neg (Nat.not_le.2 hlong)
  · rw [reasonsOf, mapM_ofCode_eq_none hcode, ite_self]

theorem release_badValue {codes : List Nat} (h : 5 < codes.length ∨ ∃ k ∈ codes, 4 < k) (n : Nat) (s : State) :
    release n codes s = refuse .badValue s := by rw [release, reasonsOf_eq_none h]

/-- Past its codes, Release begins with the checks of R40. -/
theorem release_named {rs : List HoldReason} (h : rs.length ≤ 5) (n : Nat) (s : State) :
    release n (rs.map HoldReason.code) s = onTicket n Ticket.voidable (fun t =>
      if .accountBlocked ∈ rs ∧ s.accounts[t.account].state = .blocked then refuse .accountBlocked s
      else okay (.released n t.state (dropHolds rs t.holds)) (s.putTicket { t with holds := dropHolds rs t.holds })) s := by
  rw [release, reasonsOf_codes h]
  simp only [Bool.and_eq_true, List.contains_iff_mem, beq_iff_eq]

/-! ### Set Limits (R60) -/

theorem setLimits_checked (threshold wait : Nat) (s : State) : setLimits threshold wait s =
    if threshold ≤ 4294967295 ∧ 5 ≤ wait ∧ wait ≤ 600 then
      okay (.limits threshold wait) { s with reviewThreshold := threshold, closeWait := wait }
    else refuse .badValue s := by
  simp only [setLimits, Bool.and_eq_true, decide_eq_true_eq, inRange_iff]

/-! ### Where the number of another request is checked (R40) -/

theorem authorise_checked (m : Means) (n amount : Nat) (s : State) : authorise n m.code amount s =
    onTicket n (fun t => t.state == .valued) (fun t => authoriseChecked m amount t s) s := by
  rw [authorise, Means.ofCode_code]

theorem assignStrays_unknown {n : Nat} {s : State} (h : s.ticket? n = none) (i : PulseIx) :
    assignStrays (6 + i.val) n s = refuse .unknownTicket s := by
  have hi : pulseOf (6 + i.val) = some i := by rw [Nat.add_comm]; exact pulseOf_pulseNumber i
  rw [assignStrays, hi]
  exact onTicket_unknown h _ _

end Sys2Proof.Machine
end

section
/-! SUPPORT. The statements about return tickets (Section 3) and a station's own requests: each request's answer, put through its
link. -/

namespace Sys2Proof.Machine

/-- Settles O18: the checks of R42 one by one, and the number by counting what table and log can hold. -/
theorem openTicketMakesATicket : Obligations.OpenTicketMakesATicket := by
  refine ⟨fun a lanes s hp => ⟨fun hu => ?_, fun hm => ⟨fun hbad => ?_, fun hgood hbusy => ?_, fun hgood hfree hfull => ?_,
    fun hgood hfree hroom => ?_⟩⟩, fun s hs => ?_⟩
  · exact request_answers hp rfl _ (if_pos hu)
  · exact request_answers hp rfl _ (openTicket_badValue hm (mt lanesFit_iff.1 (not_not.2 hbad)))
  · exact request_answers hp rfl _ (openTicket_laneBusy hm (lanesFit_iff.2 hgood) hbusy)
  · exact request_answers hp rfl _ ((openTicket_checked hm (lanesFit_iff.2 hgood) hfree).trans (if_pos hfull))
  · exact request_answers hp rfl _
      ((openTicket_checked hm (lanesFit_iff.2 hgood) hfree).trans (if_neg (Nat.not_le.2 hroom)))
  · obtain ⟨k, hk, htaken, hunused, hpassed⟩ := State.takenNumber_first hs
    refine ⟨fun h => ?_, ?_, ?_, k, hk, htaken, fun j hj => State.numberUsed_iff.1 (hpassed j hj)⟩
    · rw [State.numberUsed_iff.2 h] at hunused
      cases hunused
    · rw [htaken, nextTicketNumber_iterate hs.next.1 hs.next.2]; omega
    · rw [htaken, nextTicketNumber_iterate hs.next.1 hs.next.2]; omega

/-- Settles O19: the lane number first, then the ticket's state, then its lanes. -/
theorem attachAndDetachLanes : Obligations.AttachAndDetachLanes := by
  intro n lane t s hp ht atch dtch may refusedWith
  have hmay : t.mayAttach lane = true ↔ may := by rw [Ticket.mayAttach_iff, Nat.lt_succ_iff]
  have hnumber : (t.detach lane).number = n := (Ticket.detach_number lane t).trans (State.ticket?_number ht)
  refine ⟨fun h => ⟨?_, ?_⟩, fun hl => ?_⟩
  · exact request_answers hp rfl _ (attachLane_badValue h n s)
  · exact request_answers hp rfl _ (detachLane_badValue h n s)
  have hattach := fun hm : may => (attachLane_checked hl n s).trans (onTicket_taken ht (hmay.2 hm) _)
  refine ⟨fun hm => ?_, fun hm hbusy => ?_, fun hm hfree hfull => ?_, fun hm hfree hroom => ?_, fun hst => ?_,
    fun hst => ⟨fun hnone => ?_, fun e he => ⟨fun hkeep => ?_, fun hc hlast => ?_⟩⟩⟩
  · exact request_answers hp rfl _ ((attachLane_checked hl n s).trans (onTicket_wrongState ht (mt hmay.1 hm) _))
  · exact request_answers hp rfl _ ((hattach hm).trans (if_pos (State.feeding_isSome.2 hbusy)))
  · exact request_answers hp rfl _ (((hattach hm).trans (if_neg (mt State.feeding_isSome.1 (not_not.2 hfree)))).trans
      (if_pos hfull))
  · exact request_answers hp rfl _ (((hattach hm).trans (if_neg (mt State.feeding_isSome.1 (not_not.2 hfree)))).trans
      (if_neg (Nat.not_le.2 hroom)))
  · exact request_answers hp rfl _ ((detachLane_checked hl n s).trans
      (onTicket_wrongState ht (mt Ticket.takesArrivals_iff.1 hst) _))
  · have hat : ¬t.attached lane = true := fun h => by
      obtain ⟨e, he, hlane⟩ := Ticket.attached_iff.1 h
      exact hnone e he hlane
    exact request_answers hp rfl _ (((detachLane_checked hl n s).trans
      (onTicket_taken ht (Ticket.takesArrivals_iff.2 hst) _)).trans (if_pos (by simpa using hat)))
  · have hok := detachLane_attached hl ht hst he
    rw [State.detachLane_keeps hkeep, State.slotState_of (State.ticket?_putTicket ht hnumber)] at hok
    exact request_answers hp rfl _ hok
  · have hok := detachLane_attached hl ht hst he
    rw [State.detachLane_values hc hlast, State.slotState_of (State.valueTicket_ticket? ht hnumber)] at hok
    exact request_answers hp rfl _ hok

/-- Settles O28: a free lane has nothing to take off, and a lane that feeds a ticket has its entry there. -/
theorem laneDoneAndLaneQuery : Obligations.LaneDoneAndLaneQuery := by
  intro l s hl
  refine ⟨fun hfree => ⟨request_onGrantedLane hl rfl _ (laneDone_free hfree),
    request_onGrantedLane hl rfl _ (laneQuery_free hfree)⟩, fun t e ht he =>
    ⟨fun hkeep => ?_, fun hc hlast => ?_, fun ho => ?_, fun d hc hd => ?_⟩⟩
  · have hok := laneDone_feeding ht he
    rw [State.detachLane_keeps hkeep] at hok
    exact request_onGrantedLane hl rfl _ hok
  · have hok := laneDone_feeding ht he
    rw [State.detachLane_values hc hlast] at hok
    exact request_onGrantedLane hl rfl _ hok
  · have hok := laneQuery_feeding ht he
    rw [State.waitSeconds_eq, ho, if_neg (by decide)] at hok
    exact request_onGrantedLane hl rfl _ hok
  · have hok := laneQuery_feeding ht he
    rw [State.waitSeconds_eq, hc, if_pos rfl, hd] at hok
    exact request_onGrantedLane hl rfl _ hok

/-- Settles O23: a Reopen restores what the ticket has reserved, and a restore is the inverse of a valuation. -/
theorem reopenBringsATicketBack : Obligations.ReopenBringsATicketBack := by
  refine ⟨fun n t s hp ht => ⟨fun hst => ?_, fun hst => ⟨(s.restoreTicket t).accounts, ?_, fun b hb => ?_,
    fun rs hr ha hn => ?_⟩⟩, fun forced t v s hs hn hv => ?_⟩
  · exact request_answers hp rfl _ (onTicket_wrongState ht (by simpa using hst) _)
  · rw [← State.reopened_eq ht]
    exact request_answers hp rfl _ (onTicket_taken ht (by simpa using hst) _)
  · by_cases hne : b = t.account
    · rw [State.restoreTicket_none (hb.resolve_left (not_not.2 hne))]
    · exact State.restoreTicket_accounts_ne hne s
  · exact State.restoreTicket_account hr ha hn s
  · rw [State.valueTicket_ticket?_eq hv]
    exact State.restoreTicket_valueTicket hs hn forced

/-- Settles O25: the codes first, then the ticket's number and state, then its account; and R40's check of the number, which
each ticket request comes to. -/
theorem releaseAndSetLimits : Obligations.ReleaseAndSetLimits := by
  intro n rs threshold wait s hp rels slim
  refine ⟨fun t ht hlen h1 h2 h3 => ?_, fun t ht hlen hst => ⟨fun hmem hblocked => ?_, fun hfree => ?_⟩, fun codes hbad => ?_,
    fun ht h1 h2 => ?_, fun hbad => ?_, fun hnone hlen lane m amount i x hl hx => ?_⟩
  · exact request_answers hp rfl _ ((release_named hlen n s).trans
      (onTicket_wrongState ht (mt Ticket.voidable_iff.1 (by simp [h1, h2, h3])) _))
  · exact request_answers hp rfl _ (((release_named hlen n s).trans (onTicket_taken ht (Ticket.voidable_iff.2 hst) _)).trans
      (if_pos ⟨hmem, hblocked⟩))
  · have hok := ((release_named hlen n s).trans (onTicket_taken ht (Ticket.voidable_iff.2 hst) _)).trans
      (if_neg fun ⟨hmem, hblocked⟩ => hfree.elim (· hmem) (· hblocked))
    rw [dropHolds_eq] at hok
    exact request_answers hp rfl _ hok
  · exact request_answers hp rfl _ (release_badValue hbad n s)
  · exact request_answers hp rfl _ ((setLimits_checked threshold wait s).trans (if_pos ⟨ht, h1, h2⟩))
  · exact request_answers hp rfl _ ((setLimits_checked threshold wait s).trans (if_neg (by omega)))
  · simp only [List.mem_cons, List.not_mem_nil, or_false] at hx
    obtain rfl | rfl | rfl | rfl | rfl | rfl | rfl | rfl | rfl | rfl | rfl | rfl := hx
    · exact request_refusesTicket hp hnone rfl _ (release_named hlen n s)
    · exact request_refusesTicket hp hnone rfl _ (attachLane_checked hl n s)
    · exact request_refusesTicket hp hnone rfl _ (detachLane_checked hl n s)
    · exact request_refusesTicket hp hnone rfl _ rfl
    · exact request_refusesTicket hp hnone rfl _ rfl
    · exact request_refusesTicket hp hnone rfl _ rfl
    · exact request_refusesTicket hp hnone rfl _ (authorise_checked m n amount s)
    · exact request_refusesTicket hp hnone rfl _ rfl
    · exact request_refusesTicket hp hnone rfl _ rfl
    · exact request_refusesTicket hp hnone rfl _ rfl
    · exact request_refusesTicket hp hnone rfl _ rfl
    · exact request_answers hp rfl _ (assignStrays_unknown hnone i)

end Sys2Proof.Machine
end

section
/-! SUPPORT. Arrivals, tally lines and keg tags (Section 4), said once: the cells and the lines, the effects of a placement and
of a carried tag, and what each check of an Arrive answers. -/

namespace Sys2Proof.Machine

/-! ### Cells (R76) -/

/-- An addition to one cell leaves the other three. -/
theorem Line.addItems_cell (o o' : Origin) (k k' : Condition) (n : Nat) (l : Line) :
    (l.addItems o k n).cell o' k' = l.cell o' k' + (if o = o' ∧ k = k' then n else 0) := by
  cases o <;> cases k <;> cases o' <;> cases k' <;> rfl

@[simp] theorem Line.addItems_cls (o : Origin) (k : Condition) (n : Nat) (l : Line) : (l.addItems o k n).cls = l.cls := by
  cases o <;> cases k <;> rfl
@[simp] theorem Line.addItems_bottles (o : Origin) (k : Condition) (n : Nat) (l : Line) :
    (l.addItems o k n).bottles = l.bottles := by cases o <;> cases k <;> rfl
@[simp] theorem Line.addItems_clamps (o : Origin) (k : Condition) (n : Nat) (l : Line) :
    (l.addItems o k n).clamps = l.clamps := by cases o <;> cases k <;> rfl

/-! ### The line list (R75) -/

/-- A class that has a line keeps the line's place; only that line carries the class. -/
theorem putLine_of_mem {l : Line} {ls : List Line} (hn : (ls.map (·.cls)).Nodup) (h : l.cls ∈ ls.map (·.cls)) :
    putLine l ls = ls.map fun x => if x.cls = l.cls then l else x := by
  induction ls with
  | nil => simp at h
  | cons x xs ih =>
    rw [List.map_cons, List.nodup_cons] at hn
    obtain ⟨hx, hxs⟩ := hn
    rw [putLine, List.map_cons]
    split
    next heq =>
      have hrest : ∀ y ∈ xs, ¬y.cls = l.cls := fun y hy hc => hx (heq ▸ hc ▸ List.mem_map_of_mem hy)
      congr 1
      rw [List.map_congr_left fun y hy => if_neg (hrest y hy), List.map_id']
    next hne =>
      rw [List.map_cons, List.mem_cons] at h
      rw [ih hxs (h.resolve_left fun hc => hne hc.symm)]

/-- A class that has no line takes the tail. -/
theorem putLine_of_not_mem {l : Line} {ls : List Line} (h : l.cls ∉ ls.map (·.cls)) : putLine l ls = ls ++ [l] := by
  induction ls with
  | nil => rfl
  | cons x xs ih =>
    rw [List.map_cons, List.mem_cons, not_or] at h
    rw [putLine, if_neg fun hc => h.1 hc.symm, ih h.2, List.cons_append]

theorem Ticket.line?_eq_none {c : ClassId} {t : Ticket} : t.line? c = none ↔ ∀ x ∈ t.lines, x.cls ≠ c := by
  simp [Ticket.line?]

theorem Ticket.linesFull_iff {c : ClassId} {t : Ticket} :
    t.linesFull c = true ↔ (∀ x ∈ t.lines, x.cls ≠ c) ∧ 8 ≤ t.lines.length := by
  simp only [Ticket.linesFull, Bool.and_eq_true, Option.isNone_iff_eq_none, Ticket.line?_eq_none, decide_eq_true_eq]

/-- A line is there, or there is room for one. -/
theorem Ticket.not_linesFull_iff {c : ClassId} {t : Ticket} :
    ¬t.linesFull c = true ↔ (∃ x ∈ t.lines, x.cls = c) ∨ t.lines.length < 8 := by
  rw [Ticket.linesFull_iff, Classical.not_and_iff_not_or_not, Nat.not_le]
  simp only [not_forall, not_not, exists_prop]

theorem Ticket.cellFull_iff {c : ClassId} {o : Origin} {k : Condition} {n : Nat} {t : Ticket} :
    t.cellFull c o k n = true ↔ 9999 < (t.lineFor c).cell o k + n := decide_eq_true_iff

/-! ### A placement (R71, R77, R78, R80) -/

theorem isClamped_eq (r : ClassRecord) (n carried : Nat) :
    isClamped r n carried = decide (r.kind = .crate ∧ allowance r n < carried) := by
  rw [isClamped, Bool.decide_and]; rfl

/-- The line a placement leaves for its class. -/
theorem Ticket.placeItems_eq (r : ClassRecord) (c : ClassId) (o : Origin) (k : Condition) (n carried : Nat) (t : Ticket) :
    t.placeItems r c o k n carried = { t with
      lines := putLine { (t.lineFor c).addItems o k n with
        bottles := (t.lineFor c).bottles + min carried (allowance r n)
        clamps := if decide (r.kind = .crate ∧ allowance r n < carried) then min 255 ((t.lineFor c).clamps + 1)
          else (t.lineFor c).clamps } t.lines } := by
  simp only [Ticket.placeItems, Line.addItems_bottles, Line.addItems_clamps, isClamped_eq]
  rfl

/-! ### A carried keg tag (R82, R89) -/

/-- A tag that is in no entry of the list finds none, and so does an arrival without one (step 4 of R68). -/
theorem State.tagEntry?_bind_eq_none {tag : Option Nat} {s : State} :
    tag.bind s.tagEntry? = none ↔ ∀ e ∈ s.tags, tag ≠ some e.tag := by
  cases tag with
  | none => simp
  | some g => simp [Option.bind_some, State.tagEntry?, List.find?_eq_none, eq_comm (a := g)]

/-- Recording a tag: the list's tail, or the ticket's unrecorded count and the notice (R82). -/
theorem State.recordTag_eq (g : Nat) (lane : StationLane) (t : Ticket) (s : State) : s.recordTag g lane t =
    ({ t with unrecorded := if 256 ≤ s.tags.length then min 9999 (t.unrecorded + 1) else t.unrecorded },
     { s with
       tags := if s.tags.length < 256 then s.tags ++ [{ tag := g, ticket := t.number, lane := lane, stamp := s.stamp }]
         else s.tags
       office := if 256 ≤ s.tags.length then s.office.place .tagListFull else s.office }) := by
  by_cases h : s.tags.length < 256
  · simp only [State.recordTag, if_pos h, if_neg (Nat.not_le.2 h)]
  · simp only [State.recordTag, if_neg h, if_pos (Nat.not_lt.1 h)]
    rfl

/-- A watched tag: the hold, the ticket's first watched tag and the notice (R89). -/
theorem State.watchTag_eq (g : Nat) (t : Ticket) (s : State) : s.watchTag g t =
    ({ t with
       holds := if s.watch.contains g then addHold .watchedTag t.holds else t.holds
       watchedTag := if s.watch.contains g then t.watchedTag.or (some g) else t.watchedTag },
     { s with office := if s.watch.contains g then s.office.place .hold else s.office }) := by
  by_cases h : s.watch.contains g = true
  · simp only [State.watchTag, if_pos h]
    cases ht : t.watchedTag <;> simp [Ticket.hold, State.tellOffice]
  · simp only [State.watchTag, if_neg h]

/-! ### An accepted arrival (R71) -/

section
variable (lane : StationLane) (c : ClassId) (o : Origin) (k : Condition) (n carried : Nat) (t : Ticket) (s : State)

/-- Without a tag, an accepted arrival changes its ticket alone. -/
theorem State.acceptArrival_untagged : s.acceptArrival lane c o k n carried none t =
    let placed := t.placeItems s.classes[c] c o k n carried
    s.putTicket (Ticket.countArrival lane.val { placed with
      untagged := if s.classes[c].kind = .keg then min 9999 (t.untagged + n) else t.untagged }) := by
  by_cases h : s.classes[c].kind = .keg
  · simp only [State.acceptArrival, h, and_self, if_true]
    rfl
  · simp only [State.acceptArrival, h, false_and, if_false]
    rfl

/-- With a tag, it records the tag and looks it up in the watch list besides. -/
theorem State.acceptArrival_tagged (g : Nat) : s.acceptArrival lane c o k n carried (some g) t =
    let full := decide (256 ≤ s.tags.length)
    let seen := s.watch.contains g
    let placed := t.placeItems s.classes[c] c o k n carried
    let office := if full then s.office.place .tagListFull else s.office
    { s.putTicket (Ticket.countArrival lane.val { placed with
        unrecorded := if full then min 9999 (t.unrecorded + 1) else t.unrecorded
        holds := if seen then addHold .watchedTag t.holds else t.holds
        watchedTag := if seen then t.watchedTag.or (some g) else t.watchedTag }) with
      tags := if s.tags.length < 256 then s.tags ++ [{ tag := g, ticket := t.number, lane := lane, stamp := s.stamp }]
        else s.tags
      office := if seen then office.place .hold else office } := by
  simp only [State.acceptArrival, State.recordTag_eq, State.watchTag_eq, reduceCtorEq, and_false, if_false,
    decide_eq_true_eq]
  rfl

end

/-! ### The refusal of a duplicate tag (R85, R86) -/

theorem State.refuseDuplicate_own {e : TagEntry} {t : Ticket} (h : e.ticket = t.number) (s : State) :
    s.refuseDuplicate e t =
      { state := s.putTicket { t with duplicates := min 255 (t.duplicates + 1) }
        result := .duplicateTag, body := .duplicate t.number e } := by
  simp only [State.refuseDuplicate, if_pos h]
  rfl

/-- A cross-ticket duplicate holds the arriving ticket. -/
theorem State.refuseDuplicate_cross {e : TagEntry} {t : Ticket} (h : e.ticket ≠ t.number) (s : State) :
    s.refuseDuplicate e t =
      { state := { s.putTicket { t with
            duplicates := min 255 (t.duplicates + 1), holds := addHold .duplicateTag t.holds } with
          office := s.office.place .hold }
        result := .duplicateTag, body := .duplicate t.number e } := by
  simp only [State.refuseDuplicate, if_neg h]
  rfl

/-! ### The checks of an Arrive (R68 to R70) -/

/-- Step 3 of R68 fails for what an Arrive carries, for a class in use of the schedule (R69). -/
def ArriveBad (r : ClassRecord) (o k n carried : Nat) (tag : Option Nat) : Prop :=
  1 < o ∨ 1 < k ∨ n = 0 ∨ 99 < n ∨ (r.kind = .crate ∧ 2376 < carried) ∨ (tag ≠ none ∧ (r.kind ≠ .keg ∨ 1 < n))

theorem arriveFits_iff {r : ClassRecord} {n carried : Nat} {tag : Option Nat} :
    arriveFits r n carried tag = true ↔
      1 ≤ n ∧ n ≤ 99 ∧ (r.kind = .crate → carried ≤ 2376) ∧ (tag ≠ none → r.kind = .keg ∧ n ≤ 1) := by
  simp [arriveFits, inRange_iff, imp_iff_not_or, and_assoc]

/-- Fields that are not bad name an origin and a condition, and fit together. -/
theorem not_arriveBad_iff {r : ClassRecord} {o k n carried : Nat} {tag : Option Nat} :
    ¬ArriveBad r o k n carried tag ↔ o ≤ 1 ∧ k ≤ 1 ∧ arriveFits r n carried tag = true := by
  simp only [ArriveBad, arriveFits_iff, not_or, not_and, not_not, Nat.not_lt, ← Nat.one_le_iff_ne_zero]

theorem Origin.exists_code {n : Nat} (h : n ≤ 1) : ∃ o : Origin, o.code = n := by
  interval_cases n
  · exact ⟨.own, rfl⟩
  · exact ⟨.foreign, rfl⟩

theorem Condition.exists_code {n : Nat} (h : n ≤ 1) : ∃ k : Condition, k.code = n := by
  interval_cases n
  · exact ⟨.good, rfl⟩
  · exact ⟨.damaged, rfl⟩

theorem arrive_free {lane : StationLane} {s : State} (h : s.laneFree lane.val) (cls o k n carried : Nat) (tag : Option Nat) :
    arrive lane cls o k n carried tag s = refuse .noTicket s := by
  rw [arrive, State.feeding_eq_none.2 h]

section
variable {lane : StationLane} {t : Ticket} {s : State} (ht : s.feeding lane.val = some t)
include ht

theorem arrive_noClass {cls : Nat} (h : 15 < cls) (o k n carried : Nat) (tag : Option Nat) :
    arrive lane cls o k n carried tag s = { state := s, result := .badValue, body := .onTicket t.number } := by
  rw [arrive, ht, classOf_eq_none.2 h]

variable {c : ClassId}

theorem arrive_unknownClass (h : s.classes[c].state = .unused) (o k n carried : Nat) (tag : Option Nat) :
    arrive lane c.val o k n carried tag s = { state := s, result := .unknownClass, body := .onTicket t.number } := by
  simp only [arrive, ht, classOf_val, if_pos h]

variable (hc : s.classes[c].state ≠ .unused)
include hc

/-- With a named origin and condition, what is left of step 3 is what the fields may carry together. -/
theorem arrive_named (o : Origin) (k : Condition) (n carried : Nat) (tag : Option Nat) :
    arrive lane c.val o.code k.code n carried tag s =
      if arriveFits s.classes[c] n carried tag then arriveChecked lane c o k n carried tag t s
      else { state := s, result := .badValue, body := .onTicket t.number } := by
  simp only [arrive, ht, classOf_val, if_neg hc, Origin.ofCode_code, Condition.ofCode_code]

theorem arrive_badValue {o k n carried : Nat} {tag : Option Nat} (h : ArriveBad s.classes[c] o k n carried tag) :
    arrive lane c.val o k n carried tag s = { state := s, result := .badValue, body := .onTicket t.number } := by
  by_cases ho : 1 < o
  · simp only [arrive, ht, classOf_val, if_neg hc, Origin.ofCode_eq_none.2 ho]
  obtain ⟨origin, rfl⟩ := Origin.exists_code (Nat.not_lt.1 ho)
  by_cases hk : 1 < k
  · simp only [arrive, ht, classOf_val, if_neg hc, Origin.ofCode_code, Condition.ofCode_eq_none.2 hk]
  obtain ⟨cond, rfl⟩ := Condition.exists_code (Nat.not_lt.1 hk)
  rw [arrive_named ht hc, if_neg fun hfits => not_arriveBad_iff.2 ⟨Nat.not_lt.1 ho, Nat.not_lt.1 hk, hfits⟩ h]

/-- Fields that pass step 3 come to steps 4 to 6. -/
theorem arrive_checked {o k n carried : Nat} {tag : Option Nat} (h : ¬ArriveBad s.classes[c] o k n carried tag) :
    ∃ (origin : Origin) (cond : Condition), origin.code = o ∧ cond.code = k ∧
      arrive lane c.val o k n carried tag s = arriveChecked lane c origin cond n carried tag t s := by
  obtain ⟨ho, hk, hfits⟩ := not_arriveBad_iff.1 h
  obtain ⟨origin, rfl⟩ := Origin.exists_code ho
  obtain ⟨cond, rfl⟩ := Condition.exists_code hk
  exact ⟨origin, cond, rfl, rfl, (arrive_named ht hc ..).trans (if_pos hfits)⟩

end

section
variable {lane : StationLane} {c : ClassId} {o : Origin} {k : Condition} {n carried : Nat} {tag : Option Nat} {t : Ticket}
  {s : State}

theorem arriveChecked_duplicate {e : TagEntry} {g : Nat} (htag : tag = some g) (he : s.tagEntry? g = some e) :
    arriveChecked lane c o k n carried tag t s = s.refuseDuplicate e t := by
  simp only [arriveChecked, htag, Option.bind_some, he]

variable (htag : ∀ e ∈ s.tags, tag ≠ some e.tag)
include htag

/-- With no tag, or one that is in no entry, the lines and the cell decide (steps 5 and 6 of R68). -/
theorem arriveChecked_newTag : arriveChecked lane c o k n carried tag t s =
    if t.linesFull c then { state := s, result := .linesFull, body := .onTicket t.number }
    else if t.cellFull c o k n then
      { state := s, result := .cellFull, body := .cellFull t.number ((t.lineFor c).cell o k) }
    else okay
      (.accepted t.number c.val ((t.lineFor c).total + n) (min carried (allowance s.classes[c] n))
        (isClamped s.classes[c] n carried))
      (s.acceptArrival lane c o k n carried tag t) := by
  simp only [arriveChecked, State.tagEntry?_bind_eq_none.2 htag]
  rfl

theorem arriveChecked_linesFull (hlines : ∀ x ∈ t.lines, x.cls ≠ c) (hfull : 8 ≤ t.lines.length) :
    arriveChecked lane c o k n carried tag t s = { state := s, result := .linesFull, body := .onTicket t.number } :=
  (arriveChecked_newTag htag).trans (if_pos (Ticket.linesFull_iff.2 ⟨hlines, hfull⟩))

variable (hroom : (∃ x ∈ t.lines, x.cls = c) ∨ t.lines.length < 8)
include hroom

theorem arriveChecked_cellFull (h : 9999 < (t.lineFor c).cell o k + n) :
    arriveChecked lane c o k n carried tag t s =
      { state := s, result := .cellFull, body := .cellFull t.number ((t.lineFor c).cell o k) } := by
  rw [arriveChecked_newTag htag, if_neg (Ticket.not_linesFull_iff.2 hroom), if_pos (Ticket.cellFull_iff.2 h)]

theorem arriveChecked_accepts (h : (t.lineFor c).cell o k + n ≤ 9999) :
    arriveChecked lane c o k n carried tag t s = okay
      (.accepted t.number c.val ((t.lineFor c).total + n) (min carried (allowance s.classes[c] n))
        (decide (s.classes[c].kind = .crate ∧ allowance s.classes[c] n < carried)))
      (s.acceptArrival lane c o k n carried tag t) := by
  rw [arriveChecked_newTag htag, if_neg (Ticket.not_linesFull_iff.2 hroom),
    if_neg (mt Ticket.cellFull_iff.1 (Nat.not_lt.2 h)), isClamped_eq]

end

end Sys2Proof.Machine
end

section
/-! SUPPORT. The statements about arrivals (Section 4): each answer of an Arrive, put through the grant of its lane. -/

namespace Sys2Proof.Machine

/-- Settles O26: the arrival passes every check, and its effects are those of its placement, with those of its tag where
it carries one. -/
theorem arriveAccepted : Obligations.ArriveAccepted := by
  refine ⟨?_, fun o o' k k' n l => ⟨Line.addItems_cell o o' k k' n l, Line.addItems_cls o k n l, Line.addItems_bottles o k n l,
      Line.addItems_clamps o k n l, rfl, rfl, rfl, rfl, rfl⟩,
    fun l ls hn => ⟨putLine_of_mem hn, putLine_of_not_mem⟩⟩
  intro l c o k q bottles tag t s hl ht r old hc h1 h99 hbottles htag hnew hroom hcell i most clamped placed
    full seen u office
  have hfits : arriveFits r q bottles tag = true :=
    arriveFits_iff.2 ⟨h1, h99, hbottles, fun h => ⟨(htag h).1, (htag h).2.le⟩⟩
  have hok := (arrive_named ht hc o k q bottles tag).trans
    ((if_pos hfits).trans (arriveChecked_accepts (lane := l) (carried := bottles) hnew hroom hcell))
  cases tag with
  | none =>
    rw [State.acceptArrival_untagged, Ticket.placeItems_eq] at hok
    refine (request_onGrantedLane hl rfl i hok).trans ?_
    simp only [u, seen, full, office, Option.any_none, Option.isSome_none, Bool.false_and, and_true]
    rfl
  | some g =>
    rw [State.acceptArrival_tagged, Ticket.placeItems_eq] at hok
    refine (request_onGrantedLane hl rfl i hok).trans ?_
    simp only [u, seen, full, office, Option.any_some, Option.isSome_some, Bool.true_and, reduceCtorEq, and_false, if_false]
    rfl

/-- Settles O27: the lane's ticket first, then the class, then the fields, then the tag, the lines and the cell. -/
theorem arriveRefusedInOrder : Obligations.ArriveRefusedInOrder := by
  intro l cls o k q bottles tag s hl i refusedWith
  refine ⟨fun hfree => ?_, fun t ht => ⟨fun hcls => ?_, fun c hval => ?_⟩⟩
  · exact request_onGrantedLane hl rfl i (arrive_free hfree ..)
  · exact request_onGrantedLane hl rfl i (arrive_noClass ht hcls ..)
  subst hval
  intro r old bad known
  refine ⟨fun hu => ?_, fun hc => ⟨fun hbad => ?_, fun hgood e g hg he => ?_,
    fun hgood hnew hlines hfull => ?_, fun hgood hnew hroom origin cond ho hk hcell => ?_⟩⟩
  · exact request_onGrantedLane hl rfl i (arrive_unknownClass ht hu ..)
  · exact request_onGrantedLane hl rfl i (arrive_badValue ht hc hbad)
  · obtain ⟨origin, cond, -, -, hchecked⟩ := arrive_checked ht hc hgood
    have hdup := hchecked.trans (arriveChecked_duplicate hg he)
    exact ⟨fun hown => request_onGrantedLane hl rfl i (hdup.trans (State.refuseDuplicate_own hown s)),
      fun hcross => request_onGrantedLane hl rfl i (hdup.trans (State.refuseDuplicate_cross hcross s))⟩
  · obtain ⟨origin, cond, -, -, hchecked⟩ := arrive_checked ht hc hgood
    exact request_onGrantedLane hl rfl i (hchecked.trans
      (arriveChecked_linesFull (fun e he htag => hnew ⟨e, he, htag⟩) hlines hfull))
  · subst ho hk
    have hfits := (not_arriveBad_iff.1 hgood).2.2
    exact request_onGrantedLane hl rfl i ((arrive_named ht hc ..).trans ((if_pos hfits).trans
      (arriveChecked_cellFull (fun e he htag => hnew ⟨e, he, htag⟩) hroom hcell)))

end Sys2Proof.Machine
end

section
/-! SUPPORT. Valuation (Section 6), said once: the reduced values and the split of a line with their bounds, the reasons a
valuation adds, and the account it leaves. -/

namespace Sys2Proof.Machine

/-! ### Reduced values (R111) -/

/-- A damage deduction never raises a value. -/
theorem reduced_le (value damage : Nat) : reduced value damage ≤ value :=
  Nat.div_le_of_le_mul <| calc
    value * (100 - damage) ≤ value * 100 := Nat.mul_le_mul_left value (Nat.sub_le 100 damage)
    _ = 100 * value := Nat.mul_comm value 100

theorem reduced_mono {v w : Nat} (h : v ≤ w) (damage : Nat) : reduced v damage ≤ reduced w damage :=
  Nat.div_le_div_right (Nat.mul_le_mul_right (100 - damage) h)

/-! ### The split against the float (R112) -/

theorem within_le (float : Option Nat) (count : Nat) : within float count ≤ count := by
  cases float with
  | none => exact le_rfl
  | some o => exact Nat.min_le_left count o

section
variable (r : ClassRecord) (float : Option Nat) (l : Line)

theorem lineFigures_good : (lineFigures r float l).goodIn + (lineFigures r float l).goodOver = l.good :=
  Nat.add_sub_cancel' (within_le _ l.good)

theorem lineFigures_damaged : (lineFigures r float l).damagedIn + (lineFigures r float l).damagedOver = l.damaged :=
  Nat.add_sub_cancel' (within_le _ l.damaged)

end

/-! ### The largest line value (R113) -/

/-- The bottle deposit is in range for a crate and 0 for every other kind. -/
theorem ClassRecord.Ok.bottle_le {r : ClassRecord} (h : r.Ok) : r.bottle ≤ 999 := by
  by_cases hk : r.kind = .crate
  · exact (h.crate hk).2
  · rw [(h.other hk).2]; exact Nat.zero_le _

/-- However the float splits a line, no item of it is worth more than the deposit of its class. -/
theorem lineFigures_value_le {r : ClassRecord} (h : r.foreign ≤ r.deposit) (float : Option Nat) (l : Line) :
    (lineFigures r float l).value ≤
      (l.good + l.damaged + l.foreignGood + l.foreignDamaged) * r.deposit + l.bottles * r.bottle := by
  have hdv : reduced r.deposit r.damage ≤ r.deposit := reduced_le ..
  have hfv : reduced r.foreign r.damage ≤ r.deposit := (reduced_le ..).trans h
  rw [← lineFigures_good r float l, ← lineFigures_damaged r float l]
  generalize hf : lineFigures r float l = f
  calc
    f.value = f.goodIn * r.deposit + f.damagedIn * reduced r.deposit r.damage + (f.goodOver + l.foreignGood) * r.foreign
          + (f.damagedOver + l.foreignDamaged) * reduced r.foreign r.damage + l.bottles * r.bottle := by rw [← hf]; rfl
    _ ≤ f.goodIn * r.deposit + f.damagedIn * r.deposit + (f.goodOver + l.foreignGood) * r.deposit
          + (f.damagedOver + l.foreignDamaged) * r.deposit + l.bottles * r.bottle := by gcongr
    _ = _ := by ring

/-- A line holds at most 39,996 items of 99,999 cents, each with 24 bottles of 999 cents. -/
theorem lineFigures_value_max {r : ClassRecord} {l : Line} (hr : r.Ok) (hl : l.Ok) (float : Option Nat) :
    (lineFigures r float l).value ≤ 4958504100 := by
  have hitems : l.good + l.damaged + l.foreignGood + l.foreignDamaged ≤ 39996 := by
    have := hl.good; have := hl.damaged; have := hl.foreignGood; have := hl.foreignDamaged
    omega
  calc
    (lineFigures r float l).value
      ≤ (l.good + l.damaged + l.foreignGood + l.foreignDamaged) * r.deposit + l.bottles * r.bottle :=
        lineFigures_value_le hr.foreign float l
    _ ≤ 39996 * 99999 + (24 * 39996) * 999 :=
        Nat.add_le_add (Nat.mul_le_mul hitems hr.deposit)
          (Nat.mul_le_mul (hl.bottles.trans (Nat.mul_le_mul_left 24 hitems)) hr.bottle_le)
    _ = 4958504100 := rfl

/-! ### The holds of a valuation (R117) -/

/-- The cap of the total hides no excess: a sum above the cap is a reason already. -/
theorem excess_iff {sum max threshold : Nat} :
    (decide (max < sum) || decide (threshold < min sum max)) = true ↔ max < sum ∨ threshold < sum := by
  rw [Bool.or_eq_true, decide_eq_true_eq, decide_eq_true_eq]
  omega

section
variable {forced : Bool} {t : Ticket} {s : State}

theorem State.valuationHeld_iff : s.valuationHeld forced t = true ↔
    (Config.moneyMax < exactSum (s.ticketFigures t) ∨ s.reviewThreshold < exactSum (s.ticketFigures t)) ∨
      s.accounts[t.account].state = .blocked ∨ forced = true := by
  rw [State.valuationHeld, Bool.or_eq_true, Bool.or_eq_true, excess_iff, beq_iff_eq, or_assoc]

theorem State.mem_valuedTicket_holds {q : HoldReason} : q ∈ (s.valuedTicket forced t).holds ↔
    q ∈ t.holds ∨
      (q = .overLimit ∧ (Config.moneyMax < exactSum (s.ticketFigures t) ∨ s.reviewThreshold < exactSum (s.ticketFigures t))) ∨
      (q = .accountBlocked ∧ s.accounts[t.account].state = .blocked) ∨ (q = .forcedClose ∧ forced = true) := by
  rw [State.valuedTicket, mem_foldl_addHold, mem_valuationHolds, excess_iff, beq_iff_eq]

end

/-! ### The accounts after a valuation (R31, R116) -/

/-- A walk-in valuation reserves nothing. -/
theorem State.valueTicket_account_walkIn {t : Ticket} (ha : t.account.val = 0) (forced : Bool) (s : State) :
    (s.valueTicket forced t).accounts[t.account] = s.accounts[t.account] := by
  rw [State.valueTicket_accounts, if_pos ha]; exact Vector.getElem_set_self t.account.isLt

theorem State.valueTicket_accounts_ne {b : AccountId} {t : Ticket} (h : b ≠ t.account) (forced : Bool) (s : State) :
    (s.valueTicket forced t).accounts[b] = s.accounts[b] := by
  rw [State.valueTicket_accounts]
  exact Vector.getElem_set_ne t.account.isLt b.isLt fun e => h (Fin.ext e.symm)

section
variable {t : Ticket} {s : State} (hn : (t.lines.map (·.cls)).Nodup) (forced : Bool)
include hn

/-- Each line's class loses what the line's good and damaged items take of the float. -/
theorem State.valueTicket_outstanding_line (ha : t.account.val ≠ 0) {p : Line × LineFigures}
    (hp : p ∈ t.lines.zip (s.ticketFigures t)) :
    (s.valueTicket forced t).accounts[t.account].outstanding[p.1.cls] =
      s.accounts[t.account].outstanding[p.1.cls] - (p.2.goodIn + p.2.damagedIn) := by
  have hmem : (p.1.cls, p.2.goodIn + p.2.damagedIn) ∈ t.byClass ((s.ticketFigures t).map (reservedBy t.account)) := by
    rw [Ticket.byClass, List.zip_map]
    exact List.mem_map.2 ⟨p, hp, Prod.ext rfl (if_neg ha)⟩
  rw [State.valueTicket_account ha]
  exact (reserveAll_spec _ _ (Ticket.byClass_nodup hn _)).1 _ hmem

/-- A class without a line keeps its count, and so does every class of the walk-in account. -/
theorem State.valueTicket_outstanding_kept {c : ClassId} (h : t.account.val = 0 ∨ c ∉ t.lines.map (·.cls)) :
    (s.valueTicket forced t).accounts[t.account].outstanding[c] = s.accounts[t.account].outstanding[c] := by
  by_cases ha : t.account.val = 0
  · rw [State.valueTicket_account_walkIn ha]
  · rw [State.valueTicket_account ha]
    exact (reserveAll_spec _ _ (Ticket.byClass_nodup hn _)).2.1 c fun hc =>
      h.resolve_left ha ((map_fst_zip_sublist _ _).subset hc)

/-- Of its account a valuation changes the outstanding counts alone. -/
theorem State.valueTicket_account_counts :
    { (s.valueTicket forced t).accounts[t.account] with outstanding := s.accounts[t.account].outstanding } =
      s.accounts[t.account] := by
  by_cases ha : t.account.val = 0
  · rw [State.valueTicket_account_walkIn ha]
  · obtain ⟨-, -, hstate, hcustomer, hcredit, hsaturated⟩ := reserveAll_spec
      (t.byClass ((s.ticketFigures t).map (reservedBy t.account))) s.accounts[t.account] (Ticket.byClass_nodup hn _)
    rw [State.valueTicket_account ha]
    exact Account.ext_counts (fun _ => rfl) hstate hcustomer hcredit hsaturated

end

/-- A valuation writes the ticket table, the accounts, the office's notices and the closing order alone. -/
theorem State.valueTicket_eq (forced : Bool) (t : Ticket) (s : State) : s.valueTicket forced t = { s with
    tickets := (s.valueTicket forced t).tickets
    accounts := (s.valueTicket forced t).accounts
    office := (s.valueTicket forced t).office
    closingOrder := s.closingOrder.filter (· != t.number) } := by
  unfold State.valueTicket
  dsimp only
  split <;> rfl

end Sys2Proof.Machine
end

section
/-! SUPPORT. The statements about valuation (Section 6). -/

namespace Sys2Proof.Machine

/-- Settles O21: each part of the state the event writes, then the frame. -/
theorem ticketValuation : Obligations.TicketValuation := by
  intro forced t s hn v a figs sum above blocked
  have hheld : s.valuationHeld forced t = true ↔ above ∨ blocked ∨ forced = true := State.valuationHeld_iff
  refine ⟨⟨(s.valuedTicket forced t).holds, fun _ => State.mem_valuedTicket_holds, State.valueTicket_tickets forced t s⟩,
    fun p hp ha => State.valueTicket_outstanding_line hn forced ha hp,
    fun c hc => State.valueTicket_outstanding_kept hn forced hc, State.valueTicket_account_counts hn forced,
    fun b hb => State.valueTicket_accounts_ne hb forced s, fun h => ?_, fun h => ?_, State.valueTicket_eq forced t s⟩
  · exact (State.valueTicket_office forced t s).trans (if_pos (hheld.2 h))
  · exact (State.valueTicket_office forced t s).trans (if_neg (mt hheld.1 h))

/-- Settles O22: the good items take up the float first, and no item is worth more than its class's deposit. -/
theorem lineFiguresFollowTheFloat : Obligations.LineFiguresFollowTheFloat := by
  intro r float l f dv fv
  have hgood : f.goodIn + f.goodOver = l.good := lineFigures_good r float l
  have hdamaged : f.damagedIn + f.damagedOver = l.damaged := lineFigures_damaged r float l
  refine ⟨?_, ?_, hgood, hdamaged, rfl, fun hr => ⟨?_, ?_, fun hl => lineFigures_value_max hr hl float⟩, fun hl => ?_⟩
  · rintro rfl
    exact ⟨rfl, rfl⟩
  · rintro o rfl
    exact ⟨rfl, rfl, lineFigures_within r o l⟩
  · exact reduced_mono hr.foreign r.damage
  · exact (reduced_le r.deposit r.damage).trans hr.deposit
  · have := hl.good
    have := hl.damaged
    omega

end Sys2Proof.Machine
end

section
/-! SUPPORT. Authorisation and the settled log (Section 7), said once: the checks of an Authorise in their order, the state and
the reply it leaves, what a Revoke takes back, and how the log gives up a record and lets a waiting one in. -/

namespace Sys2Proof.Machine

/-! ### Amounts read off a ticket and the dispenser (R124, R125, R129) -/

theorem Ticket.total_eq (t : Ticket) : t.total = (t.figures.map (·.total)).getD 0 := by
  unfold Ticket.total; cases t.figures <;> rfl

theorem Ticket.cash_eq (t : Ticket) : t.cash = (t.authorisation.map (·.cash)).getD 0 := by
  unfold Ticket.cash; cases t.authorisation <;> rfl

theorem Ticket.reversal_eq (t : Ticket) : t.reversal =
    if t.account.val = 0 then 0 else (t.figures.map (·.total)).getD 0 - (t.authorisation.map (·.cash)).getD 0 := by
  rw [Ticket.reversal, Ticket.total_eq, Ticket.cash_eq]

theorem Dispenser.un_eq (d : Dispenser) : d.un = (d.denoms.map (·.1)).getD 0 := by
  unfold Dispenser.un; cases d.denoms <;> rfl

theorem Dispenser.uc_eq (d : Dispenser) : d.uc = (d.denoms.map (·.2)).getD 0 := by
  unfold Dispenser.uc; cases d.denoms <;> rfl

theorem State.notesAvailable_eq (s : State) : s.notesAvailable = s.disp.note.stock -
    ((s.queue.map (·.notes)).sum + (s.disp.job.map fun j => j.plannedNotes - j.notes).getD 0) := by
  unfold State.notesAvailable State.committedNotes; cases s.disp.job <;> rfl

theorem State.coinsAvailable_eq (s : State) : s.coinsAvailable = s.disp.coin.stock -
    ((s.queue.map (·.coins)).sum + (s.disp.job.map fun j => j.plannedCoins - j.coins).getD 0) := by
  unfold State.coinsAvailable State.committedCoins; cases s.disp.job <;> rfl

theorem State.short_iff {notes coins : Nat} {s : State} :
    s.short notes coins = true ↔ s.notesAvailable < notes ∨ s.coinsAvailable < coins := by simp [State.short]

/-- A post that would take the balance beyond its limit does not fit (R29). -/
theorem Account.not_fits_iff {x : Nat} {a : Account} : (!a.fits x) = true ↔ 4294967295 < a.credit + x := by
  simp [Account.fits]

/-! ### Requests taken in one ticket state (R40) -/

section
variable {n : Nat} {t : Ticket} {s : State} (ht : s.ticket? n = some t) {st : TicketState} (block : Ticket → Answer)
include ht

theorem onTicket_inState (h : t.state = st) : onTicket n (fun u => u.state == st) block s = block t :=
  onTicket_taken ht (by simpa using h) block

theorem onTicket_notInState (h : t.state ≠ st) : onTicket n (fun u => u.state == st) block s = refuse .wrongState s :=
  onTicket_wrongState ht (by simpa using h) block

end

/-! ### The checks of an Authorise (R123) -/

/-- The ticket, as it stands, is kept from any Authorise (steps 1 to 3 of R123). -/
def State.HeldBack (t : Ticket) (s : State) : Prop :=
  t.saturated = true ∨ t.holds ≠ [] ∨ s.accounts[t.account].state = .blocked

/-- The means of an Authorise are not to be had: by a walk-in ticket, at that amount, or without denominations (steps 4 to 6 of
R123). -/
def State.MeansUnmet (m : Means) (amount : Nat) (t : Ticket) (s : State) : Prop :=
  (m ≠ .cash ∧ t.account.val = 0) ∨ (m = .split ∧ (amount = 0 ∨ t.total < amount)) ∨ (m ≠ .credit ∧ s.disp.denoms = none)

theorem authorise_badValue {k : Nat} (h : 2 < k) (n amount : Nat) (s : State) :
    authorise n k amount s = refuse .badValue s := by
  rw [authorise, Means.ofCode_eq_none.2 h]

section
variable {m : Means} {amount n : Nat} {t : Ticket} {s : State}

theorem authorise_wrongState (ht : s.ticket? n = some t) (h : t.state ≠ .valued) :
    authorise n m.code amount s = refuse .wrongState s :=
  (authorise_checked m n amount s).trans (onTicket_notInState ht _ h)

/-- On a VALUED ticket an Authorise answers what its own checks do. -/
theorem authorise_valued (ht : s.ticket? n = some t) (h : t.state = .valued) :
    authorise n m.code amount s = authoriseChecked m amount t s :=
  (authorise_checked m n amount s).trans (onTicket_inState ht _ h)

theorem authoriseChecked_saturated (h : t.saturated = true) : authoriseChecked m amount t s = refuse .saturated s := if_pos h

theorem authoriseChecked_held (h : t.saturated = false) (hh : t.holds ≠ []) :
    authoriseChecked m amount t s = refuse .held s := by
  rw [authoriseChecked, if_neg (Bool.eq_false_iff.1 h), if_pos (by simpa using hh)]

theorem authoriseChecked_blocked (h : t.saturated = false) (hh : t.holds = []) (hb : s.accounts[t.account].state = .blocked) :
    authoriseChecked m amount t s = refuse .accountBlocked s := by
  rw [authoriseChecked, if_neg (Bool.eq_false_iff.1 h), if_neg (by simp [hh]), if_pos hb]

variable {a : Authorisation} (ha : plan m t.total amount s.disp.un s.disp.uc = a) (h : ¬s.HeldBack t)
include ha h

/-- Nothing held back, the means come next. -/
theorem authoriseChecked_free : authoriseChecked m amount t s =
    if m ≠ .cash ∧ t.account.val = 0 then refuse .walkIn s
    else if m = .split ∧ (amount = 0 ∨ t.total < amount) then refuse .badValue s
    else if m ≠ .credit ∧ s.disp.denoms = none then refuse .stockShort s
    else if 0 < a.cash ∧ 8 ≤ s.queue.length then refuse .queueFull s
    else if 0 < a.cash ∧ s.short a.notes a.coins then refuse .stockShort s
    else if t.account.val ≠ 0 ∧ !s.accounts[t.account].fits (t.total - a.cash) then refuse .accountFull s
    else okay ((s.authorised t a).authorisedBody t.number a) (s.authorised t a) := by
  simp only [State.HeldBack, not_or, Classical.not_not] at h
  obtain ⟨hsat, hholds, hblocked⟩ := h
  rw [authoriseChecked, if_neg hsat, if_neg (by simp [hholds]), if_neg hblocked, ha]

/-- The means met, the queue, the stock and the balance decide. -/
theorem authoriseChecked_met (hm : ¬s.MeansUnmet m amount t) : authoriseChecked m amount t s =
    if 0 < a.cash ∧ 8 ≤ s.queue.length then refuse .queueFull s
    else if 0 < a.cash ∧ s.short a.notes a.coins then refuse .stockShort s
    else if t.account.val ≠ 0 ∧ !s.accounts[t.account].fits (t.total - a.cash) then refuse .accountFull s
    else okay ((s.authorised t a).authorisedBody t.number a) (s.authorised t a) := by
  obtain ⟨hwalkIn, hbad, hdenoms⟩ : _ ∧ _ ∧ _ := by simpa only [State.MeansUnmet, not_or] using hm
  rw [authoriseChecked_free ha h, if_neg hwalkIn, if_neg hbad, if_neg hdenoms]

end

/-! ### The effect of an Authorise (R33, R126) -/

/-- The part of the effect that stands apart from the ticket: the residue of a walk-in ticket, or the post to the account. -/
def State.paidIn (t : Ticket) (a : Authorisation) (s : State) : State :=
  if t.account.val = 0 then s.addResidue a.residue
  else s.setAccount t.account (s.accounts[t.account].post (t.total - a.cash))

theorem State.addResidue_eq (x : Nat) (s : State) : s.addResidue x =
    if x = 0 then s
    else if s.residue + x ≤ 4294967295 then { s with residue := s.residue + x }
    else { s with residue := 4294967295, acctPort := s.acctPort.place .residueSaturated } := rfl

/-- It touches the accounts, the residue counter and the notices of the accounts port (R29, R33). -/
theorem State.paidIn_shape (t : Ticket) (a : Authorisation) (s : State) : s.paidIn t a = { s with
    accounts := (s.paidIn t a).accounts, residue := (s.paidIn t a).residue, acctPort := (s.paidIn t a).acctPort } := by
  unfold State.paidIn; split
  · rw [State.addResidue_eq]; split
    · rfl
    · split <;> rfl
  · rfl

@[simp] theorem State.paidIn_tickets (t : Ticket) (a : Authorisation) (s : State) : (s.paidIn t a).tickets = s.tickets := by
  rw [State.paidIn_shape]
@[simp] theorem State.paidIn_queue (t : Ticket) (a : Authorisation) (s : State) : (s.paidIn t a).queue = s.queue := by
  rw [State.paidIn_shape]
@[simp] theorem State.paidIn_log (t : Ticket) (a : Authorisation) (s : State) : (s.paidIn t a).log = s.log := by
  rw [State.paidIn_shape]

section
variable {t : Ticket} {a : Authorisation} {s : State}

theorem State.paidIn_ticket? (n : Nat) : (s.paidIn t a).ticket? n = s.ticket? n :=
  State.ticket?_congr (State.paidIn_tickets t a s) n

/-- With cash to pay, the ticket becomes AUTHORISED and its job joins the tail of the queue. -/
theorem State.authorised_cash (h : 0 < a.cash) : s.authorised t a =
    { s.paidIn t a with
      tickets := s.tickets.map fun u =>
        if u.number = t.number then { t with state := .authorised, authorisation := some a } else u
      queue := s.queue ++ [{ ticket := t.number, amount := a.cash, notes := a.notes, coins := a.coins }] } := by
  rw [← State.paidIn_tickets t a s, ← State.paidIn_queue t a s]
  exact if_neg h.ne'

/-- Without cash the ticket settles at once. -/
theorem State.authorised_noCash (h : a.cash = 0) :
    s.authorised t a = (s.paidIn t a).settle { t with authorisation := some a } := if_pos h

/-- The reply shows the place the job has taken. -/
theorem State.authorisedBody_cash (ht : s.ticket? t.number = some t) (h : 0 < a.cash) :
    (s.authorised t a).authorisedBody t.number a =
      .authorised t.number .authorised a.credit a.cash a.notes a.coins a.residue (some (s.queue.length + 1)) := by
  have hslot : (s.authorised t a).slotState t.number = .authorised := by
    refine State.slotState_of (t := { t with state := .authorised, authorisation := some a })
      ((State.ticket?_congr ?_ _).trans (State.ticket?_putTicket ht rfl))
    rw [State.authorised_cash h]; rfl
  have hqueue : (s.authorised t a).queue.length = s.queue.length + 1 := by
    rw [State.authorised_cash h, List.length_append]; rfl
  rw [State.authorisedBody, hslot, if_pos rfl, hqueue]

/-- The reply shows the slot as the settlement leaves it, and no place in the queue. -/
theorem State.authorisedBody_noCash (ht : s.ticket? t.number = some t) (h : a.cash = 0) :
    (s.authorised t a).authorisedBody t.number a = .authorised t.number (if s.log.length < 64 then .free else .settled)
      a.credit 0 a.notes a.coins a.residue none := by
  have hslot : (s.authorised t a).slotState t.number = if s.log.length < 64 then .free else .settled := by
    rw [State.authorised_noCash h, ← State.paidIn_log t a s]
    exact State.settle_slotState (t := { t with authorisation := some a }) ((State.paidIn_ticket? _).trans ht)
  have hsettled : (s.authorised t a).slotState t.number ≠ .authorised := by
    rw [hslot]; split <;> decide
  rw [State.authorisedBody, if_neg hsettled, hslot, h]

end

/-! ### Revoke (R129) -/

section
variable {n : Nat} {t : Ticket} {s : State} (ht : s.ticket? n = some t)
include ht

theorem revoke_wrongState (h : t.state ≠ .authorised) : revoke n s = refuse .wrongState s :=
  onTicket_notInState ht _ h

variable (hst : t.state = .authorised)
include hst

/-- The Revoke of a ticket never paid from turns on what the balance still holds. -/
theorem revoke_unpaid (h : t.progress = none) : revoke n s =
    if s.accounts[t.account].credit < t.reversal then refuse .creditCollected s
    else okay (.ticketState n .valued)
      (((s.dropJob n).putTicket { t with state := .valued, authorisation := none }).setAccount t.account
        (s.accounts[t.account].debit t.reversal)) := by
  rw [revoke, onTicket_inState ht _ hst, h]

theorem revoke_retried (h : t.progress.isSome = true) :
    revoke n s = okay (.ticketState n .payFault) ((s.dropJob n).putTicket { t with state := .payFault }) := by
  obtain ⟨p, hp⟩ := Option.isSome_iff_exists.1 h
  rw [revoke, onTicket_inState ht _ hst, hp]

end

/-! ### The log (R137, R139) -/

/-- The record that brings the log to 64 tells both ports. -/
theorem State.enterLog_eq (r : LogRecord) (s : State) : s.enterLog r = { s with
    log := s.log ++ [r]
    acctPort := if s.log.length + 1 = 64 then (s.acctPort.place .logReady).place .logFull else s.acctPort.place .logReady
    office := if s.log.length + 1 = 64 then s.office.place .logFull else s.office } := by
  have hlength : (s.log ++ [r]).length = s.log.length + 1 := by rw [List.length_append]; rfl
  by_cases hfull : s.log.length + 1 = 64
  · rw [if_pos hfull, if_pos hfull]; exact if_pos (hlength.trans hfull)
  · rw [if_neg hfull, if_neg hfull]; exact if_neg fun h => hfull (hlength.symm.trans h)

theorem State.admitWaiting_nil {s : State} (h : s.waiting = []) : s.admitWaiting = s := by rw [State.admitWaiting, h]

theorem State.admitWaiting_cons {m : Nat} {others : List Nat} {t : Ticket} {kept : LogRecord} {s : State}
    (hw : s.waiting = m :: others) (ht : s.ticket? m = some t) (hr : t.record = some kept) :
    s.admitWaiting = State.enterLog kept (State.dropTicket m { s with waiting := others }) := by
  simp only [State.admitWaiting, hw, ht, hr]

/-- An empty log, and one whose oldest record has another number. -/
theorem takeLog_mismatch {n : Nat} {s : State} (h : ∀ r, s.log.head? = some r → r.number ≠ n) :
    takeLog n s = { state := s, result := .mismatch, body := .oldest (s.log.head?.map (·.number)) } := by
  rcases hlog : s.log with _ | ⟨r, rest⟩
  · rw [takeLog, hlog]; rfl
  · have hr : r.number ≠ n := h r (by rw [hlog]; rfl)
    simp only [takeLog, hlog, if_neg hr]
    rfl

/-- The oldest record leaves, and the log lets in what waits. -/
theorem takeLog_oldest {r : LogRecord} {rest : List LogRecord} {s : State} (h : s.log = r :: rest) :
    takeLog r.number s = okay (.logCount (State.admitWaiting { s with log := rest }).log.length)
      (State.admitWaiting { s with log := rest }) := by
  simp only [takeLog, h, if_true]

end Sys2Proof.Machine
end

section
/-! SUPPORT. The statements about authorisation and the settled log (Section 7): each request's answer, put through its port. -/

namespace Sys2Proof.Machine

/-- Settles O38: what holds the ticket back, then the means, then the queue, the stock and the balance; and the two ends of an
Authorise that passes, with cash and without. -/
theorem authorisePlansAndQueues : Obligations.AuthorisePlansAndQueues := by
  intro n x m t s hp ht i total un uc a acct committed notes coins refusedWith held unmet short stuck full paidIn
  obtain rfl := State.ticket?_number ht
  have htotal : t.total = total := Ticket.total_eq t
  have hplan : plan m t.total x s.disp.un s.disp.uc = a := by rw [htotal, Dispenser.un_eq, Dispenser.uc_eq]
  have hunmet : s.MeansUnmet m x t ↔ unmet := by rw [State.MeansUnmet, htotal]
  have hshort : s.short a.notes a.coins = true ↔ short := by
    rw [State.short_iff, State.notesAvailable_eq, State.coinsAvailable_eq]
  have hfull : (t.account.val ≠ 0 ∧ (!acct.fits (total - a.cash)) = true) ↔ full := and_congr_right' Account.not_fits_iff
  have hpaidIn : s.paidIn t a = paidIn := by rw [State.paidIn, State.addResidue_eq, htotal]; rfl
  refine ⟨fun k hk => request_answers hp rfl _ (authorise_badValue hk t.number x s),
    fun hst => request_answers hp rfl i (authorise_wrongState ht hst), fun hst => ?_⟩
  have answers : ∀ {u r b}, authoriseChecked m x t s = { state := u, result := r, body := b } →
      exec i s = .next (u.answered .office i (ReqName.auth.reply r b)) := fun h =>
    request_answers hp rfl i ((authorise_valued ht hst).trans h)
  have hmeans := fun h : ¬held => authoriseChecked_free hplan h
  have hlast := fun (h : ¬held) (hm : ¬unmet) => authoriseChecked_met hplan h (mt hunmet.1 hm)
  rw [htotal] at hmeans hlast
  have hbalance : ¬held → ¬unmet → ¬stuck → authoriseChecked m x t s =
      if t.account.val ≠ 0 ∧ !acct.fits (total - a.cash) then refuse .accountFull s
      else okay ((s.authorised t a).authorisedBody t.number a) (s.authorised t a) := fun h hm hs =>
    ((hlast h hm).trans (if_neg fun ⟨hcash, hq⟩ => hs ⟨hcash, .inl hq⟩)).trans
      (if_neg fun ⟨hcash, hq⟩ => hs ⟨hcash, .inr (hshort.1 hq)⟩)
  refine ⟨fun hsat => ?_, fun hsat hholds => ?_, fun hsat hholds hb => ?_, fun h hc hw => ?_, fun h hw hsp hx => ?_,
    fun h hw hsp hc hd => ?_, fun h hm hcash hq => ?_, fun h hm hcash hq hs => ?_, fun h hm hs hf => ?_,
    fun h hm hs hf hcash => ?_, fun h hm hs hf hcash => ?_⟩
  · exact answers (authoriseChecked_saturated hsat)
  · exact answers (authoriseChecked_held hsat hholds)
  · exact answers (authoriseChecked_blocked hsat hholds hb)
  · exact answers ((hmeans h).trans (if_pos ⟨hc, hw⟩))
  · exact answers (((hmeans h).trans (if_neg hw)).trans (if_pos ⟨hsp, hx⟩))
  · exact answers ((((hmeans h).trans (if_neg hw)).trans (if_neg hsp)).trans (if_pos ⟨hc, hd⟩))
  · exact answers ((hlast h hm).trans (if_pos ⟨hcash, hq⟩))
  · exact answers (((hlast h hm).trans (if_neg fun ⟨_, hlong⟩ => Nat.not_le.2 hq hlong)).trans (if_pos ⟨hcash, hshort.2 hs⟩))
  · exact answers ((hbalance h hm hs).trans (if_pos (hfull.2 hf)))
  · have hok := (hbalance h hm hs).trans (if_neg (mt hfull.1 hf))
    rw [State.authorisedBody_cash ht hcash, State.authorised_cash hcash, hpaidIn] at hok
    exact answers hok
  · have hok := (hbalance h hm hs).trans (if_neg (mt hfull.1 hf))
    rw [State.authorisedBody_noCash ht hcash, State.authorised_noCash hcash, hpaidIn] at hok
    exact answers hok

/-- Settles O40, by whether a payout of the ticket has begun, and then by what the balance still holds. -/
theorem revokeTakesTheJobBack : Obligations.RevokeTakesTheJobBack := by
  intro n t s hp ht i acct total cash back left
  obtain rfl := State.ticket?_number ht
  have hback : t.reversal = back := Ticket.reversal_eq t
  refine ⟨fun hst => ?_, fun hst => ⟨fun hnone hlow => ?_, fun hnone hholds => ?_, fun hsome => ?_⟩⟩
  · exact request_answers hp rfl i (revoke_wrongState ht hst)
  · rw [← hback] at hlow
    exact request_answers hp rfl i ((revoke_unpaid ht hst hnone).trans (if_pos hlow))
  · rw [← hback] at hholds ⊢
    exact request_answers hp rfl i ((revoke_unpaid ht hst hnone).trans (if_neg (Nat.not_lt.2 hholds)))
  · exact request_answers hp rfl i (revoke_retried ht hst hsome)

/-- Settles O42: the record taken is the log's head, and the record that enters is the head of the waiting order's. -/
theorem peekAndTakeLog : Obligations.PeekAndTakeLog := by
  intro n s hp peek take
  refine ⟨request_answers hp rfl peek rfl, fun h => request_answers hp rfl take (takeLog_mismatch h), ?_⟩
  rintro r rest hlog rfl
  refine ⟨fun hw => ?_, fun m others t kept hw ht hr => ?_⟩
  · have hok := takeLog_oldest hlog
    rw [State.admitWaiting_nil (s := { s with log := rest }) hw] at hok
    exact request_answers hp rfl take hok
  · have hok := takeLog_oldest hlog
    rw [State.admitWaiting_cons (s := { s with log := rest }) hw ht hr, State.enterLog_log, State.enterLog_eq,
      List.length_append] at hok
    exact request_answers hp rfl take hok

end Sys2Proof.Machine
end

section
/-! SUPPORT. The requests of the cash dispenser (Section 8), said once: the settings that fit, the cash that is unpaid, what a
refilled or cleared channel shows, and where a channel is not named. -/

namespace Sys2Proof.Machine

/-! ### The checks of Set Dispenser (R144) -/

theorem settingsFit_iff {v : DispenserSettings} : settingsFit v = true ↔
    100 ≤ v.un ∧ v.un ≤ 100000 ∧ 1 ≤ v.uc ∧ v.uc ≤ v.un ∧ v.uc ∣ v.un ∧ 20 ≤ v.vendPulse ∧ v.vendPulse ≤ 500 ∧
      500 ≤ v.jamTime ∧ v.jamTime ≤ 10000 ∧ 10 ≤ v.doublePick ∧ v.doublePick ≤ 500 ∧ v.noteLow ≤ 9999 ∧ v.coinLow ≤ 65535 := by
  simp [settingsFit, inRange_iff, Nat.dvd_iff_mod_eq_zero, and_assoc]

theorem State.cashOpen_iff {s : State} : s.cashOpen = true ↔
    s.queue ≠ [] ∨ ∃ t ∈ s.tickets, t.state = .paying ∨ t.state = .payFault := by
  simp [State.cashOpen]

theorem setDispenser_badValue {v : DispenserSettings} (h : ¬settingsFit v = true) (s : State) :
    setDispenser v s = refuse .badValue s := if_pos (by simp [h])

/-- What settings that fit do: they are stored together, unless cash is unpaid (R144). -/
theorem setDispenser_checked {v : DispenserSettings} (h : settingsFit v = true) (s : State) : setDispenser v s =
    if s.cashOpen then refuse .busy s
    else okay (.settings v) (s.setDisp { s.disp with
      denoms := some (v.un, v.uc), vendPulse := v.vendPulse, jamTime := v.jamTime, doublePick := v.doublePick
      noteLow := v.noteLow, coinLow := v.coinLow }) := if_neg (by simp [h])

/-! ### The records of the two channels (R145, R146) -/

@[simp] theorem Dispenser.setChannel_channel (c : Channel) (r : ChannelRecord) (d : Dispenser) :
    (d.setChannel c r).channel c = r := by cases c <;> rfl

@[simp] theorem Dispenser.setChannel_low (c e : Channel) (r : ChannelRecord) (d : Dispenser) :
    (d.setChannel c r).low e = d.low e := by cases c <;> rfl

theorem State.channelBody_setChannel (c : Channel) (r : ChannelRecord) (s : State) :
    (s.setDisp (s.disp.setChannel c r)).channelBody c = .channel r (s.disp.low c) := by
  simp [State.channelBody]

/-- A Refill leaves a FAULT channel in FAULT (R146). -/
theorem ChannelRecord.refilled_fault {r : ChannelRecord} (h : r.state = .fault) (n : Nat) :
    r.refilled n = { state := .fault, stock := n } := by
  simp [ChannelRecord.refilled, h]

/-- Any other channel takes the state that goes with its new stock (R146). -/
theorem ChannelRecord.refilled_rest {r : ChannelRecord} (h : r.state ≠ .fault) (n : Nat) :
    r.refilled n = { state := if n = 0 then .empty else .ready, stock := n } := by
  unfold ChannelRecord.refilled; split
  next hf => exact absurd hf h
  next => rfl

/-! ### Refill and Clear Channel (R146, R147) -/

/-- Two channels have a code. -/
theorem Channel.ofCode_unnamed {k : Nat} (h : 1 < k) : Channel.ofCode k = none := Channel.ofCode_eq_none.2 h

theorem refill_unnamed {k : Nat} (h : 1 < k) (n : Nat) (s : State) : refill k n s = refuse .badValue s := by
  rw [refill, Channel.ofCode_unnamed h]

theorem clearChannel_unnamed {k : Nat} (h : 1 < k) (s : State) : clearChannel k s = refuse .badValue s := by
  rw [clearChannel, Channel.ofCode_unnamed h]

/-- The checks of a Refill that names a channel, and its effect (R146). -/
theorem refill_checked (c : Channel) (n : Nat) (s : State) : refill c.code n s =
    if stockMax c < n then refuse .badValue s
    else if (s.disp.channel c).state = .running then refuse .busy s
    else okay (.channel ((s.disp.channel c).refilled n) (s.disp.low c))
      (s.setDisp (s.disp.setChannel c ((s.disp.channel c).refilled n))) := by
  simp only [refill, Channel.ofCode_code, State.channelBody_setChannel]

/-- The check of a Clear Channel that names a channel, and its effect (R147). -/
theorem clearChannel_checked (c : Channel) (s : State) : clearChannel c.code s =
    if (s.disp.channel c).state = .fault then
      okay (.channel (s.disp.channel c).rest (s.disp.low c)) (s.setDisp (s.disp.setChannel c (s.disp.channel c).rest))
    else refuse .wrongState s := by
  simp only [clearChannel, Channel.ofCode_code, State.channelBody_setChannel]

section
variable {c : Channel} {n : Nat} {s : State} (hmax : n ≤ stockMax c)
include hmax

theorem refill_running (h : (s.disp.channel c).state = .running) : refill c.code n s = refuse .busy s := by
  rw [refill_checked, if_neg (Nat.not_lt.2 hmax), if_pos h]

/-- A Refill in range of a channel at rest or in FAULT is done. -/
theorem refill_fills (h : (s.disp.channel c).state ≠ .running) : refill c.code n s =
    okay (.channel ((s.disp.channel c).refilled n) (s.disp.low c))
      (s.setDisp (s.disp.setChannel c ((s.disp.channel c).refilled n))) := by
  rw [refill_checked, if_neg (Nat.not_lt.2 hmax), if_neg h]

end

end Sys2Proof.Machine
end

section
/-! SUPPORT. The statements about the requests of the cash dispenser (Section 8): each request's answer, put through its port. -/

namespace Sys2Proof.Machine

/-- Settles O44: the checks of each request one by one; a Refill or Clear Channel that passes them shows the record it leaves. -/
theorem dispenserRequests : Obligations.DispenserRequests := by
  intro v c n s hp sdsp fill clrc ranges open_ r low most with_ rests refusedWith shows
  have hfills : n ≤ most → r.state ≠ .running → shows fill .fill (r.refilled n) := fun hn hst =>
    request_answers hp rfl fill (refill_fills hn hst)
  refine ⟨fun hbad => ?_, fun hfit hopen => ?_, fun hfit hpaid => ?_, fun hn => ?_, fun hn hst => ?_, fun hn hst => ?_,
    fun hn hst => ?_, fun hst => ?_, fun hst => ?_, fun k hk => ⟨?_, ?_⟩⟩
  · exact request_answers hp rfl sdsp (setDispenser_badValue (mt settingsFit_iff.1 hbad) s)
  · exact request_answers hp rfl sdsp
      ((setDispenser_checked (settingsFit_iff.2 hfit) s).trans (if_pos (State.cashOpen_iff.2 hopen)))
  · exact request_answers hp rfl sdsp
      ((setDispenser_checked (settingsFit_iff.2 hfit) s).trans (if_neg (mt State.cashOpen_iff.1 hpaid)))
  · exact request_answers hp rfl fill ((refill_checked c n s).trans (if_pos hn))
  · exact request_answers hp rfl fill (refill_running hn hst)
  · rw [← ChannelRecord.refilled_fault hst]
    exact hfills hn (by simp [hst])
  · have hidle : r.state ≠ .fault ∧ r.state ≠ .running := by rcases hst with hst | hst <;> simp [hst]
    have hrest : r.refilled n = { state := rests n, stock := n } := ChannelRecord.refilled_rest hidle.1 n
    rw [← hrest]
    exact hfills hn hidle.2
  · exact request_answers hp rfl clrc ((clearChannel_checked c s).trans (if_neg hst))
  · exact request_answers hp rfl clrc ((clearChannel_checked c s).trans (if_pos hst))
  · exact request_answers hp rfl _ (refill_unnamed hk n s)
  · exact request_answers hp rfl _ (clearChannel_unnamed hk s)

end Sys2Proof.Machine
end

section
/-! SUPPORT. The statement about Read Notices (R184): which port's set it reads, and the answer put through that port. -/

namespace Sys2Proof.Machine

theorem ReqName.rnot_permitted (p : Port) : ReqName.rnot.permitted p = true := by cases p <;> rfl

/-- A Read Notices reads the set of the port it came in on, and of no other (R184). -/
theorem exec_readNotices_onPort (p : Port) (s : State) :
    exec (.readNotices p.sent) s = request p.sent (.readNotices p.sent) .rnot (readNotices p) s := by
  cases p <;> rfl

/-- The block's answer: the set as it stood, and the port's record with the set empty and the line released (R184). -/
theorem readNotices_answer (p : Port) (s : State) : readNotices p s =
    okay (.notices (s.port p).notices) (s.setPort p { s.port p with notices := [], attention := false }) := rfl

/-- Settles O6: the request goes to the block of its own port, whose answer the port sends. -/
theorem readNoticesEmptiesItsSet : Obligations.ReadNoticesEmptiesItsSet := by
  intro p s hp
  rw [exec_readNotices_onPort]
  exact request_answers hp (ReqName.rnot_permitted p) _ (readNotices_answer p s)

end Sys2Proof.Machine
end

section
/-! SUPPORT. What each command leaves unchanged, said once: the fields of the state, the fields in which two states may differ,
and for every command the fields it can touch. An invariant that reads none of them is kept. -/

namespace Sys2Proof.Machine

/-! ### Fields -/

/-- The fields of `State`, by name. -/
inductive Field where
  | classes | changes | accounts | residue | tickets | nextNumber | reviewThreshold | closeWait | closingOrder | tags | watch
  | pulse | queue | log | waiting | disp | bus | office | acctPort | clock | lossMark | marker | check | power | now | draws
  | pending

/-- Two states hold the same in a field. -/
def Field.agrees (s t : State) : Field → Prop
  | .classes => t.classes = s.classes
  | .changes => t.changes = s.changes
  | .accounts => t.accounts = s.accounts
  | .residue => t.residue = s.residue
  | .tickets => t.tickets = s.tickets
  | .nextNumber => t.nextNumber = s.nextNumber
  | .reviewThreshold => t.reviewThreshold = s.reviewThreshold
  | .closeWait => t.closeWait = s.closeWait
  | .closingOrder => t.closingOrder = s.closingOrder
  | .tags => t.tags = s.tags
  | .watch => t.watch = s.watch
  | .pulse => t.pulse = s.pulse
  | .queue => t.queue = s.queue
  | .log => t.log = s.log
  | .waiting => t.waiting = s.waiting
  | .disp => t.disp = s.disp
  | .bus => t.bus = s.bus
  | .office => t.office = s.office
  | .acctPort => t.acctPort = s.acctPort
  | .clock => t.clock = s.clock
  | .lossMark => t.lossMark = s.lossMark
  | .marker => t.marker = s.marker
  | .check => t.check = s.check
  | .power => t.power = s.power
  | .now => t.now = s.now
  | .draws => t.draws = s.draws
  | .pending => t.pending = s.pending

theorem Field.agrees_refl (f : Field) (s : State) : f.agrees s s := by cases f <;> rfl

theorem Field.agrees_trans {f : Field} {s t u : State} (h : f.agrees s t) (k : f.agrees t u) : f.agrees s u := by
  cases f <;> exact Eq.trans k h

/-- The two states differ in the fields of a list at most. -/
def State.Touches (fs : List Field) (s t : State) : Prop := ∀ f, f ∉ fs → f.agrees s t

/-- The fields of `State` in their order. -/
def Field.all : List Field :=
  [.classes, .changes, .accounts, .residue, .tickets, .nextNumber, .reviewThreshold, .closeWait, .closingOrder, .tags, .watch,
    .pulse, .queue, .log, .waiting, .disp, .bus, .office, .acctPort, .clock, .lossMark, .marker, .check, .power, .now, .draws,
    .pending]

theorem Field.all_ctorIdx (f : Field) : Field.all[f.ctorIdx]? = some f := by cases f <;> rfl

theorem Field.ctorIdx_inj {f g : Field} (h : f.ctorIdx = g.ctorIdx) : f = g :=
  Option.some.inj (by rw [← f.all_ctorIdx, h, g.all_ctorIdx])

/-- Whether a list names a field. -/
def Field.listed (fs : List Field) (f : Field) : Bool := fs.any fun g => g.ctorIdx == f.ctorIdx

theorem Field.listed_iff {fs : List Field} {f : Field} : Field.listed fs f = true ↔ f ∈ fs := by
  simp only [Field.listed, List.any_eq_true, beq_iff_eq]
  exact ⟨fun ⟨g, hg, he⟩ => Field.ctorIdx_inj he ▸ hg, fun h => ⟨f, h, rfl⟩⟩

/-- An operation touches the fields of a list at most, where every field of the state after it, or of the state before it if the
list names the field, is that of the state before it. Of a field and a list written out both are the same by definition. -/
theorem State.Touches.of_left {fs : List Field} {s t : State}
    (h : ∀ f : Field, f.agrees s (bif Field.listed fs f then s else t)) : s.Touches fs t := by
  intro f hf
  have hout : Field.listed fs f = false := by rwa [← Bool.not_eq_true, Field.listed_iff]
  have hleft := h f
  rwa [hout] at hleft

theorem State.Touches.refl (fs : List Field) (s : State) : s.Touches fs s := fun f _ => f.agrees_refl s

theorem State.Touches.trans {fs : List Field} {s t u : State} (h : s.Touches fs t) (k : t.Touches fs u) : s.Touches fs u :=
  fun f hf => Field.agrees_trans (h f hf) (k f hf)

theorem State.Touches.mono {fs gs : List Field} {s t : State} (h : s.Touches fs t) (hs : fs ⊆ gs) : s.Touches gs t :=
  fun f hf => h f fun hm => hf (hs hm)

/-- A predicate that reads the fields of a list only. -/
def Reads (I : State → Prop) (fs : List Field) : Prop := ∀ s t : State, (∀ f ∈ fs, f.agrees s t) → I s → I t

/-- A predicate stands where nothing that it reads is touched. -/
theorem Reads.kept {I : State → Prop} {fs gs : List Field} (hI : Reads I fs) {s t : State} (h : s.Touches gs t)
    (hd : ∀ f ∈ fs, f ∉ gs) (hs : I s) : I t := hI s t (fun f hf => h f (hd f hf)) hs

/-- The fields the reply of a request is put in, with the check field that follows it (R169, R181, R192). -/
def replyFields : List Field := [.office, .acctPort, .bus, .check]

/-- What the passing of time touches (R187; log entry 22). -/
def timeFields : List Field := [.now, .bus]

/-- What a valuation touches (R108). -/
def valuationFields : List Field := [.tickets, .closingOrder, .accounts, .office]

/-- What the end of a ticket touches (R83, R135, R137). -/
def finishFields : List Field := [.tickets, .tags, .log, .waiting, .office, .acctPort]

/-- What applying the due changes touches (R12). -/
def scheduleFields : List Field := [.changes, .classes, .office]

/-- What an event of the paying job touches (R151 to R158). -/
def payoutFields : List Field := [.now, .bus, .disp, .tickets, .tags, .log, .waiting, .office, .acctPort, .check]

/-- What phases 1 to 4 of a warm start touch, and a stop that cuts them (R193). -/
def warmFields : List Field :=
  [.pulse, .disp, .bus, .office, .acctPort, .clock, .power, .lossMark, .changes, .classes, .tickets, .closingOrder, .accounts,
   .marker, .check]

/-- The fields the effect of a command can touch: for a request what its block can do, its reply apart. -/
@[simp] def effectFields : Instr → List Field
  | .openTicket .. => [.tickets, .nextNumber]
  | .attachLane .. | .release .. => [.tickets]
  | .detachLane .. | .closeTicket .. | .laneDone .. => valuationFields
  | .reopen .. => [.tickets, .accounts]
  | .void .. => .closingOrder :: .accounts :: finishFields
  | .setLimits .. => [.reviewThreshold, .closeWait]
  | .authorise .. => .residue :: .accounts :: .queue :: finishFields
  | .revoke .. => [.queue, .tickets, .accounts]
  | .resolveRetry .. => .queue :: finishFields
  | .resolveConvert .. => .accounts :: finishFields
  | .resolveManual .. | .takeLog .. => finishFields
  | .assignStrays .. => [.pulse, .tickets]
  | .setClass .. | .cancelChange .. => [.classes, .changes]
  | .readTicket .. | .readTicketTable .. | .readClass .. | .readStatus ..
  | .readAccount .. | .readResidue .. | .peekLog .. | .laneQuery .. => []
  | .unknownRequest .. => replyFields
  | .readNotices .. => [.office, .acctPort]
  | .setLaneStation .. => [.bus]
  | .setLanePulse .. => [.pulse, .office]
  | .setDispenser .. | .refill .. | .clearChannel .. => [.disp]
  | .watchAdd .. | .watchRemove .. | .watchList .. => [.watch, .draws]
  | .setTime .. => .clock :: scheduleFields
  | .makeAccount .. | .setAccountState .. | .deleteAccount .. | .issue .. | .adjust .. | .collect .. => [.accounts]
  | .clearResidue .. => [.residue]
  | .arrive .. => [.tickets, .tags, .office]
  | .closeWaitExpiry .. => .check :: timeFields ++ valuationFields
  | .clockAdvance => .check :: .clock :: timeFields ++ scheduleFields
  | .crystalLoss .. => .clock :: .office :: timeFields
  | .crystalReturn .. => .clock :: timeFields
  | .backupCrystalStop .. => [.power, .lossMark, .clock]
  | .backupLow => [.marker]
  | .powerStop .. => [.power, .disp, .bus, .office, .acctPort, .clock]
  | .warmStart .. => warmFields
  | .coldStart .. =>
    [.residue, .nextNumber, .reviewThreshold, .closeWait, .tags, .watch, .queue, .log, .waiting, .now, .draws] ++ warmFields
  | .portLineError .. | .portGapTimeout .. | .portIdleRecover .. | .portOverrun .. | .portReplyEnd .. | .requestFrameStart .. =>
    .office :: .acctPort :: timeFields
  | .lreqChange .. | .laneFrameError .. | .laneCharTimeout .. | .laneReplyEnd .. => .check :: timeFields
  | .frameStart .. => timeFields
  | .grantMiss => .office :: .check :: timeFields
  | .peyeTransition .. => .pulse :: .tickets :: .office :: .check :: timeFields
  | .stall .. => .pulse :: .office :: .check :: timeFields
  | .jobTake .. => .queue :: payoutFields
  | .noteVendEnd .. | .noteExitStart .. | .noteExitEnd .. | .noteJamTimeout | .coinExitStart .. | .coinGapTimeout
  | .coinEmptyAsserted .. | .runOnEnd => payoutFields
  | .inputsSettled .. => .power :: .pulse :: .disp :: .check :: timeFields

/-- The fields a command can touch: those of its effect, and for a request those of its reply (R169, R181). -/
@[simp] def fieldsOf (c : Instr) : List Field :=
  match c.source? with
  | some _ => replyFields ++ effectFields c
  | none => effectFields c

end Sys2Proof.Machine
end

section
/-! SUPPORT. What each request can do to the state, said once: it leaves the state as it was, or it has its one effect, under the
checks that let it through. An invariant is kept by a request where it is kept by the effect. -/

namespace Sys2Proof.Machine

section Blocks

variable {P : State → Prop} {s : State}

/-! ### The checks many requests begin with -/

theorem onTicket_elim {n : Nat} {allowed : Ticket → Bool} {block : Ticket → Answer} (h0 : P s)
    (h : ∀ t, s.ticket? n = some t → allowed t = true → P (block t).state) : P (onTicket n allowed block s).state := by
  unfold onTicket
  split
  · exact h0
  · rename_i t ht
    split
    · exact h t ht ‹_›
    · exact h0

theorem onAccount_elim {a : AccountId} {block : Account → Answer} (h0 : P s)
    (h : a.val ≠ 0 → s.accounts[a].state ≠ .unused → P (block s.accounts[a]).state) : P (onAccount a block s).state := by
  unfold onAccount
  split
  · exact h0
  · split
    · exact h0
    · exact h ‹_› ‹_›

theorem onGrantedLane_elim {block : StationLane → Answer} (h0 : P s) (h : ∀ l, P (block l).state) :
    P (onGrantedLane block s).state := by
  unfold onGrantedLane
  split
  · exact h _
  · exact h0

/-! ### Tickets (Section 3) -/

theorem openTicket_elim {a : AccountId} {lanes : List Nat} (h0 : P s)
    (h : s.accounts[a].state ≠ .unused → lanesFit lanes = true → (∀ l ∈ lanes, s.feeding l = none) → s.tickets.length < 16 →
      P { s with tickets := s.tickets ++ [s.newTicket a lanes], nextNumber := nextTicketNumber s.takenNumber }) :
    P (openTicket a lanes s).state := by
  unfold openTicket
  split
  · exact h0
  · split
    · exact h0
    · split
      · exact h0
      · rename_i hfree
        split
        · exact h0
        · exact h ‹_› (by simpa using ‹¬(!lanesFit lanes) = true›) (by simpa using hfree) (Nat.lt_of_not_le ‹_›)

theorem attachLane_elim {n lane : Nat} (h0 : P s)
    (h : ∀ t, s.ticket? n = some t → laneFits lane = true → t.mayAttach lane = true → s.feeding lane = none →
      t.attachments.length < 4 → P (s.putTicket { t with attachments := t.attachments ++ [{ lane := lane, taken := 0 }] })) :
    P (attachLane n lane s).state := by
  unfold attachLane
  split
  · exact h0
  · refine onTicket_elim h0 fun t ht hm => ?_
    split
    · exact h0
    · split
      · exact h0
      · exact h t ht (by simpa using ‹¬(!laneFits lane) = true›) hm (by simpa using ‹¬(s.feeding lane).isSome = true›)
          (Nat.lt_of_not_le ‹_›)

theorem State.detachLane_elim {lane : Nat} {t : Ticket}
    (hv : t.state = .closing → P (s.valueTicket false (t.detach lane))) (hp : P (s.putTicket (t.detach lane))) :
    P (s.detachLane lane t) := by
  unfold State.detachLane
  dsimp only
  split
  · rename_i hc
    exact hv hc.1
  · exact hp

theorem detachLane_elim {n lane : Nat} (h0 : P s)
    (h : ∀ t, s.ticket? n = some t → t.takesArrivals = true → P (s.detachLane lane t)) : P (detachLane n lane s).state := by
  unfold detachLane
  split
  · exact h0
  · refine onTicket_elim h0 fun t ht ha => ?_
    split
    · exact h0
    · exact h t ht ha

theorem closeTicket_elim {n : Nat} (h0 : P s)
    (hc : ∀ t, s.ticket? n = some t → t.state = .opened → P (s.startClosing t.dropPulseLanes))
    (hv : ∀ t, s.ticket? n = some t → t.state = .opened → P (s.valueTicket false t.dropPulseLanes)) :
    P (closeTicket n s).state := by
  unfold closeTicket
  refine onTicket_elim h0 fun t ht ho => ?_
  dsimp only
  split
  · exact hc t ht (by simpa using ho)
  · exact hv t ht (by simpa using ho)

theorem reopen_elim {n : Nat} (h0 : P s)
    (h : ∀ t, s.ticket? n = some t → t.state = .valued → P ((s.restoreTicket t).putTicket t.reopened)) :
    P (reopen n s).state :=
  onTicket_elim h0 fun t ht hv => h t ht (by simpa using hv)

theorem voidTicket_elim {n : Nat} (h0 : P s) (h : ∀ t, s.ticket? n = some t → t.voidable = true → P (s.voidTicket t)) :
    P (voidTicket n s).state :=
  onTicket_elim h0 h

theorem release_elim {n : Nat} {codes : List Nat} (h0 : P s)
    (h : ∀ t rs, s.ticket? n = some t → t.voidable = true → P (s.putTicket { t with holds := dropHolds rs t.holds })) :
    P (release n codes s).state := by
  unfold release
  split
  · exact h0
  · refine onTicket_elim h0 fun t ht hv => ?_
    split
    · exact h0
    · exact h t _ ht hv

theorem setLimits_elim {threshold closeWait : Nat} (h0 : P s)
    (h : threshold ≤ 4294967295 → 5 ≤ closeWait ∧ closeWait ≤ 600 →
      P { s with reviewThreshold := threshold, closeWait := closeWait }) :
    P (setLimits threshold closeWait s).state := by
  unfold setLimits
  split
  · rename_i hr
    simp only [Config.moneyMax, Bool.and_eq_true, decide_eq_true_eq, inRange_iff] at hr
    exact h hr.1 hr.2
  · exact h0

theorem readTicket_state (n : Nat) (s : State) : (readTicket n s).state = s := by
  unfold readTicket
  split
  · rfl
  · split <;> rfl

/-! ### Settlement and the log (Section 7) -/

/-- What lets an Authorise through that plans cash (R123). -/
structure State.CashMet (a : Authorisation) (s : State) : Prop where
  room : s.queue.length < 8
  inStock : s.short a.notes a.coins = false

theorem authorise_elim {n k amount : Nat} (h0 : P s)
    (h : ∀ m t, s.ticket? n = some t → t.state = .valued → t.saturated = false →
      (m = .split → 0 < amount ∧ amount ≤ t.total) → (m ≠ .credit → s.disp.denoms.isSome = true) →
      (0 < (plan m t.total amount s.disp.un s.disp.uc).cash → s.CashMet (plan m t.total amount s.disp.un s.disp.uc)) →
      (t.account.val ≠ 0 →
        s.accounts[t.account].credit + (t.total - (plan m t.total amount s.disp.un s.disp.uc).cash) ≤ 4294967295) →
      P (s.authorised t (plan m t.total amount s.disp.un s.disp.uc))) :
    P (authorise n k amount s).state := by
  unfold authorise
  split
  · exact h0
  · rename_i m _
    refine onTicket_elim h0 fun t ht hv => ?_
    unfold authoriseChecked
    dsimp only
    split
    · exact h0
    split
    · exact h0
    split
    · exact h0
    split
    · exact h0
    split
    · exact h0
    split
    · exact h0
    split
    · exact h0
    split
    · exact h0
    split
    · exact h0
    rename_i hsat _ _ _ hsplit hden hroom hshort hfits
    refine h m t ht (by simpa using hv) (by simpa using hsat) (fun hm => ?_) (fun hm => ?_) (fun hc => ⟨?_, ?_⟩) fun ha => ?_
    · simp only [hm, true_and, not_or] at hsplit
      omega
    · rw [Option.isSome_iff_ne_none]
      exact fun hn => hden ⟨hm, hn⟩
    · exact Nat.lt_of_not_le fun hq => hroom ⟨hc, hq⟩
    · exact Bool.eq_false_iff.2 fun hq => hshort ⟨hc, hq⟩
    · simpa [Account.fits, ha] using hfits

theorem revoke_elim {n : Nat} (h0 : P s)
    (hn : ∀ t, s.ticket? n = some t → t.state = .authorised → t.progress = none → t.reversal ≤ s.accounts[t.account].credit →
      P (((s.dropJob n).putTicket { t with state := .valued, authorisation := none }).setAccount t.account
        (s.accounts[t.account].debit t.reversal)))
    (hp : ∀ t, s.ticket? n = some t → t.state = .authorised → t.progress.isSome = true →
      P ((s.dropJob n).putTicket { t with state := .payFault })) :
    P (revoke n s).state := by
  unfold revoke
  refine onTicket_elim h0 fun t ht ha => ?_
  have ha : t.state = .authorised := by simpa using ha
  split
  · split
    · exact h0
    · exact hn t ht ha ‹_› (by omega)
  · exact hp t ht ha (by simp [*])

/-- The ticket and the job a retry leaves (R132). -/
def State.retried (n : Nat) (t : Ticket) (s : State) : State :=
  let r := t.remainder s.disp
  let s' := s.putTicket
    (Ticket.withProgress (fun q => { q with retries := q.retries + 1 }) { t with state := .authorised })
  { s' with queue := s'.queue ++ [{
      ticket := n, amount := r, notes := r / s.disp.un, coins := (r - r / s.disp.un * s.disp.un) / s.disp.uc }] }

theorem resolveRetry_elim {n : Nat} (h0 : P s)
    (hz : ∀ t, s.ticket? n = some t → t.state = .payFault → t.remainder s.disp = 0 → P (s.settle t))
    (hr : ∀ t, s.ticket? n = some t → t.state = .payFault → t.remainder s.disp ≠ 0 → s.queue.length < 8 → P (s.retried n t)) :
    P (resolveRetry n s).state := by
  unfold resolveRetry
  refine onTicket_elim h0 fun t ht ha => ?_
  have ha : t.state = .payFault := by simpa using ha
  dsimp only
  split
  · exact h0
  · split
    · exact hz t ht ha ‹_›
    · split
      · exact h0
      · split
        · exact h0
        · exact hr t ht ha ‹_› (Nat.lt_of_not_le ‹_›)

theorem resolveConvert_elim {n : Nat} (h0 : P s)
    (h : ∀ t, s.ticket? n = some t → t.state = .payFault → t.account.val ≠ 0 →
      s.accounts[t.account].credit + t.remainder s.disp ≤ 4294967295 →
      P ((s.setAccount t.account (s.accounts[t.account].post (t.remainder s.disp))).settle
        (t.withProgress fun q => { q with converted := t.remainder s.disp }))) :
    P (resolveConvert n s).state := by
  unfold resolveConvert
  refine onTicket_elim h0 fun t ht ha => ?_
  dsimp only
  split
  · exact h0
  · split
    · exact h0
    · exact h t ht (by simpa using ha) ‹_› (Nat.le_of_not_lt (mt Account.not_fits_iff.2 ‹_›))

theorem resolveManual_elim {n : Nat} (h0 : P s)
    (h : ∀ t, s.ticket? n = some t → t.state = .payFault →
      P (s.settle (t.withProgress fun q => { q with manual := t.remainder s.disp }))) :
    P (resolveManual n s).state :=
  onTicket_elim h0 fun t ht ha => h t ht (by simpa using ha)

theorem takeLog_elim {n : Nat} (h0 : P s)
    (h : ∀ r rest, s.log = r :: rest → P (State.admitWaiting { s with log := rest })) : P (takeLog n s).state := by
  unfold takeLog
  split
  · exact h0
  · split
    · exact h _ _ ‹_›
    · exact h0

/-- What follows a Take Log: nothing, or the oldest waiting ticket leaves the order, its record joining the log (R139). -/
theorem State.admitWaiting_elim (h0 : s.waiting = [] → P s)
    (h1 : ∀ n rest, s.waiting = n :: rest → (∀ t, s.ticket? n = some t → t.record = none) → P { s with waiting := rest })
    (h2 : ∀ n rest t r, s.waiting = n :: rest → s.ticket? n = some t → t.record = some r →
      P (State.enterLog r (State.dropTicket n { s with waiting := rest }))) : P s.admitWaiting := by
  unfold State.admitWaiting
  split
  · exact h0 ‹_›
  · rename_i n rest hw
    split
    · rename_i t ht
      split
      · exact h2 n rest t _ hw ht ‹_›
      · rename_i hr
        refine h1 n rest hw fun u hu => ?_
        rw [ht] at hu
        cases hu
        exact hr
    · rename_i ht
      exact h1 n rest hw fun u hu => by rw [ht] at hu; cases hu

/-! ### The pulse lanes (Section 5) -/

theorem assignStrays_elim {lane n : Nat} (h0 : P s)
    (h : ∀ (i : PulseIx) t, s.ticket? n = some t → t.state = .opened → s.pulse[i].strays ≠ 0 →
      t.linesFull s.pulse[i].cls = false → t.cellFull s.pulse[i].cls .own .good s.pulse[i].strays = false →
      P ((s.setPulse i { s.pulse[i] with strays := 0 }).putTicket
        (t.placeItems s.classes[s.pulse[i].cls] s.pulse[i].cls .own .good s.pulse[i].strays
          (s.pulse[i].bottlesFor s.classes[s.pulse[i].cls] s.pulse[i].strays)))) :
    P (assignStrays lane n s).state := by
  unfold assignStrays
  split
  · exact h0
  · rename_i i _
    refine onTicket_elim h0 fun t ht ho => ?_
    dsimp only
    split
    · exact h0
    split
    · exact h0
    split
    · exact h0
    · exact h i t ht (by simpa using ho) ‹_› (by simpa using ‹¬t.linesFull _ = true›) (by simpa using ‹¬t.cellFull _ _ _ _ = true›)

theorem pulseFields_spec {enabled cls edge spacing stall mode : Nat} {f : PulseFields}
    (h : pulseFields enabled cls edge spacing stall mode = some f) :
    (20 ≤ f.spacing ∧ f.spacing ≤ 2000) ∧ (1 ≤ f.stallTime ∧ f.stallTime ≤ 60) := by
  unfold pulseFields at h
  split at h
  · split at h
    · rename_i hr
      simp only [Bool.and_eq_true, inRange_iff] at hr
      cases h
      exact hr
    · cases h
  · cases h

theorem setLanePulse_elim {i : PulseIx} {enabled cls edge spacing stall mode : Nat} (h0 : P s)
    (h : ∀ f, pulseFields enabled cls edge spacing stall mode = some f →
      (f.enabled = true → s.classes[f.cls].state ≠ .unused) →
      (s.pulse[i].unbinds f = true → s.feeding (pulseNumber i) = none ∧ s.pulse[i].strays = 0) →
      P (if s.pulse[i].newlyStalled f s.now then
          State.tellOffice .stalled (s.setPulse i (s.pulse[i].configured f s.now))
        else s.setPulse i (s.pulse[i].configured f s.now))) :
    P (setLanePulse i enabled cls edge spacing stall mode s).state := by
  unfold setLanePulse
  split
  · exact h0
  · rename_i f hf
    dsimp only
    split
    · exact h0
    split
    · exact h0
    split
    · exact h0
    rename_i hcls hfeed hstray
    refine h f hf (fun he => ?_) fun hu => ⟨?_, ?_⟩
    · simpa [he] using hcls
    · exact Option.not_isSome_iff_eq_none.1 fun hs => hfeed (Bool.and_eq_true_iff.2 ⟨hu, hs⟩)
    · exact Decidable.by_contra fun hs =>
        hstray (Bool.and_eq_true_iff.2 ⟨hu, bne_iff_ne.2 hs⟩)

/-! ### The schedule (Section 1) -/

theorem setClass_elim {cls st kind d f g sl b : Nat} {label : List Byte} {eff : Option (Nat × Nat)} (h0 : P s)
    (hnow : ∀ c r, storedForm st kind d f g sl b label = some r → s.breaksInUse c r = false → P (s.setClassRecord c r))
    (hlater : ∀ c r day second, storedForm st kind d f g sl b label = some r → second ≤ 86399 →
      (hasChange c s.changes = true ∨ s.changes.length < 8) →
      P { s with changes := insertChange { cls := c, record := r, day := day, second := second } (removeChange c s.changes) }) :
    P (setClass cls st kind d f g sl b label eff s).state := by
  unfold setClass
  split
  · rename_i c r _ hr
    split
    · rename_i hfit
      unfold setClassChecked
      split
      · exact h0
      · rename_i hin
        have hin : s.breaksInUse c r = false := by simpa using hin
        split
        · exact hnow c r hr hin
        · rename_i day second
          split
          · exact hnow c r hr hin
          · split
            · exact h0
            · rename_i hfull
              refine hlater c r day second hr (effectiveFits_iff.1 hfit day second rfl) ?_
              by_cases hc : hasChange c s.changes = true
              · exact .inl hc
              · exact .inr (by simpa [hc] using hfull)
    · exact h0
  · exact h0

theorem cancelChange_elim {cls : Nat} (h0 : P s)
    (h : ∀ c, P { s with changes := removeChange c s.changes }) : P (cancelChange cls s).state := by
  unfold cancelChange
  split
  · exact h0
  · split
    · exact h _
    · exact h0

theorem readClass_state (cls : Nat) (s : State) : (readClass cls s).state = s := by
  unfold readClass
  split <;> rfl

/-! ### The accounts (Section 2) -/

theorem makeAccount_elim {a : AccountId} {customer : Nat} (h0 : P s)
    (h : a.val ≠ 0 → customer ≤ 4294967295 → s.accounts[a].state = .unused →
      P (s.setAccount a { Account.empty with state := .active, customer := customer })) :
    P (makeAccount a customer s).state := by
  unfold makeAccount
  split
  · exact h0
  split
  · exact h0
  split
  · exact h0
  · exact h ‹_› (Nat.le_of_not_lt ‹_›) (by simpa using ‹¬s.accounts[a].state ≠ .unused›)

theorem deleteAccount_elim {a : AccountId} (h0 : P s)
    (h : a.val ≠ 0 → s.accountBusy a = false → P (s.setAccount a Account.empty)) : P (deleteAccount a s).state := by
  refine onAccount_elim h0 fun ha _ => ?_
  split
  · exact h0
  · exact h ha (by simpa using ‹¬s.accountBusy a = true›)

theorem setAccountState_elim {a : AccountId} {target : Nat} (h0 : P s)
    (hd : a.val ≠ 0 → s.accountBusy a = false → P (s.setAccount a Account.empty))
    (hs : ∀ st, a.val ≠ 0 → s.accounts[a].state ≠ .unused → st ≠ .unused →
      P (s.setAccount a { s.accounts[a] with state := st })) :
    P (setAccountState a target s).state := by
  refine onAccount_elim h0 fun ha hm => ?_
  split
  · exact h0
  · exact deleteAccount_elim h0 hd
  · exact hs _ ha hm (by simpa using ‹∀ h : _ = AccountState.unused, False›)

theorem issue_elim {a : AccountId} {cls quantity : Nat} (h0 : P s)
    (h : ∀ c, a.val ≠ 0 → s.accounts[a].state ≠ .unused → P (s.setAccount a (s.accounts[a].grow c quantity))) :
    P (issue a cls quantity s).state := by
  refine onAccount_elim h0 fun ha hm => ?_
  split
  · exact h0
  · split
    · exact h0
    · split
      · exact h0
      · exact h0
      · exact h _ ha hm

theorem adjust_elim {a : AccountId} {cls : Nat} {change : Int} (h0 : P s)
    (h : ∀ c, a.val ≠ 0 → s.accounts[a].state ≠ .unused →
      P (s.setAccount a { s.accounts[a].setCount c (adjusted s.accounts[a].outstanding[c] change) with saturated := false })) :
    P (adjust a cls change s).state := by
  refine onAccount_elim h0 fun ha hm => ?_
  split
  · exact h0
  · split
    · exact h0
    · split
      · exact h0
      · exact h _ ha hm

theorem collect_elim {a : AccountId} {amount : Nat} (h0 : P s)
    (h : a.val ≠ 0 → s.accounts[a].state ≠ .unused → P (s.setAccount a (s.accounts[a].debit amount))) :
    P (collect a amount s).state := by
  refine onAccount_elim h0 fun ha hm => ?_
  split
  · exact h ha hm
  · exact h0

theorem clearResidue_elim {amount : Nat} (h0 : P s) (h : P { s with residue := s.residue - amount }) :
    P (clearResidue amount s).state := by
  unfold clearResidue
  split
  · exact h
  · exact h0

/-! ### The dispenser's settings (Section 8) -/

theorem setDispenser_elim {v : DispenserSettings} (h0 : P s)
    (h : settingsFit v = true → s.cashOpen = false → P (s.setDisp { s.disp with
      denoms := some (v.un, v.uc), vendPulse := v.vendPulse, jamTime := v.jamTime, doublePick := v.doublePick
      noteLow := v.noteLow, coinLow := v.coinLow })) :
    P (setDispenser v s).state := by
  unfold setDispenser
  split
  · exact h0
  split
  · exact h0
  · exact h (by simpa using ‹¬(!settingsFit v) = true›) (by simpa using ‹¬s.cashOpen = true›)

theorem refill_elim {channel stock : Nat} (h0 : P s)
    (h : ∀ c, stock ≤ stockMax c → (s.disp.channel c).state ≠ .running →
      P (s.setDisp (s.disp.setChannel c ((s.disp.channel c).refilled stock)))) :
    P (refill channel stock s).state := by
  unfold refill
  split
  · exact h0
  · split
    · exact h0
    split
    · exact h0
    · exact h _ (by omega) ‹_›

theorem clearChannel_elim {channel : Nat} (h0 : P s)
    (h : ∀ c, (s.disp.channel c).state = .fault → P (s.setDisp (s.disp.setChannel c (s.disp.channel c).rest))) :
    P (clearChannel channel s).state := by
  unfold clearChannel
  split
  · exact h0
  · split
    · exact h _ ‹_›
    · exact h0

/-! ### The lane bus, the watch list and the clock (Sections 4, 9, 11) -/

theorem setLaneStation_elim {l : StationLane} {priority window : Nat} (h0 : P s)
    (h : priority ≤ 3 → 10 ≤ window ∧ window ≤ 200 →
      P { s with bus := { s.bus with
        lanes := s.bus.lanes.set l.val { s.bus.lanes[l] with
          priority := priority, lastGranted := s.bus.lanes[l].lastGranted && s.bus.lanes[l].priority == priority } l.isLt
        window := window, grant := s.bus.regrant window } }) :
    P (setLaneStation l priority window s).state := by
  unfold setLaneStation
  split
  · rename_i hr
    simp only [Bool.and_eq_true, inRange_iff] at hr
    exact h hr.1.2 hr.2
  · exact h0

theorem watchAdd_elim {tag : Nat} (h0 : P s) (hr : P { s with draws := s.draws + 1 })
    (h : tag ∉ s.watch → s.watch.length < 8 → P { s with watch := s.watch ++ [tag], draws := s.draws + 1 }) :
    P (watchAdd tag s).state := by
  unfold watchAdd
  split
  · exact hr
  split
  · exact h0
  · exact h (by simpa using ‹¬s.watch.contains tag = true›) (Nat.lt_of_not_le ‹_›)

theorem watchRemove_elim {tag : Nat} (h0 : P s)
    (h : P { s with watch := s.watch.filter (· != tag), draws := s.draws + 1 }) : P (watchRemove tag s).state := by
  unfold watchRemove
  split
  · exact h
  · exact h0

/-- The clock a Set Time leaves (R189). -/
def State.timeSet (day second : Nat) (s : State) : State :=
  { s with clock := { s.clock with
      day := day, second := second, sub := 0, anchor := s.now
      suspect := s.clock.suspect && s.clock.source == .reference } }

theorem setTime_elim {day second : Nat} (h0 : P s)
    (h : day ≤ 65535 → second ≤ 86399 → P (s.timeSet day second))
    (hd : day ≤ 65535 → second ≤ 86399 → P (s.timeSet day second).applyDue) : P (setTime day second s).state := by
  unfold setTime
  split
  · exact h0
  · rename_i hr
    simp only [Config.dayMax, Config.secondMax, not_or, Nat.not_lt] at hr
    dsimp only [okay]
    split
    · exact hd hr.1 hr.2
    · exact h hr.1 hr.2

/-! ### Arrivals (Section 4) -/

theorem State.refuseDuplicate_elim {e : TagEntry} {t : Ticket}
    (h1 : P (s.putTicket { t with duplicates := satAdd 255 t.duplicates 1 }))
    (h2 : P (State.tellOffice .hold
      (s.putTicket (Ticket.hold .duplicateTag { t with duplicates := satAdd 255 t.duplicates 1 })))) :
    P (s.refuseDuplicate e t).state := by
  unfold State.refuseDuplicate
  dsimp only
  split
  · exact h1
  · exact h2

theorem arrive_elim {lane : StationLane} {cls o k n carried : Nat} {tag : Option Nat} (h0 : P s)
    (hd : ∀ t e, s.feeding lane.val = some t → P (s.refuseDuplicate e t).state)
    (ha : ∀ t c o' k', s.feeding lane.val = some t → arriveFits s.classes[c] n carried tag = true →
      t.linesFull c = false → t.cellFull c o' k' n = false → (∀ g, tag = some g → s.tagEntry? g = none) →
      P (s.acceptArrival lane c o' k' n carried tag t)) :
    P (arrive lane cls o k n carried tag s).state := by
  unfold arrive
  split
  · exact h0
  · rename_i t ht
    split
    · exact h0
    · rename_i c _
      split
      · exact h0
      · split
        · rename_i o' k' _ _
          split
          · rename_i hf
            unfold arriveChecked
            split
            · exact hd t _ ht
            · rename_i hn
              split
              · exact h0
              split
              · exact h0
              · refine ha t c o' k' ht hf (by simpa using ‹¬t.linesFull c = true›) (by simpa using ‹¬t.cellFull c o' k' n = true›)
                  fun g hg => ?_
                simpa [hg] using hn
          · exact h0
        · exact h0

theorem laneDone_elim {lane : StationLane} (h0 : P s) (h : ∀ t, s.feeding lane.val = some t → P (s.detachLane lane.val t)) :
    P (laneDone lane s).state := by
  unfold laneDone
  split
  · exact h0
  · exact h _ ‹_›

end Blocks

end Sys2Proof.Machine
end

section
/-! SUPPORT. What each operation touches, said once, and so what each command touches. -/

namespace Sys2Proof.Machine

/-! ### The shared operations -/

theorem State.touches_elapse (ms : Nat) (s : State) : s.Touches timeFields (s.elapse ms) :=
  State.Touches.of_left fun f => by cases f <;> rfl

theorem State.touches_reach (time : Nat) (s : State) : s.Touches timeFields (s.reach time) := s.touches_elapse _

theorem State.touches_sealed (s : State) : s.Touches [.check] s.sealed :=
  State.Touches.of_left fun f => by cases f <;> rfl

theorem State.touches_setPort (p : Port) (r : PortRecord) (s : State) : s.Touches [.office, .acctPort] (s.setPort p r) := by
  cases p <;> exact State.Touches.of_left fun f => by cases f <;> rfl

theorem State.touches_putTicket (t : Ticket) (s : State) : s.Touches [.tickets] (s.putTicket t) :=
  State.Touches.of_left fun f => by cases f <;> rfl

theorem State.touches_setAccount (a : AccountId) (r : Account) (s : State) : s.Touches [.accounts] (s.setAccount a r) :=
  State.Touches.of_left fun f => by cases f <;> rfl

theorem State.touches_setPulse (i : PulseIx) (p : PulseLane) (s : State) : s.Touches [.pulse] (s.setPulse i p) :=
  State.Touches.of_left fun f => by cases f <;> rfl

theorem State.touches_setDisp (d : Dispenser) (s : State) : s.Touches [.disp] (s.setDisp d) :=
  State.Touches.of_left fun f => by cases f <;> rfl

theorem State.touches_tellOffice (n : Notice) (s : State) : s.Touches [.office] (s.tellOffice n) :=
  State.Touches.of_left fun f => by cases f <;> rfl

theorem State.touches_replyOn (p : Port) (i : Instr) (name : List Byte) (a : Answer) :
    a.state.Touches replyFields (State.replyOn p i name a) := by
  cases p <;> exact State.Touches.of_left fun f => by cases f <;> rfl

theorem State.touches_replyInGrant (l : StationLane) (name : List Byte) (a : Answer) :
    a.state.Touches replyFields (State.replyInGrant l name a) :=
  State.Touches.of_left fun f => by cases f <;> rfl

/-! ### Tickets and their end -/

theorem State.touches_valueTicket (forced : Bool) (t : Ticket) (s : State) :
    s.Touches valuationFields (s.valueTicket forced t) := by
  intro f hf
  cases f <;> simp [Field.agrees, valuationFields] at hf ⊢

theorem State.touches_startClosing (t : Ticket) (s : State) : s.Touches valuationFields (s.startClosing t) :=
  State.Touches.of_left fun f => by cases f <;> rfl

theorem State.touches_detachLane (lane : Nat) (t : Ticket) (s : State) : s.Touches valuationFields (s.detachLane lane t) :=
  State.detachLane_elim (fun _ => s.touches_valueTicket _ _)
    ((s.touches_putTicket _).mono (by simp [valuationFields]))

theorem State.touches_restoreTicket (t : Ticket) (s : State) : s.Touches [.accounts] (s.restoreTicket t) := by
  rw [State.restoreTicket_eq]
  exact State.Touches.of_left fun f => by cases f <;> rfl

theorem State.touches_enterLog (r : LogRecord) (s : State) : s.Touches finishFields (s.enterLog r) := by
  rw [State.enterLog_shape]
  exact State.Touches.of_left fun f => by cases f <;> rfl

theorem State.touches_finish (t : Ticket) (r : LogRecord) (s : State) : s.Touches finishFields (s.finish t r) := by
  rw [State.finish_shape]
  exact State.Touches.of_left fun f => by cases f <;> rfl

theorem State.touches_settle (t : Ticket) (s : State) : s.Touches finishFields (s.settle t) := s.touches_finish _ _

theorem State.touches_voidTicket (t : Ticket) (s : State) :
    s.Touches (.closingOrder :: .accounts :: finishFields) (s.voidTicket t) := by
  have hleave : (s.restoreTicket t).Touches [.closingOrder] (State.leaveClosing t.number (s.restoreTicket t)) := by
    exact State.Touches.of_left fun f => by cases f <;> rfl
  exact (((s.touches_restoreTicket t).mono (by simp)).trans (hleave.mono (by simp))).trans
    ((State.touches_finish _ _ _).mono fun _ h => by simp [h])

theorem State.touches_admitWaiting (s : State) : s.Touches finishFields s.admitWaiting := by
  refine State.admitWaiting_elim (fun _ => .refl _ _) (fun n rest _ _ => ?_) fun n rest t r _ _ _ => ?_
  · exact State.Touches.of_left fun f => by cases f <;> rfl
  · refine State.Touches.trans ?_ (State.touches_enterLog _ _)
    exact State.Touches.of_left fun f => by cases f <;> rfl

theorem State.touches_authorised (t : Ticket) (a : Authorisation) (s : State) :
    s.Touches (.residue :: .accounts :: .queue :: finishFields) (s.authorised t a) := by
  have hpaid : s.Touches (.residue :: .accounts :: .queue :: finishFields)
      (if t.account.val = 0 then s.addResidue a.residue
        else s.setAccount t.account (s.accounts[t.account].post (t.total - a.cash))) := by
    split
    · unfold State.addResidue
      split
      · exact .refl _ _
      · split <;> exact State.Touches.of_left fun f => by cases f <;> rfl
    · exact (s.touches_setAccount _ _).mono (by simp)
  unfold State.authorised
  dsimp only
  split
  · exact hpaid.trans ((State.touches_settle _ _).mono fun _ h => by simp [h])
  · refine hpaid.trans ?_
    exact State.Touches.of_left fun f => by cases f <;> rfl

theorem State.touches_retried (n : Nat) (t : Ticket) (s : State) : s.Touches (.queue :: finishFields) (s.retried n t) :=
  State.Touches.of_left fun f => by cases f <;> rfl

/-! ### Arrivals and pulse lanes -/

theorem State.recordTag_touches (g : Nat) (lane : StationLane) (t : Ticket) (s : State) :
    s.Touches [.tags, .office] (s.recordTag g lane t).2 := by
  unfold State.recordTag
  split
  · exact State.Touches.of_left fun f => by cases f <;> rfl
  · exact (s.touches_tellOffice _).mono (by simp)

theorem State.watchTag_touches (g : Nat) (t : Ticket) (s : State) : s.Touches [.office] (s.watchTag g t).2 := by
  unfold State.watchTag
  split
  · exact s.touches_tellOffice _
  · exact .refl _ _

theorem State.touches_acceptArrival (lane : StationLane) (c : ClassId) (o : Origin) (k : Condition) (n carried : Nat)
    (tag : Option Nat) (t : Ticket) (s : State) :
    s.Touches [.tickets, .tags, .office] (s.acceptArrival lane c o k n carried tag t) := by
  unfold State.acceptArrival
  dsimp only
  refine State.Touches.trans ?_ ((State.touches_putTicket _ _).mono (by simp))
  split
  · exact ((s.recordTag_touches _ _ _).mono (by simp)).trans ((State.watchTag_touches _ _ _).mono (by simp))
  · exact .refl _ _

theorem State.touches_stray (i : PulseIx) (s : State) : s.Touches [.pulse, .office] (s.stray i) :=
  State.Touches.of_left fun f => by cases f <;> rfl

theorem State.touches_pulseArrival (i : PulseIx) (s : State) : s.Touches [.pulse, .tickets, .office] (s.pulseArrival i) := by
  rw [State.pulseArrival_shape]
  exact State.Touches.of_left fun f => by cases f <;> rfl

theorem State.touches_countingEdge (i : PulseIx) (s : State) : s.Touches [.pulse, .tickets, .office] (s.countingEdge i) := by
  unfold State.countingEdge
  dsimp only
  split
  · exact ((s.touches_setPulse _ _).mono (by simp)).trans (State.touches_pulseArrival _ _)
  · exact (s.touches_setPulse _ _).mono (by simp)

theorem State.touches_peye (i : PulseIx) (blocked : Bool) (s : State) :
    s.Touches [.pulse, .tickets, .office] (s.peye i blocked) := by
  unfold State.peye
  dsimp only
  split
  · exact (s.touches_setPulse _ _).mono (by simp)
  · split
    · exact ((s.touches_setPulse _ _).mono (by simp)).trans (State.touches_countingEdge _ _)
    · exact (s.touches_setPulse _ _).mono (by simp)

theorem State.touches_stallLane (i : PulseIx) (s : State) : s.Touches [.pulse, .office] (s.stallLane i) :=
  State.Touches.of_left fun f => by cases f <;> rfl

theorem State.touches_laneElapse (i : PulseIx) (after : Nat) (s : State) :
    s.Touches (.pulse :: .office :: .check :: timeFields) (s.laneElapse i after) := by
  have ht := (s.touches_elapse after).mono (gs := .pulse :: .office :: .check :: timeFields) fun _ h => by simp [h]
  unfold State.laneElapse
  dsimp only
  split
  · split
    · exact (ht.trans ((State.touches_stallLane _ _).mono (by simp))).trans ((State.touches_sealed _).mono (by simp))
    · exact ht
  · exact ht

/-! ### The schedule, the clock and the lane bus -/

theorem State.touches_applyDueN (n : Nat) (s : State) : s.Touches scheduleFields (State.applyDueN n s) := by
  rw [State.applyDueN_shape]
  exact State.Touches.of_left fun f => by cases f <;> rfl

theorem State.touches_applyDue (s : State) : s.Touches scheduleFields s.applyDue := s.touches_applyDueN _

theorem State.touches_setClock (c : YardClock) (s : State) : s.Touches [.clock] { s with clock := c } :=
  State.Touches.of_left fun f => by cases f <;> rfl

theorem State.touches_timeSet (day second : Nat) (s : State) : s.Touches [.clock] (s.timeSet day second) :=
  s.touches_setClock _

theorem State.touches_crystalSecond (s : State) : s.Touches [.clock] s.crystalSecond := s.touches_setClock _

theorem State.touches_tickClock (s : State) : s.Touches [.clock] s.tickClock := s.touches_setClock _

theorem State.touches_fullSecond (s : State) : s.Touches (.clock :: timeFields) s.fullSecond := by
  unfold State.fullSecond
  split
  · exact s.touches_crystalSecond.mono (by simp)
  · exact ((s.touches_reach s.clock.fullAt).mono fun _ h => by simp [h]).trans ((State.touches_setClock _ _).mono (by simp))

theorem State.touches_arbitrate (s : State) : s.Touches [.bus] s.arbitrate := by
  rw [State.arbitrate_shape]
  exact State.Touches.of_left fun f => by cases f <;> rfl

theorem State.touches_endGrant (s : State) : s.Touches [.bus] s.endGrant := by
  rw [State.endGrant_shape]
  exact State.Touches.of_left fun f => by cases f <;> rfl

theorem State.touches_setStation (l : StationLane) (r : StationRecord) (s : State) : s.Touches [.bus] (s.setStation l r) :=
  State.Touches.of_left fun f => by cases f <;> rfl

theorem State.touches_discardFrame (l : StationLane) (s : State) : s.Touches [.bus] (s.discardFrame l) :=
  (s.touches_setStation _ _).trans (State.touches_endGrant _)

/-! ### The dispenser -/

theorem State.JobEnds.touches {s t : State} (h : s.JobEnds t) : s.Touches payoutFields t := by
  unfold State.JobEnds at h
  rw [h]
  exact State.Touches.of_left fun f => by cases f <;> rfl

theorem State.touches_setDisp_payout (d : Dispenser) (s : State) : s.Touches payoutFields (s.setDisp d) :=
  (s.touches_setDisp d).mono (by simp [payoutFields])

theorem State.touches_reach_payout (time : Nat) (s : State) : s.Touches payoutFields (s.reach time) :=
  (s.touches_reach time).mono (by simp [payoutFields, timeFields])

theorem State.touches_tellOffice_payout (n : Notice) (s : State) : s.Touches payoutFields (s.tellOffice n) :=
  (s.touches_tellOffice n).mono (by simp [payoutFields])

theorem State.touches_strayUnit (c : Channel) (s : State) : s.Touches payoutFields (s.strayUnit c) := by
  rw [State.strayUnit_shape]
  exact State.Touches.of_left fun f => by cases f <;> rfl

theorem State.touches_countNote (j : JobProgress) (s : State) : s.Touches payoutFields (s.countNote j) := by
  rw [State.countNote_shape]
  exact State.Touches.of_left fun f => by cases f <;> rfl

theorem State.touches_countCoin (j : JobProgress) (s : State) : s.Touches payoutFields (s.countCoin j) := by
  rw [State.countCoin_shape]
  exact State.Touches.of_left fun f => by cases f <;> rfl

theorem State.touches_vendEnds (e : Empties) (j : JobProgress) (s : State) : s.Touches payoutFields (s.vendEnds e j) := by
  unfold State.vendEnds
  split
  · dsimp only
    split
    · exact ((s.touches_reach_payout _).trans (State.touches_setDisp_payout _ _)).trans
        ((State.touches_setDisp_payout _ _).trans (State.jobEnds_afterVend _ _).touches)
    · exact (s.touches_reach_payout _).trans (State.touches_setDisp_payout _ _)
  · exact .refl _ _

theorem State.touches_noteJams (j : JobProgress) (m : Nat) (s : State) : s.Touches payoutFields (s.noteJams j m) :=
  (s.touches_reach_payout _).trans ((State.touches_setDisp_payout _ _).trans (State.jobEnds_jobFault _ _ _).touches)

theorem State.touches_coinGapEnds (j : JobProgress) (s : State) : s.Touches payoutFields (s.coinGapEnds j) :=
  (s.touches_reach_payout _).trans (State.touches_setDisp_payout _ _)

theorem State.touches_endCoinFault (cause : FaultCause) (s : State) : s.Touches payoutFields (s.endCoinFault cause) := by
  unfold State.endCoinFault
  split
  · exact (State.jobEnds_foundEmpty _ _).touches
  · exact State.touches_setDisp_payout _ _

theorem State.touches_runOnEnds (j : JobProgress) (s : State) : s.Touches payoutFields (s.runOnEnds j) := by
  unfold State.runOnEnds
  dsimp only
  split
  · exact (s.touches_reach_payout _).trans (State.jobEnds_jobComplete _ _).touches
  · exact (s.touches_reach_payout _).trans ((State.touches_endCoinFault _ _).trans (State.jobEnds_jobFault _ _ _).touches)

theorem State.touches_timerEnds (k : DispenserTimer) (m : Nat) (j : JobProgress) (s : State) :
    s.Touches payoutFields (s.timerEnds k m j) := by
  cases k
  · exact State.touches_vendEnds _ _ _
  · exact State.touches_noteJams _ _ _
  · exact State.touches_coinGapEnds _ _
  · exact State.touches_runOnEnds _ _

theorem State.touches_dispenserTimers (fuel t : Nat) (s : State) :
    s.Touches payoutFields (State.dispenserTimers fuel t s) := by
  induction fuel generalizing s with
  | zero => exact .refl _ _
  | succ fuel ih =>
    unfold State.dispenserTimers
    split
    · exact .refl _ _
    · split
      · exact .refl _ _
      · split
        · exact ((State.touches_timerEnds _ _ _ _).trans
            ((State.touches_sealed _).mono (by simp [payoutFields]))).trans (ih _)
        · exact .refl _ _

theorem State.touches_dispenserElapse (after : Nat) (s : State) : s.Touches payoutFields (s.dispenserElapse after) :=
  (State.touches_dispenserTimers _ _ _).trans (State.touches_reach_payout _ _)

theorem State.touches_countExit (start since : Nat) (j : JobProgress) (s : State) :
    s.Touches payoutFields (s.countExit start since j) := by
  unfold State.countExit
  dsimp only
  split
  · exact (State.touches_countNote _ _).trans (State.touches_countNote _ _)
  · exact State.touches_countNote _ _

theorem State.touches_loosePulse (found : Bool) (s : State) : s.Touches payoutFields (s.loosePulse found) := by
  unfold State.loosePulse
  split
  · exact .refl _ _
  · exact State.touches_strayUnit _ _

theorem State.touches_takeJob (j : PayoutJob) (rest : List PayoutJob) (s : State) :
    s.Touches (.queue :: payoutFields) (State.takeJob j rest s) := by
  have hsub : payoutFields ⊆ .queue :: payoutFields := fun _ h => by simp [h]
  unfold State.takeJob
  dsimp only
  have hput : s.Touches (.queue :: payoutFields)
      (match State.ticket? j.ticket { s with queue := rest } with
        | some t => State.putTicket t.startPaying { s with queue := rest }
        | none => { s with queue := rest }) := by
    split <;> exact State.Touches.of_left fun f => by cases f <;> rfl
  split
  · exact hput.trans ((State.touches_setDisp_payout _ _).trans (State.jobEnds_startVend _ _).touches |>.mono hsub)
  · exact hput.trans ((State.touches_setDisp_payout _ _).trans (State.jobEnds_startCoins _ _).touches |>.mono hsub)

/-! ### Stops and starts -/

theorem State.touches_halt (cause : StopCause) (s : State) :
    s.Touches [.power, .disp, .bus, .office, .acctPort, .clock] (s.halt cause) :=
  State.Touches.of_left fun f => by cases f <;> rfl

theorem State.touches_warmBlocks (s : State) : s.Touches warmFields s.warmBlocks :=
  State.Touches.of_left fun f => by cases f <;> rfl

theorem State.touches_lossPhase (s : State) : s.Touches warmFields s.lossPhase := by
  rw [State.lossPhase_shape]
  exact State.Touches.of_left fun f => by cases f <;> rfl

theorem State.touches_forceClosesN (n : Nat) (s : State) : s.Touches valuationFields (State.forceClosesN n s) := by
  induction n generalizing s with
  | zero => exact .refl _ _
  | succ n ih =>
    unfold State.forceClosesN
    split
    · exact .refl _ _
    · split
      · exact (State.touches_valueTicket _ _ _).trans (ih _)
      · refine State.Touches.trans ?_ (ih _)
        exact State.Touches.of_left fun f => by cases f <;> rfl

theorem State.touches_restartFault (s : State) : s.Touches warmFields s.restartFault := by
  rw [State.restartFault_shape]
  exact State.Touches.of_left fun f => by cases f <;> rfl

theorem State.touches_warmUpTo (point : WarmPoint) (s : State) : s.Touches warmFields (s.warmUpTo point) := by
  have hloss : s.Touches warmFields s.warmBlocks.lossPhase := s.touches_warmBlocks.trans (State.touches_lossPhase _)
  have hdue : ∀ n, s.Touches warmFields (State.applyDueN n s.warmBlocks.lossPhase) := fun n =>
    hloss.trans ((State.touches_applyDueN _ _).mono (by simp [scheduleFields, warmFields]))
  have hclose : ∀ n, s.Touches warmFields (State.forceClosesN n s.warmBlocks.lossPhase.applyDue) := fun n =>
    (hdue _).trans ((State.touches_forceClosesN _ _).mono (by simp [valuationFields, warmFields]))
  cases point with
  | afterPorts => exact s.touches_warmBlocks
  | afterLossMark => exact hloss
  | afterChanges n => exact hdue n
  | afterCloses n => exact hclose n
  | afterPaying => exact (hclose _).trans (State.touches_restartFault _)

theorem State.touches_warmStart (s : State) : s.Touches warmFields s.warmStart := by
  refine (s.touches_warmUpTo .afterPaying).trans (u := s.warmStart) ?_
  exact State.Touches.of_left fun f => by cases f <;> rfl

theorem State.touches_establish (v : InputLevels) (s : State) : s.Touches [.power, .pulse, .disp, .bus] (s.establish v) :=
  State.Touches.of_left fun f => by cases f <;> rfl

end Sys2Proof.Machine
end

section
/-! SUPPORT. What each command touches, and so which predicates of the state it keeps: one that reads none of the fields the command
can touch. -/

namespace Sys2Proof.Machine

/-! ### Requests and events -/

/-- What holds after a request: it was not taken, or it was answered on its link over what its block left or over the state as it
stood (R169, R181). -/
theorem request_elim {P : State → Prop} {src : Source} {i : Instr} {n : ReqName} {block : State → Answer} {s t : State}
    (h : request src i n block s = .next t) (h0 : P s)
    (hp : ∀ p a, s.receiving p → (a = block s ∨ ∃ r, a = refuse r s) → P (State.replyOn p i n.chars a))
    (hl : ∀ l a, s.hears l → (a = block s ∨ ∃ r, a = refuse r s) → P (State.replyInGrant l n.chars a)) : P t := by
  rcases request_next h with rfl | ⟨p, a, hr, rfl, ha⟩ | ⟨l, a, hr, rfl, ha⟩
  · exact h0
  · exact hp p a hr ha
  · exact hl l a hr ha

theorem execUnknownRequest_elim {P : State → Prop} {link : Link} {name : List Byte} {s t : State}
    (h : execUnknownRequest link name s = .next t) (h0 : P s)
    (hp : ∀ p i, s.receiving p → P (State.replyOn p i name (refuse .unknownRequest s)))
    (hl : ∀ l, s.hears l → P (State.replyInGrant l name (refuse .unknownRequest s))) : P t := by
  have hport : ∀ p i, P (unknownOnPort p i name s) := by
    intro p i
    unfold unknownOnPort
    split
    · rename_i hr
      exact hp p i (by simpa using hr)
    · exact h0
  have hbus : P (unknownInGrant name s) := by
    unfold unknownInGrant
    split
    · split
      · exact hl _ ⟨‹_›, ‹_›⟩
      · exact h0
    · exact h0
  rcases event_next h with ⟨_, rfl⟩ | ⟨_, rfl⟩
  · cases link
    · exact hport _ _
    · exact hport _ _
    · exact hbus
  · exact h0

theorem event_elim {P : State → Prop} {c : Bool} {f : State → State} {s t : State} (h : event c f s = .next t) (h0 : P s)
    (hf : c = true → P (f s)) : P t := by
  rcases event_next h with ⟨hc, rfl⟩ | ⟨_, rfl⟩
  · exact hf hc
  · exact h0

theorem retainedEvent_elim {P : State → Prop} {c : Bool} {f : State → State} {s t : State}
    (h : retainedEvent c f s = .next t) (h0 : P s) (hf : c = true → P (f s).sealed) : P t :=
  event_elim h h0 hf

theorem done_elim {P : State → Prop} {s t : State} (h : done s = .next t) (h0 : P s) : P t := by
  cases h
  exact h0

/-! ### What they touch -/

theorem request_touches {src : Source} {i : Instr} {n : ReqName} {block : State → Answer} {s t : State} {fs : List Field}
    (h : request src i n block s = .next t) (hb : s.Touches fs (block s).state) : s.Touches (replyFields ++ fs) t := by
  have hstate : ∀ a, (a = block s ∨ ∃ r, a = refuse r s) → s.Touches (replyFields ++ fs) a.state := by
    rintro a (rfl | ⟨r, rfl⟩)
    · exact hb.mono (by simp)
    · exact .refl _ _
  exact request_elim h (.refl _ _)
    (fun p a _ ha => (hstate a ha).trans ((State.touches_replyOn _ _ _ _).mono (by simp)))
    (fun l a _ ha => (hstate a ha).trans ((State.touches_replyInGrant _ _ _).mono (by simp)))

/-- A request whose block changes nothing touches its reply alone. -/
theorem request_touches_reply {src : Source} {i : Instr} {n : ReqName} {block : State → Answer} {s t : State}
    (h : request src i n block s = .next t) (hb : (block s).state = s) : s.Touches replyFields t := by
  have := request_touches (fs := []) h (by rw [hb]; exact .refl _ _)
  simpa using this

theorem event_touches {c : Bool} {f : State → State} {s t : State} {fs : List Field} (h : event c f s = .next t)
    (hf : s.Touches fs (f s)) : s.Touches fs t :=
  event_elim h (.refl _ _) fun _ => hf

theorem retainedEvent_touches {c : Bool} {f : State → State} {s t : State} {fs : List Field}
    (h : retainedEvent c f s = .next t) (hc : Field.check ∈ fs) (hf : s.Touches fs (f s)) : s.Touches fs t :=
  retainedEvent_elim h (.refl _ _) fun _ => hf.trans ((State.touches_sealed _).mono (by simpa using hc))

theorem State.touches_readNotices (p : Port) (s : State) : s.Touches [.office, .acctPort] (readNotices p s).state :=
  s.touches_setPort _ _

theorem State.touches_portEvent (p : Port) (after : Nat) (r : PortRecord) (s : State) :
    s.Touches (.office :: .acctPort :: timeFields) ((s.elapse after).setPort p r) :=
  ((s.touches_elapse after).mono fun _ h => by simp [h]).trans ((State.touches_setPort _ _ _).mono (by simp))

theorem State.touches_elapse_bus {after : Nat} {s : State} {f : State → State}
    (hf : ∀ s : State, s.Touches [.bus] (f s)) : s.Touches (.check :: timeFields) (f (s.elapse after)) :=
  ((s.touches_elapse after).mono fun _ h => by simp [h]).trans ((hf _).mono (by simp [timeFields]))

theorem execGrantMiss_touches {s t : State} (h : execGrantMiss s = .next t) :
    s.Touches (.office :: .check :: timeFields) t := by
  unfold execGrantMiss at h
  split at h
  · refine retainedEvent_touches h (by simp) ?_
    refine State.Touches.trans ?_ ((State.touches_endGrant _).mono (by simp [timeFields]))
    have hset : ∀ time l r, s.Touches (.office :: .check :: timeFields) ((s.reach time).setStation l r) := fun time l r =>
      ((s.touches_reach time).mono fun _ h => by simp [h]).trans ((State.touches_setStation l r _).mono (by simp [timeFields]))
    split
    · exact (hset _ _ _).trans ((State.touches_tellOffice _ _).mono (by simp))
    · exact hset _ _ _
  · exact done_elim h (.refl _ _)

theorem execFrameStart_touches {after : Nat} {s t : State} (h : execFrameStart after s = .next t) :
    s.Touches timeFields t := by
  unfold execFrameStart at h
  split at h
  · refine event_touches h ?_
    exact State.Touches.of_left fun f => by cases f <;> rfl
  · exact done_elim h (.refl _ _)

theorem execLaneFrameError_touches {kind : LaneError} {after : Nat} {s t : State}
    (h : execLaneFrameError kind after s = .next t) : s.Touches (.check :: timeFields) t := by
  unfold execLaneFrameError at h
  split at h
  · exact retainedEvent_touches h (by simp) (State.touches_elapse_bus (State.touches_discardFrame _))
  · exact retainedEvent_touches h (by simp) (State.touches_elapse_bus (State.touches_discardFrame _))
  · exact done_elim h (.refl _ _)

theorem execLaneCharTimeout_touches {after : Nat} {s t : State} (h : execLaneCharTimeout after s = .next t) :
    s.Touches (.check :: timeFields) t := by
  unfold execLaneCharTimeout at h
  split at h
  · exact retainedEvent_touches h (by simp) (State.touches_elapse_bus (State.touches_discardFrame _))
  · exact done_elim h (.refl _ _)

theorem execLaneReplyEnd_touches {after : Nat} {s t : State} (h : execLaneReplyEnd after s = .next t) :
    s.Touches (.check :: timeFields) t := by
  unfold execLaneReplyEnd at h
  split at h
  · exact retainedEvent_touches h (by simp) (State.touches_elapse_bus State.touches_endGrant)
  · exact done_elim h (.refl _ _)

theorem execLreqChange_touches {l : StationLane} {low : Bool} {after : Nat} {s t : State}
    (h : execLreqChange l low after s = .next t) : s.Touches (.check :: timeFields) t := by
  refine retainedEvent_touches h (by simp) ?_
  dsimp only
  split
  · exact (State.touches_elapse_bus (State.touches_setStation l _)).trans
      ((State.touches_arbitrate _).mono (by simp [timeFields]))
  · exact State.touches_elapse_bus (State.touches_setStation l _)

theorem execCloseWaitExpiry_touches {n : Nat} {s t : State} (h : execCloseWaitExpiry n s = .next t) :
    s.Touches (.check :: timeFields ++ valuationFields) t := by
  unfold execCloseWaitExpiry at h
  split at h
  · exact retainedEvent_touches h (by simp)
      (((s.touches_reach _).mono fun _ h => by simp [h]).trans ((State.touches_valueTicket _ _ _).mono fun _ h => by simp [h]))
  · exact done_elim h (.refl _ _)

theorem execClockAdvance_touches {s t : State} (h : execClockAdvance s = .next t) :
    s.Touches (.check :: .clock :: timeFields ++ scheduleFields) t := by
  unfold execClockAdvance at h
  split at h
  · refine retainedEvent_touches h (by simp) ?_
    exact ((s.touches_fullSecond.mono fun _ h => by simp only [List.mem_cons, List.mem_append] at h ⊢; tauto).trans
      ((State.touches_tickClock _).mono (by simp))).trans ((State.touches_applyDue _).mono fun _ h => by simp [h])
  · exact event_touches h ((s.touches_crystalSecond.mono (by simp)).trans ((State.touches_tickClock _).mono (by simp)))

theorem execStall_touches {i : PulseIx} {s t : State} (h : execStall i s = .next t) :
    s.Touches (.pulse :: .office :: .check :: timeFields) t := by
  unfold execStall at h
  split at h
  · exact retainedEvent_touches h (by simp)
      (((s.touches_reach _).mono fun _ h => by simp [h]).trans ((State.touches_stallLane _ _).mono (by simp)))
  · exact done_elim h (.refl _ _)

theorem execPeyeTransition_touches {i : PulseIx} {blocked : Bool} {after : Nat} {s t : State}
    (h : execPeyeTransition i blocked after s = .next t) :
    s.Touches (.pulse :: .tickets :: .office :: .check :: timeFields) t :=
  retainedEvent_touches h (by simp)
    (((s.touches_laneElapse i after).mono (by simp [timeFields])).trans ((State.touches_peye _ _ _).mono (by simp)))

/-! ### The events of the paying job -/

theorem execJobTake_touches {e : Empties} {s t : State} (h : execJobTake e s = .next t) :
    s.Touches (.queue :: payoutFields) t := by
  unfold execJobTake at h
  split at h
  · exact done_elim h (.refl _ _)
  · exact retainedEvent_touches h (by simp [payoutFields])
      (((s.touches_setDisp_payout _).mono fun _ h => by simp [h]).trans (State.touches_takeJob _ _ _))

theorem execNoteVendEnd_touches {e : Empties} {s t : State} (h : execNoteVendEnd e s = .next t) :
    s.Touches payoutFields t := by
  unfold execNoteVendEnd at h
  split at h
  · exact retainedEvent_touches h (by simp [payoutFields]) (State.touches_vendEnds _ _ _)
  · exact done_elim h (.refl _ _)

theorem execNoteJamTimeout_touches {s t : State} (h : execNoteJamTimeout s = .next t) : s.Touches payoutFields t := by
  unfold execNoteJamTimeout at h
  split at h
  · split at h
    · exact retainedEvent_touches h (by simp [payoutFields]) (State.touches_noteJams _ _ _)
    · exact done_elim h (.refl _ _)
  · exact done_elim h (.refl _ _)

theorem execCoinGapTimeout_touches {s t : State} (h : execCoinGapTimeout s = .next t) : s.Touches payoutFields t := by
  unfold execCoinGapTimeout at h
  split at h
  · exact retainedEvent_touches h (by simp [payoutFields]) (State.touches_coinGapEnds _ _)
  · exact done_elim h (.refl _ _)

theorem execRunOnEnd_touches {s t : State} (h : execRunOnEnd s = .next t) : s.Touches payoutFields t := by
  unfold execRunOnEnd at h
  split at h
  · exact retainedEvent_touches h (by simp [payoutFields]) (State.touches_runOnEnds _ _)
  · exact done_elim h (.refl _ _)

theorem State.touches_inputAt (after : Nat) (d : Dispenser) (s : State) :
    s.Touches payoutFields ((s.dispenserElapse after).setDisp d) :=
  (s.touches_dispenserElapse after).trans (State.touches_setDisp_payout _ _)

theorem execNoteExitStart_touches {after : Nat} {s t : State} (h : execNoteExitStart after s = .next t) :
    s.Touches payoutFields t := by
  refine retainedEvent_touches h (by simp [payoutFields]) ?_
  dsimp only
  split
  · split
    · exact (s.touches_inputAt after _).trans (State.touches_setDisp_payout _ _)
    · exact s.touches_inputAt after _
  · exact s.touches_inputAt after _

theorem execNoteExitEnd_touches {e : Empties} {after : Nat} {s t : State} (h : execNoteExitEnd e after s = .next t) :
    s.Touches payoutFields t := by
  refine retainedEvent_touches h (by simp [payoutFields]) ?_
  dsimp only
  split
  · split
    · split
      · split
        · exact (s.touches_inputAt after _).trans (State.touches_countExit _ _ _ _)
        · exact ((s.touches_inputAt after _).trans (State.touches_countExit _ _ _ _)).trans
            ((State.touches_setDisp_payout _ _).trans (State.jobEnds_afterVend _ _).touches)
      · exact (s.touches_inputAt after _).trans (State.touches_countExit _ _ _ _)
    · exact ((s.touches_inputAt after _).trans (State.touches_loosePulse _ _)).trans (State.touches_setDisp_payout _ _)
    · exact (s.touches_inputAt after _).trans (State.touches_loosePulse _ _)
  · exact (s.touches_inputAt after _).trans (State.touches_loosePulse _ _)

theorem execCoinExitStart_touches {after : Nat} {s t : State} (h : execCoinExitStart after s = .next t) :
    s.Touches payoutFields t := by
  refine retainedEvent_touches h (by simp [payoutFields]) ?_
  dsimp only
  split
  · split
    · exact (s.touches_inputAt after _).trans (State.touches_strayUnit _ _)
    · split
      · exact ((s.touches_inputAt after _).trans (State.touches_countCoin _ _)).trans (State.touches_setDisp_payout _ _)
      · exact (s.touches_inputAt after _).trans (State.touches_countCoin _ _)
    · exact (s.touches_inputAt after _).trans (State.touches_countCoin _ _)
  · exact (s.touches_inputAt after _).trans (State.touches_strayUnit _ _)

theorem execCoinEmptyAsserted_touches {after : Nat} {s t : State} (h : execCoinEmptyAsserted after s = .next t) :
    s.Touches payoutFields t := by
  refine retainedEvent_touches h (by simp [payoutFields]) ?_
  dsimp only
  split
  · exact (s.touches_inputAt after _).trans (State.touches_setDisp_payout _ _)
  · exact s.touches_inputAt after _

/-! ### The crystal, stops and starts -/

theorem execCrystalLoss_touches {cycles after : Nat} {s t : State} (h : execCrystalLoss cycles after s = .next t) :
    s.Touches (.clock :: .office :: timeFields) t :=
  event_touches h (((s.touches_elapse after).mono fun _ h => by simp [h]).trans
    (((State.touches_setClock _ _).mono (by simp)).trans ((State.touches_tellOffice _ _).mono (by simp))))

theorem execCrystalReturn_touches {after : Nat} {s t : State} (h : execCrystalReturn after s = .next t) :
    s.Touches (.clock :: timeFields) t :=
  event_touches h (((s.touches_elapse after).mono fun _ h => by simp [h]).trans ((State.touches_setClock _ _).mono (by simp)))

theorem execBackupCrystalStop_touches {cycles : Nat} {s t : State} (h : execBackupCrystalStop cycles s = .next t) :
    s.Touches [.power, .lossMark, .clock] t := by
  refine event_touches h ?_
  exact State.Touches.of_left fun f => by cases f <;> rfl

theorem execBackupLow_touches {s t : State} (h : execBackupLow s = .next t) : s.Touches [.marker] t := by
  refine event_touches h ?_
  exact State.Touches.of_left fun f => by cases f <;> rfl

theorem execPowerStop_touches {cause : StopCause} {s t : State} (h : execPowerStop cause s = .next t) :
    s.Touches [.power, .disp, .bus, .office, .acctPort, .clock] t := by
  unfold execPowerStop at h
  split at h
  · exact done_elim h (s.touches_halt cause)
  · refine event_touches h ?_
    exact State.Touches.of_left fun f => by cases f <;> rfl

theorem execWarmStart_touches {found : StartFound} {cut : Option (WarmPoint × StopCause)} {s t : State}
    (h : execWarmStart found cut s = .next t) : s.Touches warmFields t := by
  refine retainedEvent_touches h (by simp [warmFields]) ?_
  split
  · exact s.touches_warmStart
  · exact (s.touches_warmUpTo _).trans ((State.touches_halt _ _).mono (by simp [warmFields]))

theorem execColdStart_touches {found : StartFound} {cut : Option StopCause} {s t : State}
    (h : execColdStart found cut s = .next t) : s.Touches (effectFields (.coldStart found cut)) t := by
  refine event_touches h ?_
  split
  · exact State.Touches.of_left fun f => by cases f <;> rfl
  · exact State.Touches.of_left fun f => by cases f <;> rfl

theorem execInputsSettled_touches {v : InputLevels} {after : Nat} {s t : State}
    (h : execInputsSettled v after s = .next t) : s.Touches (.power :: .pulse :: .disp :: .check :: timeFields) t := by
  refine retainedEvent_touches h (by simp) ?_
  exact (((s.touches_elapse after).mono fun _ h => by simp [h]).trans
    ((State.touches_establish _ _).mono (by simp [timeFields]))).trans ((State.touches_arbitrate _).mono (by simp [timeFields]))

end Sys2Proof.Machine
end

section
/-! SUPPORT. What every command touches, in one statement, and the steps: a predicate that reads none of the fields a command can
touch is kept by it. -/

namespace Sys2Proof.Machine

/-- A command is a request with this source: it has a name, and a block that touches the fields of the command's effect alone. -/
def IsRequest (c : Instr) (src : Source) : Prop :=
  ∃ n bs block, c.payload? = some (n, bs) ∧ (∀ s, exec c s = request src c n block s) ∧
    ∀ s : State, s.Touches (effectFields c) (block s).state

/-- A block that changes nothing touches nothing. -/
theorem State.Touches.of_eq {fs : List Field} {s t : State} (h : t = s) : s.Touches fs t := h ▸ .refl _ _

/-- Every command with a source is a request. -/
theorem exec_isRequest {c : Instr} {src : Source} (h : c.source? = some src) : IsRequest c src := by
  have tickets : ∀ {s : State} {fs : List Field} {u : Ticket}, Field.tickets ∈ fs → s.Touches fs (s.putTicket u) :=
    fun hm => (State.touches_putTicket _ _).mono (by simpa using hm)
  have accounts : ∀ {s : State} {a : AccountId} {r : Account}, s.Touches [.accounts] (s.setAccount a r) :=
    State.touches_setAccount _ _ _
  have disp : ∀ {s : State} {d : Dispenser}, s.Touches [.disp] (s.setDisp d) := State.touches_setDisp _ _
  cases c <;> cases h <;> refine ⟨_, _, _, rfl, fun _ => rfl, fun s => ?_⟩
  case openTicket => exact (openTicket_elim (.refl _ _) fun _ _ _ _ => State.Touches.of_left fun f => by cases f <;> rfl)
  case attachLane => exact (attachLane_elim (.refl _ _) fun _ _ _ _ _ _ => tickets (by simp))
  case detachLane => exact (detachLane_elim (.refl _ _) fun _ _ _ => s.touches_detachLane _ _)
  case closeTicket => exact (closeTicket_elim (.refl _ _) (fun _ _ _ => s.touches_startClosing _)
      fun _ _ _ => s.touches_valueTicket _ _)
  case reopen => exact (reopen_elim (.refl _ _) fun _ _ _ =>
      ((s.touches_restoreTicket _).mono (by simp)).trans ((State.touches_putTicket _ _).mono (by simp)))
  case void => exact (voidTicket_elim (.refl _ _) fun _ _ _ => s.touches_voidTicket _)
  case release => exact (release_elim (.refl _ _) fun _ _ _ _ => tickets (by simp))
  case setLimits => exact (setLimits_elim (.refl _ _) fun _ _ => State.Touches.of_left fun f => by cases f <;> rfl)
  case readTicket => exact .of_eq (readTicket_state _ _)
  case readTicketTable => exact .of_eq rfl
  case authorise => exact (authorise_elim (.refl _ _) fun _ _ _ _ _ _ _ _ _ => s.touches_authorised _ _)
  case revoke =>
    refine (revoke_elim (.refl _ _) (fun _ _ _ _ _ => ?_) fun _ _ _ _ => ?_) <;>
      exact State.Touches.of_left fun f => by cases f <;> rfl
  case resolveRetry => exact (resolveRetry_elim (.refl _ _)
      (fun _ _ _ _ => (s.touches_settle _).mono fun _ h => by simp [h]) fun _ _ _ _ _ => s.touches_retried _ _)
  case resolveConvert => exact (resolveConvert_elim (.refl _ _) fun _ _ _ _ _ =>
      (accounts.mono (by simp)).trans ((State.touches_settle _ _).mono fun _ h => by simp [h]))
  case resolveManual => exact (resolveManual_elim (.refl _ _) fun _ _ _ => s.touches_settle _)
  case assignStrays => exact (assignStrays_elim (.refl _ _) fun _ _ _ _ _ _ _ =>
      ((s.touches_setPulse _ _).mono (by simp)).trans ((State.touches_putTicket _ _).mono (by simp)))
  case setClass =>
    refine (setClass_elim (.refl _ _) (fun _ _ _ _ => ?_) fun _ _ _ _ _ _ _ => ?_) <;>
      exact State.Touches.of_left fun f => by cases f <;> rfl
  case cancelChange => exact (cancelChange_elim (.refl _ _) fun _ => State.Touches.of_left fun f => by cases f <;> rfl)
  case readClass => exact .of_eq (readClass_state _ _)
  case setLaneStation =>
    exact setLaneStation_elim (.refl _ _) fun _ _ => State.Touches.of_left fun f => by cases f <;> rfl
  case setLanePulse =>
    refine setLanePulse_elim (.refl _ _) fun _ _ _ _ => ?_
    split
    · exact ((s.touches_setPulse _ _).mono (by simp)).trans ((State.touches_tellOffice _ _).mono (by simp))
    · exact (s.touches_setPulse _ _).mono (by simp)
  case setDispenser => exact (setDispenser_elim (.refl _ _) fun _ _ => disp)
  case refill => exact (refill_elim (.refl _ _) fun _ _ _ => disp)
  case clearChannel => exact (clearChannel_elim (.refl _ _) fun _ _ => disp)
  case watchAdd =>
    refine (watchAdd_elim (.refl _ _) ?_ fun _ _ => ?_) <;>
      exact State.Touches.of_left fun f => by cases f <;> rfl
  case watchRemove => exact (watchRemove_elim (.refl _ _) (State.Touches.of_left fun f => by cases f <;> rfl))
  case watchList => exact State.Touches.of_left fun f => by cases f <;> rfl
  case setTime => exact (setTime_elim (.refl _ _) (fun _ _ => (s.touches_timeSet _ _).mono (by simp))
      fun _ _ => ((s.touches_timeSet _ _).mono (by simp)).trans ((State.touches_applyDue _).mono fun _ h => by simp [h]))
  case readStatus => exact .of_eq rfl
  case readNotices =>
    rcases src with ⟨_ | _ | _, fits⟩
    · exact s.touches_readNotices .office
    · exact s.touches_readNotices .accounts
    · exact s.touches_readNotices .office
  case readAccount => exact .of_eq rfl
  case makeAccount => exact (makeAccount_elim (.refl _ _) fun _ _ _ => accounts)
  case setAccountState => exact (setAccountState_elim (.refl _ _) (fun _ _ => accounts) fun _ _ _ _ => accounts)
  case deleteAccount => exact (deleteAccount_elim (.refl _ _) fun _ _ => accounts)
  case issue => exact (issue_elim (.refl _ _) fun _ _ _ => accounts)
  case adjust => exact (adjust_elim (.refl _ _) fun _ _ _ => accounts)
  case collect => exact (collect_elim (.refl _ _) fun _ _ => accounts)
  case readResidue => exact .of_eq rfl
  case clearResidue => exact (clearResidue_elim (.refl _ _) (State.Touches.of_left fun f => by cases f <;> rfl))
  case peekLog => exact .of_eq rfl
  case takeLog =>
    refine (takeLog_elim (.refl _ _) fun r rest _ => State.Touches.trans ?_ (State.touches_admitWaiting _))
    exact State.Touches.of_left fun f => by cases f <;> rfl
  case arrive =>
    exact onGrantedLane_elim (.refl _ _) fun l => arrive_elim (.refl _ _)
      (fun _ _ _ => State.refuseDuplicate_elim (tickets (by simp))
        ((tickets (by simp)).trans ((State.touches_tellOffice _ _).mono (by simp))))
      fun _ _ _ _ _ _ _ _ _ => s.touches_acceptArrival _ _ _ _ _ _ _ _
  case laneDone => exact (onGrantedLane_elim (.refl _ _) fun _ => laneDone_elim (.refl _ _) fun _ _ =>
      s.touches_detachLane _ _)
  case laneQuery => exact .of_eq (onGrantedLane_elim (P := (· = s)) rfl fun _ => rfl)

/-- Every other command touches the fields of its effect alone. -/
theorem exec_event_touches {c : Instr} (hc : c.source? = none) {s t : State} (h : exec c s = .next t) :
    s.Touches (effectFields c) t := by
  cases c <;> cases hc
  case unknownRequest =>
    exact execUnknownRequest_elim (P := s.Touches replyFields) h (.refl _ _)
      (fun _ _ _ => State.touches_replyOn _ _ _ (refuse _ s)) fun _ _ => State.touches_replyInGrant _ _ (refuse _ s)
  case closeWaitExpiry => exact execCloseWaitExpiry_touches h
  case clockAdvance => exact execClockAdvance_touches h
  case crystalLoss => exact execCrystalLoss_touches h
  case crystalReturn => exact execCrystalReturn_touches h
  case backupCrystalStop => exact execBackupCrystalStop_touches h
  case backupLow => exact execBackupLow_touches h
  case powerStop => exact execPowerStop_touches h
  case warmStart => exact execWarmStart_touches h
  case coldStart => exact execColdStart_touches h
  case portLineError port kind after =>
    change execPortLineError port kind after s = _ at h
    exact event_touches h (s.touches_portEvent _ _ _)
  case portGapTimeout =>
    change execPortGapTimeout _ _ s = _ at h
    exact event_touches h (s.touches_portEvent _ _ _)
  case portIdleRecover =>
    change execPortIdleRecover _ _ s = _ at h
    exact event_touches h (s.touches_portEvent _ _ _)
  case portOverrun =>
    change execPortOverrun _ _ s = _ at h
    exact event_touches h (s.touches_portEvent _ _ _)
  case portReplyEnd =>
    change execPortReplyEnd _ _ s = _ at h
    exact event_touches h (s.touches_portEvent _ _ _)
  case lreqChange => exact execLreqChange_touches h
  case frameStart => exact execFrameStart_touches h
  case grantMiss => exact execGrantMiss_touches h
  case laneFrameError => exact execLaneFrameError_touches h
  case laneCharTimeout => exact execLaneCharTimeout_touches h
  case laneReplyEnd => exact execLaneReplyEnd_touches h
  case peyeTransition => exact execPeyeTransition_touches h
  case stall => exact execStall_touches h
  case jobTake => exact execJobTake_touches h
  case noteVendEnd => exact execNoteVendEnd_touches h
  case noteExitStart => exact execNoteExitStart_touches h
  case noteExitEnd => exact execNoteExitEnd_touches h
  case noteJamTimeout => exact execNoteJamTimeout_touches h
  case coinExitStart => exact execCoinExitStart_touches h
  case coinGapTimeout => exact execCoinGapTimeout_touches h
  case coinEmptyAsserted => exact execCoinEmptyAsserted_touches h
  case runOnEnd => exact execRunOnEnd_touches h
  case requestFrameStart =>
    change execRequestFrameStart _ _ s = _ at h
    exact event_touches h (s.touches_portEvent _ _ _)
  case inputsSettled => exact execInputsSettled_touches h

/-- Every command answers a state that differs in the fields of `fieldsOf` at most. -/
theorem exec_touches {c : Instr} {s t : State} (h : exec c s = .next t) : s.Touches (fieldsOf c) t := by
  unfold fieldsOf
  split
  · rename_i src hsrc
    obtain ⟨n, bs, block, _, hx, hb⟩ := exec_isRequest hsrc
    exact request_touches ((hx s).symm.trans h) (hb s)
  · exact exec_event_touches ‹_› h

/-! ### What is kept -/

section Kept

variable {I : State → Prop} {fs : List Field} {s t : State}

/-- A command keeps a predicate that reads none of the fields it can touch. -/
theorem Reads.exec {c : Instr} (hI : Reads I fs) (hs : I s) (h : exec c s = .next t) (hd : ∀ f ∈ fs, f ∉ fieldsOf c) : I t :=
  hI.kept (exec_touches h) hd hs

/-- What holds after a command that is a request: it was not taken, or it was answered over a state in which the fields of its effect
alone have changed (R169, R181). -/
theorem exec_request_elim {P : State → Prop} {c : Instr} {src : Source} (hc : c.source? = some src)
    (h : Sys2Proof.Machine.exec c s = .next t) (h0 : P s)
    (hp : ∀ p n a, s.receiving p → s.Touches (effectFields c) a.state → P (State.replyOn p c n a))
    (hl : ∀ l n a, s.hears l → s.Touches (effectFields c) a.state → P (State.replyInGrant l n a)) : P t := by
  obtain ⟨n, bs, block, _, hx, hb⟩ := exec_isRequest hc
  have hstate : ∀ a, (a = block s ∨ ∃ r, a = refuse r s) → s.Touches (effectFields c) a.state := by
    rintro a (rfl | ⟨r, rfl⟩)
    · exact hb s
    · exact .refl _ _
  exact request_elim ((hx s).symm.trans h) h0 (fun p a hr ha => hp p _ a hr (hstate a ha))
    fun l a hr ha => hl l _ a hr (hstate a ha)

/-- A request keeps a predicate that reads nothing of a reply where its block keeps it. -/
theorem Reads.request {src : Source} {i : Instr} {n : ReqName} {block : State → Answer} (hI : Reads I fs)
    (hd : ∀ f ∈ fs, f ∉ replyFields) (hs : I s) (h : request src i n block s = .next t) (hb : I (block s).state) : I t := by
  have hstate : ∀ a, (a = block s ∨ ∃ r, a = refuse r s) → I a.state := by
    rintro a (rfl | ⟨r, rfl⟩)
    · exact hb
    · exact hs
  exact request_elim h hs (fun p a _ ha => hI.kept (State.touches_replyOn _ _ _ _) hd (hstate a ha))
    fun l a _ ha => hI.kept (State.touches_replyInGrant _ _ _) hd (hstate a ha)

/-- A retained event keeps a predicate that does not read the check field where its effect keeps it. -/
theorem Reads.retainedEvent {c : Bool} {f : State → State} (hI : Reads I fs) (hd : Field.check ∉ fs) (hs : I s)
    (h : retainedEvent c f s = .next t) (hf : c = true → I (f s)) : I t :=
  retainedEvent_elim h hs fun hc => hI.kept (State.touches_sealed _) (fun f hf hm => hd (by simpa using List.mem_singleton.1 hm ▸ hf)) (hf hc)

/-- A step keeps what every command keeps and a millisecond of idling keeps, if it says nothing of the queue. -/
theorem step_kept (hI : Reads I fs) (hd : Field.pending ∉ fs) (hidle : I s → s.on = true → I (s.elapse 1))
    (hexec : ∀ c s, I s → exec c s = .next t → I t) (hs : I s) (h : step s = .next t) : I t := by
  unfold step at h
  split at h
  · cases h
    unfold State.idleTick
    split
    · exact hidle hs ‹_›
    · exact hs
  next rest _ =>
    have hqueue : s.Touches [.pending] { s with pending := rest } := State.Touches.of_left fun f => by cases f <;> rfl
    exact hexec _ _ (hI.kept hqueue (fun f hf hm => hd (List.mem_singleton.1 hm ▸ hf)) hs) h

/-- The same where the passing of time touches nothing of it. -/
theorem Reads.step (hI : Reads I fs) (hd : ∀ f ∈ fs, f ∉ Field.pending :: timeFields)
    (hexec : ∀ c s, I s → Sys2Proof.Machine.exec c s = .next t → I t) (hs : I s) (h : step s = .next t) : I t :=
  step_kept hI (fun hp => hd _ hp (by simp)) (fun hs _ => hI.kept (s.touches_elapse 1) (fun f hf hm => hd f hf (by simp [hm])) hs)
    hexec hs h

end Kept

end Sys2Proof.Machine
end

section
/-! SUPPORT. Inductions said once: what every change applied keeps is kept by all that are due, what every forced close keeps is kept
by all of them, and what the phases of a start keep is kept by a start, cut or not. -/

namespace Sys2Proof.Machine

section Kept

variable {P : State → Prop} {s t : State}

theorem State.applyDueN_kept
    (hc : ∀ (e : PendingChange) (rest : List PendingChange) (s : State), s.changes = e :: rest → P s → P (s.applyChange e rest))
    (n : Nat) (hs : P s) : P (State.applyDueN n s) := by
  induction n generalizing s with
  | zero => exact hs
  | succ n ih =>
    unfold State.applyDueN
    split
    · exact hs
    · split
      · exact ih (hc _ _ _ ‹_› hs)
      · exact hs

theorem State.applyDue_kept
    (hc : ∀ (e : PendingChange) (rest : List PendingChange) (s : State), s.changes = e :: rest → P s → P (s.applyChange e rest))
    (hs : P s) : P s.applyDue := State.applyDueN_kept hc _ hs

theorem State.forceClosesN_kept
    (hv : ∀ (n : Nat) (u : Ticket) (s : State), n ∈ s.closingOrder → s.ticket? n = some u → P s →
      P (s.valueTicket true { u with attachments := [] }))
    (hl : ∀ (n : Nat) (s : State), s.ticket? n = none → P s → P (s.leaveClosing n)) (n : Nat) (hs : P s) :
    P (State.forceClosesN n s) := by
  induction n generalizing s with
  | zero => exact hs
  | succ n ih =>
    unfold State.forceClosesN
    split
    · exact hs
    · rename_i m rest hm
      split
      · exact ih (hv m _ s (by simp [hm]) ‹_› hs)
      · exact ih (hl m s ‹_› hs)

/-- What the events of phase 3 of a warm start keep, which begins with a VALID marker (R193, Table 11-3). -/
structure WarmKept (P : State → Prop) : Prop where
  loss : ∀ s : State, s.marker = .valid → P s → P s.lossPhase
  change : ∀ (e : PendingChange) (rest : List PendingChange) (s : State), s.marker = .valid → s.changes = e :: rest → P s →
    P (s.applyChange e rest)
  close : ∀ (n : Nat) (u : Ticket) (s : State), s.marker = .valid → n ∈ s.closingOrder → s.ticket? n = some u → P s →
    P (s.valueTicket true { u with attachments := [] })
  leave : ∀ (n : Nat) (s : State), s.marker = .valid → s.ticket? n = none → P s → P (s.leaveClosing n)
  fault : ∀ s : State, s.marker = .valid → P s → P s.restartFault

theorem State.applyChange_marker (e : PendingChange) (rest : List PendingChange) (s : State) :
    (s.applyChange e rest).marker = s.marker := by rw [State.applyChange_shape]

theorem WarmKept.upTo (h : WarmKept P) (point : WarmPoint) (hm : s.marker = .valid) (hs : P s.warmBlocks) :
    (s.warmUpTo point).marker = .valid ∧ P (s.warmUpTo point) := by
  have hloss : s.warmBlocks.lossPhase.marker = .valid ∧ P s.warmBlocks.lossPhase :=
    ⟨by rw [State.lossPhase_shape]; exact hm, h.loss _ hm hs⟩
  have hdue : ∀ n, (State.applyDueN n s.warmBlocks.lossPhase).marker = .valid ∧ P (State.applyDueN n s.warmBlocks.lossPhase) :=
    fun n => State.applyDueN_kept (P := fun s => s.marker = .valid ∧ P s)
      (fun e rest u he hu => ⟨(State.applyChange_marker e rest u).trans hu.1, h.change e rest u hu.1 he hu.2⟩) n hloss
  have hclose : ∀ n, (State.forceClosesN n s.warmBlocks.lossPhase.applyDue).marker = .valid ∧
      P (State.forceClosesN n s.warmBlocks.lossPhase.applyDue) := fun n =>
    State.forceClosesN_kept (P := fun s => s.marker = .valid ∧ P s)
      (fun n u s hn hu hs => ⟨by simpa using hs.1, h.close n u s hs.1 hn hu hs.2⟩)
      (fun n s hn hs => ⟨hs.1, h.leave n s hs.1 hn hs.2⟩) n (hdue _)
  cases point with
  | afterPorts => exact ⟨hm, hs⟩
  | afterLossMark => exact hloss
  | afterChanges n => exact hdue n
  | afterCloses n => exact hclose n
  | afterPaying =>
    obtain ⟨hv, hp⟩ := hclose s.warmBlocks.lossPhase.applyDue.closingOrder.length
    exact ⟨by rw [State.warmUpTo, State.restartFault_shape]; exact hv, h.fault _ hv hp⟩

/-- What holds after a warm start, cut or not: the marker it sets is VALID already (Table 11-3). -/
theorem WarmKept.exec {I : State → Prop} (h : WarmKept P) {found : StartFound} {cut : Option (WarmPoint × StopCause)}
    (hx : execWarmStart found cut s = .next t) (h0 : I s) (hb : s.on = false → s.marker = .valid → P s.warmBlocks)
    (hd : ∀ u : State, u.marker = .valid → P u → I u.sealed)
    (hh : ∀ (cause : StopCause) (u : State), u.marker = .valid → P u → I (u.halt cause).sealed) : I t := by
  refine retainedEvent_elim hx h0 fun hc => ?_
  obtain ⟨hoff, hw⟩ := Bool.and_eq_true_iff.1 hc
  have hm : s.marker = .valid := ((State.startsWarm_iff found s).1 hw).1
  have hs : P s.warmBlocks := hb (by simpa using hoff) hm
  split
  · obtain ⟨hv, hp⟩ := h.upTo .afterPaying hm hs
    have he : s.warmStart = s.warmUpTo .afterPaying := by
      show { s.warmUpTo .afterPaying with marker := .valid } = _
      rw [← hv]
    rw [he]
    exact hd _ hv hp
  · obtain ⟨hv, hp⟩ := h.upTo _ hm hs
    exact hh _ _ hv hp

end Kept

theorem State.lossPhase_elim {P : State → Prop} {s : State} (h0 : P s)
    (h : P (State.tellOffice .clockSuspect { s with clock := { s.clock with suspect := true }, lossMark := false })) :
    P s.lossPhase := by
  unfold State.lossPhase
  split
  · exact h
  · exact h0

/-- The PAYING ticket that a restart turns into a PAY_FAULT one (R65). -/
def Ticket.restartFaulted (t : Ticket) : Ticket :=
  { t with state := .payFault, progress := t.progress.map fun p => { p with fault := some .restart } }

theorem State.restartFault_elim {P : State → Prop} {s : State} (h0 : (∀ t ∈ s.tickets, t.state ≠ .paying) → P s)
    (h : ∀ t ∈ s.tickets, t.state = .paying → P (State.tellOffice .payFault (s.putTicket t.restartFaulted))) :
    P s.restartFault := by
  unfold State.restartFault
  split
  · rename_i hn
    exact h0 (by simpa using hn)
  · rename_i t ht
    exact h t (List.mem_of_find?_eq_some ht) (by simpa using List.find?_some ht)

theorem State.applyChange_elim {P : State → Prop} {s : State} {e : PendingChange} {rest : List PendingChange}
    (hd : P (State.tellOffice .changeDropped { s with changes := rest }))
    (hc : s.breaksInUse e.cls e.record = false → P (State.setClassRecord e.cls e.record { s with changes := rest })) :
    P (s.applyChange e rest) := by
  unfold State.applyChange
  split
  · exact hd
  · exact hc (by simpa using ‹¬s.breaksInUse _ _ = true›)

end Sys2Proof.Machine
end

section
/-! SUPPORT. The schedule's invariant (R1, R9): what the stored form, the insertion of a change and its application keep. -/

namespace Sys2Proof.Machine

theorem ClassRecord.zero_ok : ClassRecord.zero.Ok where
  deposit := Nat.zero_le _
  foreign := Nat.le_refl _
  damage := Nat.zero_le _
  crate := fun _ => ⟨Nat.zero_le _, Nat.zero_le _⟩
  other := fun _ => ⟨rfl, rfl⟩
  unused := fun _ => rfl
  label := fun h => absurd rfl h

/-- A stored form is a record in its ranges (R1, R4). -/
theorem storedForm_ok {st kind d f g sl b : Nat} {label : List Byte} {r : ClassRecord}
    (h : storedForm st kind d f g sl b label = some r) : r.Ok := by
  unfold storedForm at h
  split at h
  · cases h
  · cases h
    exact ClassRecord.zero_ok
  · rename_i st hne _
    split at h
    · cases h
    · rename_i k _
      split at h
      · rename_i hr
        simp only [Bool.and_eq_true, Bool.or_eq_true, decide_eq_true_eq, bne_iff_ne, labelFits_iff] at hr
        obtain ⟨⟨⟨hd, hg⟩, hl⟩, hc⟩ := hr
        cases h
        exact {
          deposit := hd
          foreign := Nat.min_le_right _ _
          damage := hg
          crate := fun hk => by simpa [show k = .crate from hk] using hc
          other := fun hk => by simp [show k ≠ .crate from hk]
          unused := fun hu => absurd hu hne
          label := fun _ => hl }
      · cases h

theorem scheduleInv_reads : Reads ScheduleInv [.classes, .changes] := by
  intro s t h hs
  have hc : t.classes = s.classes := h .classes (by simp)
  have he : t.changes = s.changes := h .changes (by simp)
  exact ⟨hc ▸ hs.classes, he ▸ hs.changes, he ▸ hs.onePerClass, he ▸ hs.inOrder⟩

/-- The list of pending changes alone: entries in range, one a class, in order (R9). -/
structure ChangesOk (es : List PendingChange) : Prop where
  entries : ∀ e ∈ es, e.record.Ok ∧ e.second ≤ 86399
  onePerClass : (es.map (·.cls)).Nodup
  inOrder : es.Pairwise PendingChange.notLater

theorem ScheduleInv.changesOk {s : State} (h : ScheduleInv s) : ChangesOk s.changes := ⟨h.changes, h.onePerClass, h.inOrder⟩

theorem ChangesOk.sublist {es fs : List PendingChange} (h : ChangesOk es) (hs : fs.Sublist es) : ChangesOk fs :=
  ⟨fun e he => h.entries e (hs.subset he), h.onePerClass.sublist (hs.map _), h.inOrder.sublist hs⟩

/-- A new entry of a class that has none keeps the list in order (R9). -/
theorem ChangesOk.insert {es : List PendingChange} {e : PendingChange} (h : ChangesOk es) (hr : e.record.Ok)
    (hsec : e.second ≤ 86399) (hnew : ∀ x ∈ es, x.cls ≠ e.cls) : ChangesOk (insertChange e es) := by
  obtain ⟨before, behind, rfl, hb, hl, hi⟩ := insertChange_split e h.inOrder
  rw [hi]
  refine ⟨?_, ?_, ?_⟩
  · intro x hx
    rcases List.mem_append.1 hx with hx | hx
    · exact h.entries x (List.mem_append_left _ hx)
    · rcases List.mem_cons.1 hx with rfl | hx
      · exact ⟨hr, hsec⟩
      · exact h.entries x (List.mem_append_right _ hx)
  · have hperm : (before ++ e :: behind).map (·.cls) |>.Perm (e.cls :: (before ++ behind).map (·.cls)) := by
      simp
    rw [hperm.nodup_iff, List.nodup_cons]
    exact ⟨fun hm => by obtain ⟨x, hx, hc⟩ := List.mem_map.1 hm; exact hnew x hx hc, h.onePerClass⟩
  · obtain ⟨h1, h2, h3⟩ := List.pairwise_append.1 h.inOrder
    refine List.pairwise_append.2 ⟨h1, List.pairwise_cons.2 ⟨fun x hx => ?_, h2⟩, fun x hx y hy => ?_⟩
    · exact (hl x hx).imp id fun hd => ⟨hd.1, Nat.le_of_lt hd.2⟩
    · rcases List.mem_cons.1 hy with rfl | hy
      · exact hb x hx
      · exact h3 x hx y hy

theorem ScheduleInv.withChanges {s : State} (h : ScheduleInv s) {es : List PendingChange} (he : ChangesOk es) :
    ScheduleInv { s with changes := es } := ⟨h.classes, he.entries, he.onePerClass, he.inOrder⟩

theorem ScheduleInv.setClassRecord {s : State} (h : ScheduleInv s) (c : ClassId) {r : ClassRecord} (hr : r.Ok) :
    ScheduleInv (s.setClassRecord c r) := by
  refine ⟨fun d => ?_, h.changes, h.onePerClass, h.inOrder⟩
  by_cases hd : d = c
  · subst hd
    simp [hr]
  · have : c.val ≠ d.val := fun e => hd (Fin.ext e.symm)
    simpa [Vector.getElem_set_ne, this] using h.classes d

theorem ScheduleInv.applyChange {s : State} {e : PendingChange} {rest : List PendingChange} (he : s.changes = e :: rest)
    (h : ScheduleInv s) : ScheduleInv (s.applyChange e rest) := by
  have hrest : ScheduleInv { s with changes := rest } :=
    h.withChanges (h.changesOk.sublist (he ▸ List.sublist_cons_self e rest))
  exact State.applyChange_elim (scheduleInv_reads.kept (State.touches_tellOffice _ _) (by simp) hrest)
    fun _ => hrest.setClassRecord e.cls (h.changes e (by simp [he])).1

theorem ScheduleInv.applyDue {s : State} (h : ScheduleInv s) : ScheduleInv s.applyDue :=
  State.applyDue_kept (fun _ _ _ he hs => hs.applyChange he) h

theorem ScheduleInv.reset : ScheduleInv State.reset where
  classes := fun c => by
    have : State.reset.classes[c] = ClassRecord.zero := by simp [State.reset, State.coldContent, State.sealed]
    exact this ▸ ClassRecord.zero_ok
  changes := by simp
  onePerClass := by simp
  inOrder := by simp

theorem setClass_keeps_schedule {s : State} (h : ScheduleInv s) (cls st kind d f g sl b : Nat) (label : List Byte)
    (eff : Option (Nat × Nat)) : ScheduleInv (setClass cls st kind d f g sl b label eff s).state :=
  setClass_elim h (fun c _ hr _ => h.setClassRecord c (storedForm_ok hr)) fun _ _ _ _ hr hsec _ =>
    h.withChanges ((h.changesOk.sublist List.filter_sublist).insert (storedForm_ok hr) hsec
      fun _ hx => (mem_removeChange.1 hx).2)

theorem warmKept_schedule : WarmKept ScheduleInv where
  loss := fun _ _ h => State.lossPhase_elim h ⟨h.classes, h.changes, h.onePerClass, h.inOrder⟩
  change := fun _ _ _ _ he h => h.applyChange he
  close := fun _ _ _ _ _ _ => scheduleInv_reads.kept (State.touches_valueTicket _ _ _) (by simp [valuationFields])
  leave := fun _ _ _ _ h => ⟨h.classes, h.changes, h.onePerClass, h.inOrder⟩
  fault := fun _ _ h => State.restartFault_elim (fun _ => h) fun _ _ _ => ⟨h.classes, h.changes, h.onePerClass, h.inOrder⟩

theorem exec_keeps_schedule (c : Instr) (s : State) {t : State} (hs : ScheduleInv s) (h : exec c s = .next t) :
    ScheduleInv t := by
  have hI := scheduleInv_reads
  have hreq : ∀ {src i n block}, request src i n block s = .next t → ScheduleInv (block s).state → ScheduleInv t :=
    hI.request (by simp [replyFields]) hs
  cases c
  case setClass => exact hreq h (setClass_keeps_schedule hs _ _ _ _ _ _ _ _ _ _)
  case cancelChange => exact hreq h (cancelChange_elim hs fun _ =>
      hs.withChanges (hs.changesOk.sublist List.filter_sublist))
  case setTime =>
    exact hreq h (setTime_elim hs (fun _ _ => hI.kept (s.touches_timeSet _ _) (by simp) hs)
        fun _ _ => ScheduleInv.applyDue (hI.kept (s.touches_timeSet _ _) (by simp) hs))
  case clockAdvance =>
    change execClockAdvance s = _ at h
    unfold execClockAdvance at h
    split at h
    · exact hI.retainedEvent (by simp) hs h fun _ =>
        ScheduleInv.applyDue (hI.kept (s.touches_fullSecond.trans ((State.touches_tickClock _).mono (by simp)))
          (by simp [timeFields]) hs)
    · exact event_elim h hs fun _ => hI.kept (s.touches_crystalSecond.trans (State.touches_tickClock _)) (by simp) hs
  case warmStart =>
    have hsealed : ∀ u : State, ScheduleInv u → ScheduleInv u.sealed := fun u => hI.kept u.touches_sealed (by simp)
    exact warmKept_schedule.exec h hs (fun _ _ => ⟨hs.classes, hs.changes, hs.onePerClass, hs.inOrder⟩) (fun u _ => hsealed u)
      fun cause u _ hu => hsealed _ (hI.kept (u.touches_halt cause) (by simp) hu)
  case coldStart found cut =>
    change execColdStart found cut s = _ at h
    refine event_elim h hs fun _ => ?_
    cases cut with
    | none => exact ⟨ScheduleInv.reset.classes, ScheduleInv.reset.changes, ScheduleInv.reset.onePerClass, ScheduleInv.reset.inOrder⟩
    | some cause =>
      refine hI.kept (State.touches_halt _ _) (by simp) ?_
      by_cases hc : Config.clearedByCut s.draws 1 = true
      · exact hI _ _ (fun f hf => by
          rcases List.mem_cons.1 hf with rfl | hf
          · simp [Field.agrees, State.clearBlocks, hc]
          · rw [List.mem_singleton.1 hf]
            simp [Field.agrees, State.clearBlocks, hc]) ScheduleInv.reset
      · exact hI _ _ (fun f hf => by
          rcases List.mem_cons.1 hf with rfl | hf
          · simp [Field.agrees, State.clearBlocks, hc]
          · rw [List.mem_singleton.1 hf]
            simp [Field.agrees, State.clearBlocks, hc]) hs
  all_goals
    exact hI.exec hs h (by simp [Instr.source?, replyFields, timeFields, valuationFields, finishFields, payoutFields])

/-- Settles O13: the changes of the list and of the records are a Set Class's, a Cancel Change's and those of due changes; each keeps
the list in order and the records in range. -/
theorem scheduleInvariantKept : Obligations.ScheduleInvariantKept := fun _ _ hs h =>
  scheduleInv_reads.step (by simp [timeFields]) (fun c s => exec_keeps_schedule c s) hs h

end Sys2Proof.Machine
end

section
/-! SUPPORT. The invariant of the pulse lanes (R95, R96, R100): what each event of a lane and Set Lane keep, and why an applied change
never leaves an enabled lane bound to an UNUSED class. -/

namespace Sys2Proof.Machine

theorem State.setPulse_at (i j : PulseIx) (p : PulseLane) (s : State) :
    (s.setPulse i p).pulse[j] = if j = i then p else s.pulse[j] := by
  by_cases h : j = i
  · subst h
    simp
  · have : i.val ≠ j.val := fun e => h (Fin.ext e.symm)
    simp [h, Vector.getElem_set_ne, this]

theorem State.setClassRecord_at (c d : ClassId) (r : ClassRecord) (s : State) :
    (s.setClassRecord c r).classes[d] = if d = c then r else s.classes[d] := by
  by_cases h : d = c
  · subst h
    simp
  · have : c.val ≠ d.val := fun e => h (Fin.ext e.symm)
    simp [h, Vector.getElem_set_ne, this]

theorem satAdd_le (top n k : Nat) : satAdd top n k ≤ top := by simp [satAdd]

/-- The binding of an enabled lane (R95). -/
def PulseLane.Bound (classes : Vector ClassRecord 16) (p : PulseLane) : Prop :=
  p.enabled = true → classes[p.cls].state ≠ .unused

theorem PulseLane.Bound.congr {classes : Vector ClassRecord 16} {p q : PulseLane} (h : p.Bound classes)
    (he : q.enabled = p.enabled) (hc : q.cls = p.cls) : q.Bound classes := by
  unfold PulseLane.Bound at h ⊢
  simpa only [he, hc] using h

theorem PulseInv.laneBound {s : State} (h : PulseInv s) (hm : s.marker = .valid) (i : PulseIx) :
    s.pulse[i].Bound s.classes := h.bound hm i

theorem pulseInv_reads : Reads PulseInv [.pulse, .marker, .classes] := by
  intro s t h hs
  have hp : t.pulse = s.pulse := h .pulse (by simp)
  have hm : t.marker = s.marker := h .marker (by simp)
  have hc : t.classes = s.classes := h .classes (by simp)
  refine ⟨hp ▸ hs.lanes, fun hv i => ?_⟩
  show t.pulse[i].Bound t.classes
  rw [hp, hc]
  exact hs.laneBound (hm ▸ hv) i

/-! ### One lane -/

/-- A record in its ranges after its working state has changed. -/
theorem PulseLane.Ok.withStrays {p : PulseLane} (h : p.Ok) {n : Nat} (hn : n ≤ 9999) (hd : p.enabled = false → n = 0) :
    ({ p with strays := n } : PulseLane).Ok :=
  { h with strays := hn, disabled := fun he => ⟨hd he, (h.disabled he).2⟩ }

theorem PulseLane.Ok.moves {p : PulseLane} (h : p.Ok) (hd : p.enabled = false) (blocked : Bool) (now : Nat) :
    (p.moves blocked now).Ok :=
  { h with monitor := fun he => absurd (hd.symm.trans he) (by simp) }

/-- The monitor of an enabled lane follows its level (R100). -/
theorem PulseLane.Ok.monitored {p : PulseLane} (h : p.Ok) (he : p.enabled = true) (blocked : Bool) (now : Nat) :
    ((p.moves blocked now).monitor blocked now).Ok := by
  have hdis : ∀ q : Prop, p.enabled = false → q := fun q hd => absurd (hd.symm.trans he) (by simp)
  cases blocked
  · exact { h with
      disabled := fun hd => hdis _ hd
      monitor := fun _ => by simp [PulseLane.monitor, PulseLane.moves]
      stalled := fun hs => absurd hs (by simp [PulseLane.monitor]) }
  · exact { h with
      disabled := fun hd => hdis _ hd
      monitor := fun _ => by simp [PulseLane.monitor, PulseLane.moves]
      stalled := fun _ => by simp [PulseLane.monitor] }

theorem PulseLane.monitor_enabled (blocked : Bool) (now : Nat) (p : PulseLane) :
    ((p.moves blocked now).monitor blocked now).enabled = p.enabled := by cases blocked <;> rfl

theorem PulseLane.monitor_cls (blocked : Bool) (now : Nat) (p : PulseLane) :
    ((p.moves blocked now).monitor blocked now).cls = p.cls := by cases blocked <;> rfl

/-- What Set Lane leaves is in its ranges: a lane it disables holds no strays, since it was let through (R104, R105). -/
theorem PulseLane.Ok.configured {p : PulseLane} {f : PulseFields} (h : p.Ok) (hs : 20 ≤ f.spacing ∧ f.spacing ≤ 2000)
    (ht : 1 ≤ f.stallTime ∧ f.stallTime ≤ 60) (hu : p.unbinds f = true → p.strays = 0) (now : Nat) : (p.configured f now).Ok := by
  unfold PulseLane.configured
  dsimp only
  split
  · rename_i hp hf
    exact { h with
      spacing := hs
      stallTime := ht
      bounces := Nat.zero_le _
      disabled := fun hd => absurd (hf.symm.trans hd) (by simp)
      monitor := fun _ => by dsimp only [PulseLane.write]; cases p.blocked.level <;> simp
      stalled := fun hst => absurd hst (by simp) }
  · rename_i hp hf
    exact { h with
      spacing := hs
      stallTime := ht
      disabled := fun _ => ⟨hu (by simp [PulseLane.unbinds, hp, hf]), rfl, rfl, rfl⟩
      monitor := fun he => absurd (hf.symm.trans he) (by simp)
      stalled := fun hst => absurd hst (by simp) }
  · rename_i hp hf
    exact { h with
      spacing := hs
      stallTime := ht
      disabled := fun hd => absurd (hf.symm.trans hd) (by simp)
      monitor := fun _ => h.monitor hp
      stalled := fun hst => by
        rcases Bool.or_eq_true_iff.1 hst with hst | hst
        · exact h.stalled hst
        · have ho : (p.write f).overdue now = true := (Bool.and_eq_true_iff.1 hst).2
          unfold PulseLane.overdue at ho
          split at ho
          · rename_i heq
            simp [heq]
          · simp at ho }
  · rename_i hp hf
    exact { h with
      spacing := hs
      stallTime := ht
      disabled := fun _ => h.disabled hp
      monitor := fun he => absurd (hf.symm.trans he) (by simp)
      stalled := fun hst => h.stalled hst }

theorem PulseLane.configured_enabled (f : PulseFields) (now : Nat) (p : PulseLane) :
    (p.configured f now).enabled = f.enabled := by
  unfold PulseLane.configured; dsimp only; split <;> simp_all [PulseLane.write]

theorem PulseLane.configured_cls (f : PulseFields) (now : Nat) (p : PulseLane) : (p.configured f now).cls = f.cls := by
  unfold PulseLane.configured; dsimp only; split <;> rfl

/-- The working state that starts afresh is in keeping with the record (R106). -/
theorem PulseLane.Ok.warm {p : PulseLane} (h : p.Ok) : p.warm.Ok :=
  { h with
    disabled := fun hd => ⟨(h.disabled hd).1, rfl, rfl, rfl⟩
    monitor := fun _ => by simp [PulseLane.warm, FilteredInput.clear]
    stalled := fun hs => absurd hs (by simp [PulseLane.warm]) }

theorem PulseLane.Ok.found {p : PulseLane} (h : p.Ok) (blocked : Bool) (now : Nat) : (p.found blocked now).Ok :=
  { h with
    disabled := fun hd => ⟨(h.disabled hd).1, rfl, rfl, by
      rw [PulseLane.found, show p.enabled = false from hd]; rfl⟩
    monitor := fun he => by
      simp only [PulseLane.found, show p.enabled = true from he, FilteredInput.found_level]
      cases blocked <;> simp
    stalled := fun hs => absurd hs (by simp [PulseLane.found]) }

theorem PulseLane.cold_ok : PulseLane.cold.Ok where
  spacing := by decide
  stallTime := by decide
  strays := Nat.zero_le _
  bounces := Nat.zero_le _
  disabled := fun _ => ⟨rfl, rfl, rfl, rfl⟩
  monitor := fun h => absurd h (by decide)
  stalled := fun h => absurd h (by decide)

/-! ### The lanes -/

theorem PulseInv.setPulse {s : State} (h : PulseInv s) (i : PulseIx) {p : PulseLane} (hp : p.Ok)
    (hb : s.marker = .valid → p.enabled = true → s.classes[p.cls].state ≠ .unused) : PulseInv (s.setPulse i p) where
  lanes := fun j => by
    rw [State.setPulse_at]
    split
    · exact hp
    · exact h.lanes j
  bound := fun hm j => by
    show ((s.setPulse i p).pulse[j]).Bound s.classes
    rw [State.setPulse_at]
    split
    · exact hb hm
    · exact h.laneBound hm j

/-- The same for a record that keeps its binding. -/
theorem PulseInv.setPulse_bound {s : State} (h : PulseInv s) (i : PulseIx) {p : PulseLane} (hp : p.Ok)
    (he : p.enabled = s.pulse[i].enabled) (hc : p.cls = s.pulse[i].cls) : PulseInv (s.setPulse i p) :=
  h.setPulse i hp fun hm => (h.laneBound hm i).congr he hc

theorem PulseInv.tellOffice {s : State} (h : PulseInv s) (n : Notice) : PulseInv (s.tellOffice n) :=
  pulseInv_reads.kept (s.touches_tellOffice n) (by simp) h

theorem PulseInv.putTicket {s : State} (h : PulseInv s) (t : Ticket) : PulseInv (s.putTicket t) :=
  pulseInv_reads.kept (s.touches_putTicket t) (by simp) h

/-- A stray of an enabled lane (R99). -/
theorem PulseInv.stray {s : State} (h : PulseInv s) {i : PulseIx} (he : s.pulse[i].enabled = true) : PulseInv (s.stray i) :=
  (h.setPulse_bound i ((h.lanes i).withStrays (satAdd_le _ _ _) fun hd => absurd (hd.symm.trans he) (by simp)) rfl rfl).tellOffice _

theorem PulseInv.pulseArrival {s : State} (h : PulseInv s) {i : PulseIx} (he : s.pulse[i].enabled = true) :
    PulseInv (s.pulseArrival i) := by
  unfold State.pulseArrival
  dsimp only
  split
  · exact h.stray he
  · split
    · exact h.stray he
    · exact h.putTicket _

theorem PulseInv.countingEdge {s : State} (h : PulseInv s) {i : PulseIx} (he : s.pulse[i].enabled = true) :
    PulseInv (s.countingEdge i) := by
  have hdis : ∀ q : Prop, s.pulse[i].enabled = false → q := fun q hd => absurd (hd.symm.trans he) (by simp)
  unfold State.countingEdge
  dsimp only
  split
  · refine (h.setPulse_bound i (p := { s.pulse[i] with lastCounted := some s.now })
      { h.lanes i with disabled := fun hd => hdis _ hd } rfl rfl).pulseArrival ?_
    rw [State.setPulse_at, if_pos rfl]
    exact he
  · exact h.setPulse_bound i { h.lanes i with bounces := satAdd_le _ _ _, disabled := fun hd => hdis _ hd } rfl rfl

theorem PulseInv.peye {s : State} (h : PulseInv s) (i : PulseIx) (blocked : Bool) : PulseInv (s.peye i blocked) := by
  unfold State.peye
  dsimp only
  split
  · rename_i hd
    exact h.setPulse_bound i ((h.lanes i).moves (by simpa using hd) _ _) rfl rfl
  · rename_i he
    have he : s.pulse[i].enabled = true := Bool.not_eq_false _ ▸ fun hd => he (by rw [hd]; rfl)
    have hset := h.setPulse_bound i ((h.lanes i).monitored he blocked s.now)
      (PulseLane.monitor_enabled _ _ _) (PulseLane.monitor_cls _ _ _)
    split
    · refine hset.countingEdge ?_
      rw [State.setPulse_at, if_pos rfl, PulseLane.monitor_enabled]
      exact he
    · exact hset

/-- The stall of a lane that is due: the monitor of an enabled lane runs (R100). -/
theorem PulseInv.stallLane {s : State} (h : PulseInv s) {i : PulseIx} {due : Nat} (hd : s.pulse[i].stallDue = some due) :
    PulseInv (s.stallLane i) := by
  unfold PulseLane.stallDue at hd
  split at hd
  · rename_i since hsince
    split at hd
    · rename_i he
      have hen : s.pulse[i].enabled = true := (Bool.and_eq_true_iff.1 he).1
      exact (h.setPulse_bound i (p := { s.pulse[i] with stalled := true })
        { h.lanes i with
          disabled := fun hd => absurd (hd.symm.trans hen) (by simp)
          stalled := fun _ => by rw [hsince]; rfl } rfl rfl).tellOffice _
    · cases hd
  · cases hd

theorem PulseInv.elapse {s : State} (h : PulseInv s) (ms : Nat) : PulseInv (s.elapse ms) :=
  pulseInv_reads.kept (s.touches_elapse ms) (by simp [timeFields]) h

theorem PulseInv.laneElapse {s : State} (h : PulseInv s) (i : PulseIx) (after : Nat) : PulseInv (s.laneElapse i after) := by
  unfold State.laneElapse
  dsimp only
  split
  · split
    · exact pulseInv_reads.kept (State.touches_sealed _) (by simp) ((h.elapse after).stallLane (s := s.elapse after) ‹_›)
    · exact h.elapse after
  · exact h.elapse after

/-! ### The classes -/

/-- A class that an enabled lane is bound to is in use, so no change leaves it UNUSED (R5, R6). -/
theorem PulseInv.setClassRecord {s : State} (h : PulseInv s) (c : ClassId) (r : ClassRecord)
    (hb : s.breaksInUse c r = false) : PulseInv (s.setClassRecord c r) where
  lanes := h.lanes
  bound := fun hm i he => by
    have hr : s.pulse[i].cls = c → r.state ≠ .unused := fun hc hu => by
      have huse : s.classInUse c = true := State.classInUse_iff.2 (.inr (.inr ⟨i, he, hc⟩))
      simp [State.breaksInUse, huse, hu] at hb
    have hat := State.setClassRecord_at c s.pulse[i].cls r s
    show ((s.setClassRecord c r).classes[s.pulse[i].cls]).state ≠ .unused
    rw [hat]
    split
    · exact hr ‹_›
    · exact h.bound hm i he

theorem PulseInv.applyChange {s : State} (h : PulseInv s) (e : PendingChange) (rest : List PendingChange) :
    PulseInv (s.applyChange e rest) := by
  have hrest : PulseInv { s with changes := rest } := ⟨h.lanes, h.bound⟩
  exact State.applyChange_elim (hrest.tellOffice _) fun hb => hrest.setClassRecord _ _ hb

theorem PulseInv.applyDue {s : State} (h : PulseInv s) : PulseInv s.applyDue :=
  State.applyDue_kept (fun e rest _ _ hs => hs.applyChange e rest) h

/-! ### Starts -/

theorem PulseInv.warmBlocks {s : State} (h : PulseInv s) : PulseInv s.warmBlocks := by
  refine ⟨fun i => ?_, fun hm i => ?_⟩
  · have := (h.lanes i).warm
    simpa [State.warmBlocks] using this
  · have := h.bound hm i
    simpa [State.warmBlocks, PulseLane.warm] using this

theorem warmKept_pulse : WarmKept PulseInv where
  loss := fun _ _ h => State.lossPhase_elim h ⟨h.lanes, h.bound⟩
  change := fun e rest _ _ _ h => h.applyChange e rest
  close := fun _ _ _ _ _ _ => pulseInv_reads.kept (State.touches_valueTicket _ _ _) (by simp [valuationFields])
  leave := fun _ _ _ _ h => ⟨h.lanes, h.bound⟩
  fault := fun _ _ h => State.restartFault_elim (fun _ => h) fun _ _ _ => ⟨h.lanes, h.bound⟩

theorem PulseInv.reset : PulseInv State.reset := by
  have hp : ∀ i : PulseIx, State.reset.pulse[i] = PulseLane.cold := fun i => by
    simp [State.reset, State.coldContent, State.sealed]
  exact ⟨fun i => hp i ▸ PulseLane.cold_ok, fun _ i he => absurd (hp i ▸ he) (by decide)⟩

theorem PulseInv.coldCut {s : State} (h : PulseInv s) (cause : StopCause) : PulseInv (s.coldCut cause) := by
  refine ⟨fun i => ?_, fun hm => absurd hm (by simp [State.coldCut, State.halt])⟩
  by_cases hc : Config.clearedByCut s.draws 5 = true
  · simpa [State.coldCut, State.halt, State.clearBlocks, hc] using PulseInv.reset.lanes i
  · simpa [State.coldCut, State.halt, State.clearBlocks, hc] using h.lanes i

theorem PulseInv.establish {s : State} (h : PulseInv s) (v : InputLevels) : PulseInv (s.establish v) := by
  refine ⟨fun i => ?_, fun hm i => ?_⟩
  · have := (h.lanes i).found v.blocked[i] s.now
    simpa [State.establish] using this
  · have := h.bound hm i
    simpa [State.establish, PulseLane.found] using this

/-! ### Every command -/

theorem setLanePulse_keeps_pulse {s : State} (h : PulseInv s) (i : PulseIx) (enabled cls edge spacing stall mode : Nat) :
    PulseInv (setLanePulse i enabled cls edge spacing stall mode s).state := by
  refine setLanePulse_elim h fun f hf hcls hfree => ?_
  obtain ⟨hs, ht⟩ := pulseFields_spec hf
  have hset : PulseInv (s.setPulse i (s.pulse[i].configured f s.now)) := by
    refine h.setPulse i ((h.lanes i).configured hs ht (fun hu => (hfree hu).2) _) fun _ => ?_
    exact PulseLane.Bound.congr (p := s.pulse[i].write f) hcls (PulseLane.configured_enabled _ _ _)
      (PulseLane.configured_cls _ _ _)
  split
  · exact hset.tellOffice _
  · exact hset

theorem exec_keeps_pulse (c : Instr) (s : State) {t : State} (hs : PulseInv s) (h : exec c s = .next t) : PulseInv t := by
  have hI := pulseInv_reads
  have hreq : ∀ {src i n block}, request src i n block s = .next t → PulseInv (block s).state → PulseInv t :=
    hI.request (by simp [replyFields]) hs
  cases c
  case assignStrays =>
    exact hreq h (assignStrays_elim hs fun i t _ _ _ _ _ =>
      (hs.setPulse_bound i ((hs.lanes i).withStrays (Nat.zero_le _) fun _ => rfl) rfl rfl).putTicket _)
  case setLanePulse => exact hreq h (setLanePulse_keeps_pulse hs _ _ _ _ _ _ _)
  case setClass =>
    exact hreq h (setClass_elim hs (fun c r _ hb => hs.setClassRecord c r hb) fun _ _ _ _ _ _ _ => ⟨hs.lanes, hs.bound⟩)
  case cancelChange => exact hreq h (cancelChange_elim hs fun _ => ⟨hs.lanes, hs.bound⟩)
  case setTime =>
    exact hreq h (setTime_elim hs (fun _ _ => ⟨hs.lanes, hs.bound⟩) fun _ _ =>
      PulseInv.applyDue (s := s.timeSet _ _) ⟨hs.lanes, hs.bound⟩)
  case clockAdvance =>
    change execClockAdvance s = _ at h
    unfold execClockAdvance at h
    split at h
    · exact hI.retainedEvent (by simp) hs h fun _ =>
        PulseInv.applyDue (hI.kept (s.touches_fullSecond.trans ((State.touches_tickClock _).mono (by simp)))
          (by simp [timeFields]) hs)
    · exact event_elim h hs fun _ => ⟨hs.lanes, hs.bound⟩
  case backupLow =>
    change execBackupLow s = _ at h
    exact event_elim h hs fun _ => ⟨hs.lanes, fun hm => absurd hm (by simp)⟩
  case warmStart =>
    have hsealed : ∀ u : State, PulseInv u → PulseInv u.sealed := fun u => hI.kept u.touches_sealed (by simp)
    exact warmKept_pulse.exec h hs (fun _ _ => hs.warmBlocks) (fun u _ => hsealed u)
      fun cause u _ hu => hsealed _ (hI.kept (u.touches_halt cause) (by simp) hu)
  case coldStart found cut =>
    change execColdStart found cut s = _ at h
    refine event_elim h hs fun _ => ?_
    cases cut with
    | none => exact ⟨PulseInv.reset.lanes, PulseInv.reset.bound⟩
    | some cause => exact hs.coldCut cause
  case peyeTransition i blocked after =>
    change execPeyeTransition i blocked after s = _ at h
    exact hI.retainedEvent (by simp) hs h fun _ => (hs.laneElapse i after).peye i blocked
  case stall i =>
    change execStall i s = _ at h
    unfold execStall at h
    split at h
    · rename_i due hdue
      exact hI.retainedEvent (by simp) hs h fun _ => (hs.elapse _).stallLane (s := s.reach due) hdue
    · exact done_elim h hs
  case inputsSettled v after =>
    change execInputsSettled v after s = _ at h
    exact hI.retainedEvent (by simp) hs h fun _ =>
      hI.kept (State.touches_arbitrate _) (by simp) ((hs.elapse after).establish v)
  all_goals
    exact hI.exec hs h (by simp [Instr.source?, replyFields, timeFields, valuationFields, finishFields, payoutFields])

/-- Settles O36: each event of a lane keeps its record in range, and the in-use test keeps the class of an enabled lane from becoming
UNUSED. -/
theorem pulseInvariantKept : Obligations.PulseInvariantKept := fun _ _ hs h =>
  pulseInv_reads.step (by simp [timeFields]) (fun c s => exec_keeps_pulse c s) hs h

end Sys2Proof.Machine
end

section
/-! SUPPORT. What the dispenser's events are made of, said once (R148 to R159): the dispenser's record, the state and payout progress
of a ticket, a settlement, five office notices, the head of the queue and the passing of time. What these keep, every event of the
dispenser keeps. -/

namespace Sys2Proof.Machine

/-- The notices of the dispenser's events (Table 10-4). -/
def payoutNotices : List Notice := [.payFault, .channelFault, .stockLow, .stockMismatch, .dispenserStray]

/-- What the parts of the dispenser's events keep. -/
structure PayoutKept (P : State → Prop) : Prop where
  disp : ∀ (d : Dispenser) (s : State), P s → P (s.setDisp d)
  ticket : ∀ (u : Ticket) (st : TicketState) (p : Option Progress) (s : State), s.ticket? u.number = some u → P s →
    P (s.putTicket { u with state := st, progress := p })
  settle : ∀ (u : Ticket) (s : State), s.ticket? u.number = some u → P s → P (s.settle u)
  tell : ∀ n ∈ payoutNotices, ∀ s : State, P s → P (s.tellOffice n)
  time : ∀ (ms : Nat) (s : State), P s → P (s.elapse ms)
  check : ∀ s : State, P s → P s.sealed
  queue : ∀ (j : PayoutJob) (rest : List PayoutJob) (s : State), s.queue = j :: rest → P s → P { s with queue := rest }

namespace PayoutKept

variable {P : State → Prop} {s t : State} (h : PayoutKept P)

include h

theorem reach (time : Nat) (hs : P s) : P (s.reach time) := h.time _ _ hs

/-- A ticket that a number names is named by its own. -/
theorem named {n : Nat} {u : Ticket} (hu : s.ticket? n = some u) (st : TicketState) (p : Option Progress) (hs : P s) :
    P (s.putTicket { u with state := st, progress := p }) :=
  h.ticket u st p s (by rw [State.ticket?_number hu]; exact hu) hs

theorem decrement (c : Channel) (hs : P s) : P (s.decrement c) := by
  unfold State.decrement
  dsimp only
  split
  · exact h.tell _ (by decide) _ hs
  · split
    · exact h.tell _ (by decide) _ (h.disp _ _ hs)
    · exact h.disp _ _ hs

theorem strayUnit (c : Channel) (hs : P s) : P (s.strayUnit c) :=
  h.tell _ (by decide) _ (h.disp _ _ (h.decrement c hs))

theorem foundEmpty (c : Channel) (hs : P s) : P (s.foundEmpty c) := by
  unfold State.foundEmpty
  dsimp only
  split
  · exact h.disp _ _ hs
  · exact h.tell _ (by decide) _ (h.disp _ _ hs)

theorem onProgress (n : Nat) (f : Progress → Progress) (hs : P s) : P (s.onProgress n f) := by
  unfold State.onProgress
  split
  · rename_i u hu
    exact h.named hu u.state (u.progress.map f) hs
  · exact hs

theorem countNote (j : JobProgress) (hs : P s) : P (s.countNote j) := h.disp _ _ (h.onProgress _ _ (h.decrement _ hs))

theorem countCoin (j : JobProgress) (hs : P s) : P (s.countCoin j) := h.disp _ _ (h.onProgress _ _ (h.decrement _ hs))

theorem jobFault (j : JobProgress) (cause : FaultCause) (hs : P s) : P (s.jobFault j cause) := by
  unfold State.jobFault
  dsimp only
  refine h.tell _ (by decide) _ (h.tell _ (by decide) _ ?_)
  split
  · exact h.named ‹_› _ _ (h.disp _ _ hs)
  · exact h.disp _ _ hs

theorem jobComplete (j : JobProgress) (hs : P s) : P (s.jobComplete j) := by
  unfold State.jobComplete
  dsimp only
  split
  · rename_i u hu
    exact h.settle u _ (by rw [State.ticket?_number hu]; exact hu) (h.disp _ _ hs)
  · exact h.disp _ _ hs

theorem startCoins (j : JobProgress) (hs : P s) : P (s.startCoins j) := by
  unfold State.startCoins
  split
  · exact h.jobFault _ _ (h.foundEmpty _ hs)
  · exact h.disp _ _ hs

theorem endNotes (j : JobProgress) (hs : P s) : P (s.endNotes j) := by
  unfold State.endNotes
  dsimp only
  split
  · exact h.startCoins _ (h.disp _ _ hs)
  · exact h.jobComplete _ (h.disp _ _ hs)

theorem startVend (j : JobProgress) (hs : P s) : P (s.startVend j) := by
  unfold State.startVend
  split
  · exact h.jobFault _ _ (h.foundEmpty _ hs)
  · split
    · exact h.disp _ _ hs
    · exact h.disp _ _ hs

theorem afterVend (j : JobProgress) (hs : P s) : P (s.afterVend j) := by
  unfold State.afterVend
  split
  · exact h.startVend j hs
  · exact h.endNotes j hs

theorem vendEnds (e : Empties) (j : JobProgress) (hs : P s) : P (s.vendEnds e j) := by
  unfold State.vendEnds
  split
  · dsimp only
    split
    · exact h.afterVend j (h.disp _ _ (h.disp _ _ (h.reach _ hs)))
    · exact h.disp _ _ (h.reach _ hs)
  · exact hs

theorem noteJams (j : JobProgress) (m : Nat) (hs : P s) : P (s.noteJams j m) := h.jobFault _ _ (h.disp _ _ (h.reach _ hs))

theorem coinGapEnds (j : JobProgress) (hs : P s) : P (s.coinGapEnds j) := h.disp _ _ (h.reach _ hs)

theorem endCoinFault (cause : FaultCause) (hs : P s) : P (s.endCoinFault cause) := by
  unfold State.endCoinFault
  split
  · exact h.foundEmpty _ hs
  · exact h.disp _ _ hs

theorem runOnEnds (j : JobProgress) (hs : P s) : P (s.runOnEnds j) := by
  unfold State.runOnEnds
  dsimp only
  split
  · exact h.jobComplete _ (h.reach _ hs)
  · exact h.jobFault _ _ (h.endCoinFault _ (h.reach _ hs))

theorem timerEnds (k : DispenserTimer) (m : Nat) (j : JobProgress) (hs : P s) : P (s.timerEnds k m j) := by
  cases k
  · exact h.vendEnds _ j hs
  · exact h.noteJams j m hs
  · exact h.coinGapEnds j hs
  · exact h.runOnEnds j hs

theorem dispenserTimers (fuel time : Nat) (hs : P s) : P (State.dispenserTimers fuel time s) := by
  induction fuel generalizing s with
  | zero => exact hs
  | succ fuel ih =>
    unfold State.dispenserTimers
    split
    · exact hs
    · split
      · exact hs
      · split
        · exact ih (h.check _ (h.timerEnds _ _ _ hs))
        · exact hs

theorem dispenserElapse (after : Nat) (hs : P s) : P (s.dispenserElapse after) := h.reach _ (h.dispenserTimers _ _ hs)

theorem countExit (start since : Nat) (j : JobProgress) (hs : P s) : P (s.countExit start since j) := by
  unfold State.countExit
  dsimp only
  split
  · exact h.countNote _ (h.countNote _ hs)
  · exact h.countNote _ hs

theorem loosePulse (found : Bool) (hs : P s) : P (s.loosePulse found) := by
  unfold State.loosePulse
  split
  · exact hs
  · exact h.strayUnit _ hs

theorem takeJob {j : PayoutJob} {rest : List PayoutJob} (hq : s.queue = j :: rest) (hs : P s) : P (State.takeJob j rest s) := by
  have hput : P (match State.ticket? j.ticket { s with queue := rest } with
      | some t => State.putTicket t.startPaying { s with queue := rest }
      | none => { s with queue := rest }) := by
    split
    · exact h.named ‹_› _ _ (h.queue j rest s hq hs)
    · exact h.queue j rest s hq hs
  unfold State.takeJob
  dsimp only
  split
  · exact h.startVend _ (h.disp _ _ hput)
  · exact h.startCoins _ (h.disp _ _ hput)

/-! ### The commands: where one is not taken, nothing changes -/

omit h in
theorem settled_on (hs : s.settled = true) : s.on = true := by
  unfold State.settled at hs
  unfold State.on
  split at hs <;> simp_all

/-- A retained event of a running part. -/
theorem event {c : Bool} {f : State → State} (hx : retainedEvent c f s = .next t) (hon : c = true → s.on = true)
    (hs : s.on = true → P s) (hf : P s → P (f s)) : t = s ∨ P t :=
  retainedEvent_elim (P := fun u => u = s ∨ P u) hx (.inl rfl) fun hc => .inr (h.check _ (hf (hs (hon hc))))

/-- The same for an event of the inputs. -/
theorem inputEvent {c : Bool} {f : State → State} (hx : retainedEvent (s.settled && c) f s = .next t)
    (hs : s.on = true → P s) (hf : P s → P (f s)) : t = s ∨ P t :=
  h.event hx (fun hc => settled_on (Bool.and_eq_true_iff.1 hc).1) hs hf

theorem jobTake {e : Empties} (hx : execJobTake e s = .next t) (hs : s.on = true → P s) : t = s ∨ P t := by
  unfold execJobTake at hx
  split at hx
  · exact .inl (by cases hx; rfl)
  · rename_i j rest hq
    rw [Bool.and_assoc] at hx
    exact h.inputEvent hx hs fun hs => h.takeJob (s := s.sampleEmpties e) hq (h.disp _ _ hs)

theorem noteVendEnd {e : Empties} (hx : execNoteVendEnd e s = .next t) (hs : s.on = true → P s) : t = s ∨ P t := by
  unfold execNoteVendEnd at hx
  split at hx
  · exact h.event hx (fun hc => (Bool.and_eq_true_iff.1 hc).1) hs (h.vendEnds e _)
  · exact .inl (by cases hx; rfl)

theorem noteJamTimeout (hx : execNoteJamTimeout s = .next t) (hs : s.on = true → P s) : t = s ∨ P t := by
  unfold execNoteJamTimeout at hx
  split at hx
  · split at hx
    · exact h.event hx id hs (h.noteJams _ _)
    · exact .inl (by cases hx; rfl)
  · exact .inl (by cases hx; rfl)

theorem coinGapTimeout (hx : execCoinGapTimeout s = .next t) (hs : s.on = true → P s) : t = s ∨ P t := by
  unfold execCoinGapTimeout at hx
  split at hx
  · exact h.event hx id hs (h.coinGapEnds _)
  · exact .inl (by cases hx; rfl)

theorem runOnEnd (hx : execRunOnEnd s = .next t) (hs : s.on = true → P s) : t = s ∨ P t := by
  unfold execRunOnEnd at hx
  split at hx
  · exact h.event hx (fun hc => (Bool.and_eq_true_iff.1 hc).1) hs (h.runOnEnds _)
  · exact .inl (by cases hx; rfl)

theorem noteExitStart {after : Nat} (hx : execNoteExitStart after s = .next t) (hs : s.on = true → P s) : t = s ∨ P t := by
  refine h.inputEvent hx hs fun hs => ?_
  have hin : ∀ d, P ((s.dispenserElapse after).setDisp d) := fun d => h.disp _ _ (h.dispenserElapse after hs)
  dsimp only
  split
  · split
    · exact h.disp _ _ (hin _)
    · exact hin _
  · exact hin _

theorem noteExitEnd {e : Empties} {after : Nat} (hx : execNoteExitEnd e after s = .next t) (hs : s.on = true → P s) :
    t = s ∨ P t := by
  refine h.inputEvent hx hs fun hs => ?_
  have hin : ∀ d, P ((s.dispenserElapse after).setDisp d) := fun d => h.disp _ _ (h.dispenserElapse after hs)
  dsimp only
  split
  · split
    · split
      · split
        · exact h.countExit _ _ _ (hin _)
        · exact h.afterVend _ (h.disp _ _ (h.countExit _ _ _ (hin _)))
      · exact h.countExit _ _ _ (hin _)
    · exact h.disp _ _ (h.loosePulse _ (hin _))
    · exact h.loosePulse _ (hin _)
  · exact h.loosePulse _ (hin _)

theorem coinExitStart {after : Nat} (hx : execCoinExitStart after s = .next t) (hs : s.on = true → P s) : t = s ∨ P t := by
  refine h.inputEvent hx hs fun hs => ?_
  have hin : ∀ d, P ((s.dispenserElapse after).setDisp d) := fun d => h.disp _ _ (h.dispenserElapse after hs)
  dsimp only
  split
  · split
    · exact h.strayUnit _ (hin _)
    · split
      · exact h.disp _ _ (h.countCoin _ (hin _))
      · exact h.countCoin _ (hin _)
    · exact h.countCoin _ (hin _)
  · exact h.strayUnit _ (hin _)

theorem coinEmptyAsserted {after : Nat} (hx : execCoinEmptyAsserted after s = .next t) (hs : s.on = true → P s) :
    t = s ∨ P t := by
  refine h.inputEvent hx hs fun hs => ?_
  have hin : ∀ d, P ((s.dispenserElapse after).setDisp d) := fun d => h.disp _ _ (h.dispenserElapse after hs)
  dsimp only
  split
  · exact h.disp _ _ (hin _)
  · exact hin _

end PayoutKept

/-- The commands of the dispenser's own events. -/
inductive PayoutEvent : Instr → Prop
  | jobTake (e) : PayoutEvent (.jobTake e)
  | noteVendEnd (e) : PayoutEvent (.noteVendEnd e)
  | noteExitStart (a) : PayoutEvent (.noteExitStart a)
  | noteExitEnd (e a) : PayoutEvent (.noteExitEnd e a)
  | noteJamTimeout : PayoutEvent .noteJamTimeout
  | coinExitStart (a) : PayoutEvent (.coinExitStart a)
  | coinGapTimeout : PayoutEvent .coinGapTimeout
  | coinEmptyAsserted (a) : PayoutEvent (.coinEmptyAsserted a)
  | runOnEnd : PayoutEvent .runOnEnd

/-- What the parts of the dispenser's events keep, each of its events keeps in a running part, and in a stopped one it changes
nothing. -/
theorem PayoutKept.exec {P : State → Prop} {s t : State} (h : PayoutKept P) {c : Instr} (hc : PayoutEvent c)
    (hx : exec c s = .next t) (hs : s.on = true → P s) : t = s ∨ P t := by
  cases hc with
  | jobTake => exact h.jobTake hx hs
  | noteVendEnd => exact h.noteVendEnd hx hs
  | noteExitStart => exact h.noteExitStart hx hs
  | noteExitEnd => exact h.noteExitEnd hx hs
  | noteJamTimeout => exact h.noteJamTimeout hx hs
  | coinExitStart => exact h.coinExitStart hx hs
  | coinGapTimeout => exact h.coinGapTimeout hx hs
  | coinEmptyAsserted => exact h.coinEmptyAsserted hx hs
  | runOnEnd => exact h.runOnEnd hx hs

/-- The same for a predicate that needs no running part. -/
theorem PayoutKept.exec' {P : State → Prop} {s t : State} (h : PayoutKept P) {c : Instr} (hc : PayoutEvent c) (hs : P s)
    (hx : Sys2Proof.Machine.exec c s = .next t) : P t := by
  rcases h.exec hc hx (fun _ => hs) with rfl | ht
  · exact hs
  · exact ht

end Sys2Proof.Machine
end

section
/-! SUPPORT. The invariant of the ports (R178 to R183): what a notice placed, an event of reception, a request taken and a start leave of
a port's record. -/

namespace Sys2Proof.Machine

/-! ### One port -/

/-- A notice placed in a running part drives the line of a set that is not empty (R182, R183). -/
theorem PortInv.place {p : Port} {q : PortRecord} (h : PortInv p true q) {n : Notice} (hn : n.namedFor p) :
    PortInv p true (q.place n) :=
  { h with
    once := addNotice_nodup _ _
    named := fun m hm => by
      rcases mem_addNotice.1 hm with rfl | hm
      · exact hn
      · exact h.named m hm
    attention := by simp [PortRecord.place, addNotice_ne_nil] }

theorem PortInv.readAll {p : Port} {q : PortRecord} {on : Bool} (h : PortInv p on q) : PortInv p on q.readAll :=
  { h with once := List.nodup_nil, named := fun m hm => by simp [PortRecord.readAll] at hm, attention := by simp [PortRecord.readAll] }

theorem PortInv.answering {p : Port} {q : PortRecord} {on : Bool} (h : PortInv p on q) (i : Instr) (r : Reply) :
    PortInv p on (q.answering i r) :=
  { h with
    holds := by simp [PortRecord.answering]
    buffer := rfl
    overrun := fun ho => absurd ho (by simp [PortRecord.answering]) }

/-- A port that is not HELD holds no reply, and marks no overrun. -/
theorem PortInv.idle {p : Port} {q : PortRecord} {on : Bool} (h : PortInv p on q) (hr : q.receiver ≠ .held) :
    q.reply = none ∧ q.buffer = none ∧ q.overrunMarked = false := by
  have hn : q.reply = none := Option.not_isSome_iff_eq_none.1 (mt h.holds.2 hr)
  refine ⟨hn, ?_, Bool.eq_false_iff.2 (mt h.overrun hr)⟩
  have := h.buffer
  rw [hn] at this
  simpa using this

/-- An event of reception that leaves the port other than HELD, with no more than one line error more (R178, R179). -/
theorem PortInv.hears {p : Port} {q : PortRecord} {on : Bool} (h : PortInv p on q) (hq : q.receiver ≠ .held) {r : Receiver}
    (hr : r ≠ .held) {n : Nat} (hn : n ≤ 65535) {b : Option Instr} (hb : b = none) :
    PortInv p on { q with receiver := r, lineErrors := n, buffer := b } := by
  obtain ⟨hreply, _, hover⟩ := h.idle hq
  exact { h with
    holds := ⟨fun e => absurd e hr, fun e => by simp [hreply] at e⟩
    buffer := by simp [hreply, hb]
    overrun := fun e => by simp [hover] at e
    errors := ⟨hn, h.errors.2⟩ }

theorem PortInv.marked {p : Port} {q : PortRecord} {on : Bool} (h : PortInv p on q) (hq : q.receiver = .held) (n : Nat) :
    PortInv p on { q with overrunMarked := true, overruns := satAdd 65535 n 1 } :=
  { h with overrun := fun _ => hq, errors := ⟨h.errors.1, satAdd_le _ _ _⟩ }

theorem PortInv.replyEnded {p : Port} {q : PortRecord} {on : Bool} (h : PortInv p on q) {r : Receiver} (hr : r ≠ .held) :
    PortInv p on { q with receiver := r, overrunMarked := false, buffer := none, reply := none } :=
  { h with
    holds := ⟨fun e => absurd e hr, fun e => by simp at e⟩
    buffer := rfl
    overrun := fun e => by simp at e }

/-- A stop releases the attention line (R192). -/
theorem PortInv.released {p : Port} {q : PortRecord} {on : Bool} (h : PortInv p on q) : PortInv p false q.released :=
  { h with attention := rfl }

theorem PortInv.started {p : Port} {n : Notice} (hn : n.namedFor p) : PortInv p true (PortRecord.started n) where
  once := List.nodup_singleton n
  named := fun m hm => by
    rw [List.mem_singleton.1 hm]
    exact hn
  attention := rfl
  holds := by simp [PortRecord.started]
  buffer := rfl
  overrun := fun h => by simp [PortRecord.started] at h
  errors := ⟨Nat.zero_le _, Nat.zero_le _⟩

/-! ### Both ports -/

theorem portsInv_iff {s : State} : PortsInv s ↔ ∀ p, PortInv p s.on (s.port p) :=
  ⟨fun h p => by cases p; exacts [h.1, h.2], fun h => ⟨h .office, h .accounts⟩⟩

theorem State.on_of_power {s t : State} (h : t.power = s.power) : t.on = s.on := by simp [State.on, h]

theorem portsInv_reads : Reads PortsInv [.power, .office, .acctPort] := by
  intro s t h hs
  have hp : t.power = s.power := h .power (by simp)
  have ho : t.office = s.office := h .office (by simp)
  have ha : t.acctPort = s.acctPort := h .acctPort (by simp)
  unfold PortsInv
  rw [State.on_of_power hp, ho, ha]
  exact hs

theorem State.port_setPort (p q : Port) (r : PortRecord) (s : State) : (s.setPort p r).port q = if q = p then r else s.port q := by
  cases p <;> cases q <;> rfl

theorem PortsInv.setPort {s : State} (h : PortsInv s) (p : Port) {r : PortRecord} (hr : PortInv p s.on r) :
    PortsInv (s.setPort p r) := by
  refine portsInv_iff.2 fun q => ?_
  rw [State.setPort_on, State.port_setPort]
  split
  · rename_i e
    exact e ▸ hr
  · exact portsInv_iff.1 h q

/-- The ports of a running part. -/
def PortsOn (s : State) : Prop := s.on = true ∧ PortsInv s

theorem portsOn_reads : Reads PortsOn [.power, .office, .acctPort] := fun _ _ h hs =>
  ⟨(State.on_of_power (h .power (by simp))).trans hs.1, portsInv_reads _ _ h hs.2⟩

theorem PortsOn.tellOffice {s : State} (h : PortsOn s) {n : Notice} (hn : n.namedFor .office) : PortsOn (s.tellOffice n) :=
  ⟨h.1, by have := h.2.1; rw [h.1] at this; show PortInv _ s.on _; rw [h.1]; exact this.place hn, h.2.2⟩

theorem PortsOn.tellAccounts {s : State} (h : PortsOn s) {n : Notice} (hn : n.namedFor .accounts) : PortsOn (s.tellAccounts n) :=
  ⟨h.1, h.2.1, by have := h.2.2; rw [h.1] at this; show PortInv _ s.on _; rw [h.1]; exact this.place hn⟩

/-- A change of fields that the ports do not read. -/
theorem PortsOn.kept {s t : State} (h : PortsOn s) {fs : List Field} (ht : s.Touches fs t)
    (hd : ∀ f ∈ [Field.power, .office, .acctPort], f ∉ fs) : PortsOn t := portsOn_reads.kept ht hd h

theorem PortsOn.valueTicket {s : State} (h : PortsOn s) (forced : Bool) (t : Ticket) : PortsOn (s.valueTicket forced t) := by
  have hset : ∀ a, PortsOn ((State.leaveClosing t.number (s.putTicket (s.valuedTicket forced t))).setAccount t.account a) :=
    fun a => h
  unfold State.valueTicket
  dsimp only
  split
  · exact (hset _).tellOffice (by decide)
  · exact hset _

theorem PortsOn.detachLane {s : State} (h : PortsOn s) (lane : Nat) (t : Ticket) : PortsOn (s.detachLane lane t) :=
  State.detachLane_elim (fun _ => h.valueTicket _ _) h

theorem PortsOn.restoreTicket {s : State} (h : PortsOn s) (t : Ticket) : PortsOn (s.restoreTicket t) :=
  h.kept (s.touches_restoreTicket t) (by simp)

theorem PortsOn.enterLog {s : State} (h : PortsOn s) (r : LogRecord) : PortsOn (s.enterLog r) := by
  have hready : PortsOn (State.tellAccounts .logReady { s with log := s.log ++ [r] }) :=
    PortsOn.tellAccounts (s := { s with log := s.log ++ [r] }) h (by decide)
  unfold State.enterLog
  dsimp only
  split
  · exact (hready.tellOffice (by decide)).tellAccounts (by decide)
  · exact hready

theorem PortsOn.finish {s : State} (h : PortsOn s) (t : Ticket) (r : LogRecord) : PortsOn (s.finish t r) := by
  unfold State.finish
  split
  · exact PortsOn.enterLog (s := State.dropTicket t.number (s.dropTags t.number)) h r
  · exact h

theorem PortsOn.settle {s : State} (h : PortsOn s) (t : Ticket) : PortsOn (s.settle t) := h.finish _ _

theorem PortsOn.authorised {s : State} (h : PortsOn s) (t : Ticket) (a : Authorisation) : PortsOn (s.authorised t a) := by
  have hpaid : PortsOn (if t.account.val = 0 then s.addResidue a.residue
      else s.setAccount t.account (s.accounts[t.account].post (t.total - a.cash))) := by
    split
    · unfold State.addResidue
      split
      · exact h
      · split
        · exact h
        · exact PortsOn.tellAccounts (s := { s with residue := Config.moneyMax }) h (by decide)
    · exact h
  unfold State.authorised
  dsimp only
  split
  · exact hpaid.settle _
  · exact hpaid

theorem PortsOn.acceptArrival {s : State} (h : PortsOn s) (lane : StationLane) (c : ClassId) (o : Origin) (k : Condition)
    (n carried : Nat) (tag : Option Nat) (t : Ticket) : PortsOn (s.acceptArrival lane c o k n carried tag t) := by
  have hrecord : ∀ g t, PortsOn (s.recordTag g lane t).2 := fun g t => by
    unfold State.recordTag
    split
    · exact h
    · exact h.tellOffice (by decide)
  have hwatch : ∀ {u : State} (g t), PortsOn u → PortsOn (u.watchTag g t).2 := fun g t hu => by
    unfold State.watchTag
    split
    · exact hu.tellOffice (by decide)
    · exact hu
  unfold State.acceptArrival
  dsimp only
  refine PortsOn.kept (s := Prod.snd _) ?_ (State.touches_putTicket _ _) (by simp)
  split
  · exact hwatch _ _ (hrecord _ _)
  · exact h

theorem PortsOn.applyDue {s : State} (h : PortsOn s) : PortsOn s.applyDue :=
  State.applyDue_kept (fun e rest s _ hs => State.applyChange_elim
    (PortsOn.tellOffice (s := { s with changes := rest }) hs (by decide)) fun _ => hs) h

theorem PortsOn.stallLane {s : State} (h : PortsOn s) (i : PulseIx) : PortsOn (s.stallLane i) :=
  PortsOn.tellOffice (s := s.setPulse i _) h (by decide)

theorem PortsOn.peye {s : State} (h : PortsOn s) (i : PulseIx) (blocked : Bool) : PortsOn (s.peye i blocked) := by
  have hstray : ∀ u : State, PortsOn u → PortsOn (u.stray i) := fun u hu =>
    PortsOn.tellOffice (s := u.setPulse i _) hu (by decide)
  have harrival : ∀ u : State, PortsOn u → PortsOn (u.pulseArrival i) := fun u hu => by
    unfold State.pulseArrival
    dsimp only
    split
    · exact hstray u hu
    · split
      · exact hstray u hu
      · exact hu
  have hedge : ∀ u : State, PortsOn u → PortsOn (u.countingEdge i) := fun u hu => by
    unfold State.countingEdge
    dsimp only
    split
    · exact harrival _ hu
    · exact hu
  unfold State.peye
  dsimp only
  split
  · exact h
  · split
    · exact hedge _ h
    · exact h

theorem portsOn_payout : PayoutKept PortsOn where
  disp := fun _ _ h => h
  ticket := fun _ _ _ _ _ h => h
  settle := fun u _ _ h => h.settle u
  tell := fun n hn s h => h.tellOffice (by revert n; decide)
  time := fun _ _ h => h
  check := fun _ h => h
  queue := fun _ _ _ _ h => h

theorem warmKept_ports : WarmKept PortsOn where
  loss := fun s _ h => State.lossPhase_elim h
    (PortsOn.tellOffice (s := { s with clock := { s.clock with suspect := true }, lossMark := false }) h (by decide))
  change := fun e rest s _ _ h => State.applyChange_elim
    (PortsOn.tellOffice (s := { s with changes := rest }) h (by decide)) fun _ => h
  close := fun _ _ _ _ _ _ h => h.valueTicket _ _
  leave := fun _ _ _ _ h => h
  fault := fun s _ h => State.restartFault_elim (fun _ => h) fun t _ _ =>
    PortsOn.tellOffice (s := s.putTicket t.restartFaulted) h (by decide)

/-- A stop leaves both attention lines released (R192). -/
theorem PortsInv.halt {s : State} (h : PortsInv s) (cause : StopCause) : PortsInv (s.halt cause) := by
  have hoff : (s.halt cause).on = false := by cases cause <;> rfl
  unfold PortsInv
  rw [hoff]
  exact ⟨h.1.released, h.2.released⟩

theorem PortsInv.started {s : State} (hon : s.on = true) {n : Notice} (ho : n.namedFor .office) (ha : n.namedFor .accounts)
    (h : s.office = PortRecord.started n ∧ s.acctPort = PortRecord.started n) : PortsInv s := by
  unfold PortsInv
  rw [hon, h.1, h.2]
  exact ⟨PortInv.started ho, PortInv.started ha⟩

/-! ### Every command -/

theorem PortsInv.replyOn {a : Answer} (h : PortsInv a.state) (p : Port) (i : Instr) (name : List Byte) :
    PortsInv (State.replyOn p i name a) := by
  have := h.setPort p ((portsInv_iff.1 h p).answering i { name := name, result := a.result, body := a.body })
  exact portsInv_reads.kept (State.touches_sealed _) (by simp) this

theorem PortsInv.replyInGrant {a : Answer} (h : PortsInv a.state) (l : StationLane) (name : List Byte) :
    PortsInv (State.replyInGrant l name a) := h

/-- A request whose block keeps the ports of a running part. -/
theorem request_keeps_ports {src : Source} {i : Instr} {n : ReqName} {block : State → Answer} {s t : State} (hs : PortsInv s)
    (h : request src i n block s = .next t) (hb : PortsOn s → PortsOn (block s).state) : PortsInv t := by
  have hstate : ∀ a, s.on = true → (a = block s ∨ ∃ r, a = refuse r s) → PortsInv a.state := by
    rintro a hon (rfl | ⟨r, rfl⟩)
    · exact (hb ⟨hon, hs⟩).2
    · exact hs
  exact request_elim h hs (fun p a hr ha => (hstate a hr.1 ha).replyOn p _ _)
    fun l a hr ha => (hstate a hr.1 ha).replyInGrant l _

/-- A request whose effect leaves the ports alone. -/
theorem exec_request_keeps_ports {c : Instr} {src : Source} (hc : c.source? = some src) {s t : State} (hs : PortsInv s)
    (h : exec c s = .next t) (hd : ∀ f ∈ [Field.power, .office, .acctPort], f ∉ effectFields c) : PortsInv t :=
  exec_request_elim hc h hs (fun p n _ _ ha => (portsInv_reads.kept ha hd hs).replyOn p c n)
    fun l n _ _ ha => (portsInv_reads.kept ha hd hs).replyInGrant l n

theorem PortsOn.readNotices {s : State} (h : PortsOn s) (p : Port) : PortsOn (readNotices p s).state :=
  ⟨(State.setPort_on _ _ _).trans h.1, h.2.setPort p (portsInv_iff.1 h.2 p).readAll⟩

/-- An event of reception leaves one port's record changed, and the other as it was. -/
theorem portEvent_keeps_ports {c : Bool} {p : Port} {after : Nat} {r : State → PortRecord} {s t : State} (hs : PortsInv s)
    (h : event c (fun s => (s.elapse after).setPort p (r s)) s = .next t)
    (hr : c = true → PortInv p s.on (s.port p) → PortInv p s.on (r s)) : PortsInv t :=
  event_elim h hs fun hc => PortsInv.setPort (s := s.elapse after) hs p (hr hc (portsInv_iff.1 hs p))

theorem exec_keeps_ports (c : Instr) (s : State) {t : State} (hs : PortsInv s) (h : exec c s = .next t) : PortsInv t := by
  have hI := portsInv_reads
  have hreq : ∀ {src i n block}, request src i n block s = .next t → (PortsOn s → PortsOn (block s).state) → PortsInv t :=
    fun h => request_keeps_ports hs h
  have hpayout : PayoutEvent c → PortsInv t := fun hc => by
    rcases portsOn_payout.exec hc h (fun hon => ⟨hon, hs⟩) with rfl | ht
    · exact hs
    · exact ht.2
  have hret : ∀ {b f}, retainedEvent b f s = .next t → (b = true → s.on = true) → (PortsOn s → PortsOn (f s)) → PortsInv t :=
    fun h hon hf => retainedEvent_elim h hs fun hb => (hf ⟨hon hb, hs⟩).2
  cases c
  case detachLane => exact hreq h fun h => detachLane_elim h fun t _ _ => h.detachLane _ t
  case closeTicket => exact hreq h fun h => closeTicket_elim h (fun _ _ _ => h) fun t _ _ => h.valueTicket _ _
  case void =>
    exact hreq h fun h => voidTicket_elim h fun t _ _ => PortsOn.finish (s := State.leaveClosing _ _) (h.restoreTicket t) _ _
  case authorise => exact hreq h fun h => authorise_elim h fun _ t _ _ _ _ _ _ _ => h.authorised t _
  case resolveRetry => exact hreq h fun h => resolveRetry_elim h (fun t _ _ _ => h.settle t) fun _ _ _ _ _ => h
  case resolveConvert =>
    exact hreq h fun h => resolveConvert_elim h fun t _ _ _ _ => PortsOn.settle (s := s.setAccount _ _) h _
  case resolveManual => exact hreq h fun h => resolveManual_elim h fun t _ _ => h.settle _
  case takeLog =>
    exact hreq h fun h => takeLog_elim h fun r rest _ => State.admitWaiting_elim (fun _ => h) (fun _ _ _ _ => h)
      fun n rest' t r _ _ _ => PortsOn.enterLog (s := State.dropTicket n { s with log := rest, waiting := rest' }) h r
  case setLanePulse =>
    exact hreq h fun h => setLanePulse_elim h fun f _ _ _ => by
      split
      · exact PortsOn.tellOffice (s := s.setPulse _ _) h (by decide)
      · exact h
  case setTime =>
    exact hreq h fun h => setTime_elim h (fun _ _ => h) fun _ _ => PortsOn.applyDue (s := s.timeSet _ _) h
  case readNotices src =>
    refine hreq h fun hon => ?_
    rcases src with ⟨_ | _ | _, fits⟩
    · exact hon.readNotices .office
    · exact hon.readNotices .accounts
    · exact hon.readNotices .office
  case arrive =>
    exact hreq h fun h => onGrantedLane_elim h fun l => arrive_elim h
      (fun t e _ => State.refuseDuplicate_elim h (PortsOn.tellOffice (s := s.putTicket _) h (by decide)))
      fun t c o k _ _ _ _ _ => h.acceptArrival _ _ _ _ _ _ _ t
  case laneDone => exact hreq h fun h => onGrantedLane_elim h fun l => laneDone_elim h fun t _ => h.detachLane _ t
  case unknownRequest =>
    exact execUnknownRequest_elim h hs (fun p i _ => hs.replyOn (a := refuse _ s) p i _)
      fun l _ => hs.replyInGrant (a := refuse _ s) l _
  case closeWaitExpiry n =>
    change execCloseWaitExpiry n s = _ at h
    unfold execCloseWaitExpiry at h
    split at h
    · exact hret h (fun hc => (Bool.and_eq_true_iff.1 hc).1) fun h => PortsOn.valueTicket (s := s.reach _) h _ _
    · exact done_elim h hs
  case clockAdvance =>
    change execClockAdvance s = _ at h
    unfold execClockAdvance at h
    split at h
    · rename_i hon
      exact hret h (fun _ => hon) fun h => PortsOn.applyDue
        (h.kept (s.touches_fullSecond.trans ((State.touches_tickClock _).mono (by simp))) (by simp [timeFields]))
    · exact event_elim h hs fun _ => hs
  case crystalLoss cycles after =>
    change execCrystalLoss cycles after s = _ at h
    exact event_elim h hs fun hc => (PortsOn.tellOffice
      (s := { s.elapse after with clock := { s.clock.counted cycles (s.elapse after).now with source := .reference, suspect := true } })
      ⟨(Bool.and_eq_true_iff.1 hc).1, hs⟩ (by decide)).2
  case backupCrystalStop cycles =>
    change execBackupCrystalStop cycles s = _ at h
    refine event_elim h hs fun hc => ?_
    have hoff : s.on = false := by simp [State.on, beq_iff_eq.1 hc]
    unfold PortsInv at hs
    rw [hoff] at hs
    exact hs
  case powerStop cause =>
    change execPowerStop cause s = _ at h
    unfold execPowerStop at h
    split at h
    · cases h
      exact hs.halt cause
    · rename_i hoff
      refine event_elim h hs fun _ => ?_
      unfold PortsInv at hs
      rw [Bool.eq_false_iff.2 hoff] at hs
      exact hs
  case warmStart =>
    exact warmKept_ports.exec h hs (fun _ _ => ⟨rfl, PortsInv.started rfl (n := .warmStart) (by decide) (by decide) ⟨rfl, rfl⟩⟩)
      (fun _ _ hu => hu.2) fun cause _ _ hu => hu.2.halt cause
  case coldStart found cut =>
    change execColdStart found cut s = _ at h
    refine event_elim h hs fun _ => ?_
    cases cut with
    | none => exact PortsInv.started rfl (n := .coldStart) (by decide) (by decide) ⟨rfl, rfl⟩
    | some cause =>
      exact PortsInv.halt (portsInv_reads _ _ (fun f hf => by
        simp only [List.mem_cons, List.not_mem_nil, or_false] at hf
        rcases hf with rfl | rfl | rfl <;> rfl) hs) cause
  case portLineError p kind after =>
    change execPortLineError p kind after s = _ at h
    refine portEvent_keeps_ports hs h fun hc hp => ?_
    have hr : (s.port p).receiver = .receiving := by simpa using (Bool.and_eq_true_iff.1 hc).2
    exact hp.hears (by simp [hr]) (by simp) (satAdd_le _ _ _) (hp.idle (by simp [hr])).2.1
  case portGapTimeout p after =>
    change execPortGapTimeout p after s = _ at h
    refine portEvent_keeps_ports hs h fun hc hp => ?_
    have hr : (s.port p).receiver = .receiving := by simpa using (Bool.and_eq_true_iff.1 hc).2
    exact hp.hears (by simp [hr]) (by simp) (satAdd_le _ _ _) (hp.idle (by simp [hr])).2.1
  case portIdleRecover p after =>
    change execPortIdleRecover p after s = _ at h
    refine portEvent_keeps_ports hs h fun hc hp => ?_
    have hr : (s.port p).receiver = .recover := by simpa using (Bool.and_eq_true_iff.1 hc).2
    exact hp.hears (by simp [hr]) (by simp) hp.errors.1 (hp.idle (by simp [hr])).2.1
  case portOverrun p after =>
    change execPortOverrun p after s = _ at h
    refine portEvent_keeps_ports hs h fun hc hp => ?_
    simp only [Bool.and_eq_true, beq_iff_eq] at hc
    exact hp.marked hc.1.2 _
  case portReplyEnd p after =>
    change execPortReplyEnd p after s = _ at h
    exact portEvent_keeps_ports hs h fun _ hp => hp.replyEnded (by split <;> simp)
  case requestFrameStart p after =>
    change execRequestFrameStart p after s = _ at h
    refine portEvent_keeps_ports hs h fun hc hp => ?_
    have hr : (s.port p).receiver = .hunt := by simpa using (Bool.and_eq_true_iff.1 hc).2
    exact hp.hears (by simp [hr]) (by simp) hp.errors.1 rfl
  case grantMiss =>
    change execGrantMiss s = _ at h
    unfold execGrantMiss at h
    split at h
    · refine hret h id fun h => PortsOn.kept ?_ (State.touches_endGrant _) (by simp)
      split
      · have hmissed : ∀ time l r, PortsOn ((s.reach time).setStation l r) := fun _ _ _ => h
        exact (hmissed _ _ _).tellOffice (by decide)
      · exact h
    · exact done_elim h hs
  case peyeTransition i blocked after =>
    change execPeyeTransition i blocked after s = _ at h
    refine hret h (fun hc => PayoutKept.settled_on (Bool.and_eq_true_iff.1 hc).1) fun h => PortsOn.peye ?_ i blocked
    unfold State.laneElapse
    dsimp only
    split
    · split
      · exact PortsOn.stallLane (s := s.elapse after) h i
      · exact h
    · exact h
  case stall i =>
    change execStall i s = _ at h
    unfold execStall at h
    split at h
    · exact hret h id fun h => PortsOn.stallLane (s := s.reach _) h i
    · exact done_elim h hs
  case inputsSettled v after =>
    change execInputsSettled v after s = _ at h
    refine hret h (fun hc => (Bool.and_eq_true_iff.1 hc).1) fun h => PortsOn.kept ?_ (State.touches_arbitrate _) (by simp)
    refine ⟨rfl, ?_⟩
    have hp := h.2
    unfold PortsInv at hp
    rw [h.1] at hp
    exact hp
  case jobTake => exact hpayout (.jobTake _)
  case noteVendEnd => exact hpayout (.noteVendEnd _)
  case noteExitStart => exact hpayout (.noteExitStart _)
  case noteExitEnd => exact hpayout (.noteExitEnd _ _)
  case noteJamTimeout => exact hpayout .noteJamTimeout
  case coinExitStart => exact hpayout (.coinExitStart _)
  case coinGapTimeout => exact hpayout .coinGapTimeout
  case coinEmptyAsserted => exact hpayout (.coinEmptyAsserted _)
  case runOnEnd => exact hpayout .runOnEnd
  all_goals first
    | exact exec_request_keeps_ports rfl hs h (by simp)
    | exact hI.exec hs h (by simp [Instr.source?, timeFields])

/-- Settles O8: a notice placed in a running part drives its line, a stop releases both, a start names its own notice, and the events
of reception hold a request and its reply in HELD alone. -/
theorem portsInvariantKept : Obligations.PortsInvariantKept := fun _ _ hs h =>
  portsInv_reads.step (by simp [timeFields]) (fun c s => exec_keeps_ports c s) hs h

end Sys2Proof.Machine
end

section
/-! SUPPORT. The invariant of the lane bus (R163, R166, R170): what time, an arbitration, the events of a grant and Set Lane leave of
it. -/

namespace Sys2Proof.Machine

/-! ### Arbitration -/

theorem State.setStation_at (l m : StationLane) (r : StationRecord) (s : State) :
    (s.setStation l r).bus.lanes[m] = if m = l then r else s.bus.lanes[m] := by
  by_cases h : m = l
  · subst h
    simp [State.setStation]
  · have : l.val ≠ m.val := fun e => h (Fin.ext e.symm)
    simp [State.setStation, h, Vector.getElem_set_ne, this]

theorem LaneBus.mark_at (w l : StationLane) (b : LaneBus) : (b.mark w).lanes[l] =
    if l = w then { b.lanes[l] with lastGranted := true }
    else if b.lanes[l].priority = b.lanes[w].priority then { b.lanes[l] with lastGranted := false }
    else b.lanes[l] := by
  simp [LaneBus.mark]

/-- The winner of an arbitration requests (R167). -/
theorem LaneBus.winner_requesting {w : StationLane} {b : LaneBus} (h : b.winner = some w) :
    b.lanes[w].requesting = true ∧ b.lanes[w].priority = b.topLevel := by
  simpa using List.find?_some h

theorem State.arbitrate_elim {P : State → Prop} {s : State} (h0 : P s)
    (h : ∀ w, s.bus.grant = none → s.bus.winner = some w →
      P { s with bus := { s.bus.mark w with
        grant := some { lane := w, phase := .window s.now s.bus.window }, lbusDe := true } }) : P s.arbitrate := by
  unfold State.arbitrate
  split
  · exact h _ ‹_› ‹_›
  · exact h0

/-! ### One lane -/

theorem StationRecord.Ok.lineMoved {r : StationRecord} (h : r.Ok) (low : Bool) (now : Nat) : (r.lineMoved low now).Ok := by
  unfold StationRecord.lineMoved
  dsimp only
  split
  · exact { h with misses := Nat.zero_le _, silent := by simp }
  · exact { h with }

theorem StationRecord.lineMoved_active {r : StationRecord} (h : r.state = .active) (low : Bool) (now : Nat) :
    (r.lineMoved low now).state = .active := by
  simp [StationRecord.lineMoved, h]

theorem StationRecord.lineMoved_mark (r : StationRecord) (low : Bool) (now : Nat) :
    (r.lineMoved low now).priority = r.priority ∧ (r.lineMoved low now).lastGranted = r.lastGranted := by
  unfold StationRecord.lineMoved
  dsimp only
  split <;> exact ⟨rfl, rfl⟩

theorem StationRecord.Ok.miss {r : StationRecord} (h : r.Ok) (ha : r.state = .active) : r.miss.Ok := by
  have hlt : r.misses ≠ 3 := fun e => by simp [h.silent.2 e] at ha
  unfold StationRecord.miss
  dsimp only
  split
  · rename_i hn
    exact { h with misses := Nat.min_le_left _ _, silent := by simp [hn] }
  · rename_i hn
    exact { h with misses := Nat.min_le_left _ _, silent := by simp [ha, hn] }

theorem StationRecord.miss_mark (r : StationRecord) : r.miss.priority = r.priority ∧ r.miss.lastGranted = r.lastGranted := by
  unfold StationRecord.miss
  dsimp only
  split <;> exact ⟨rfl, rfl⟩

theorem StationRecord.Ok.warm {r : StationRecord} (h : r.Ok) : r.warm.Ok where
  priority := h.priority
  misses := Nat.zero_le _
  silent := by simp [StationRecord.warm]
  lineErrors := Nat.zero_le _

theorem StationRecord.cold_ok : StationRecord.cold.Ok where
  priority := Nat.zero_le _
  misses := Nat.zero_le _
  silent := by decide
  lineErrors := Nat.zero_le _

/-! ### The bus -/

theorem laneBusInv_reads : Reads LaneBusInv [.bus, .power, .now] := by
  intro s t h hs
  have hb : t.bus = s.bus := h .bus (by simp)
  have hn : t.now = s.now := h .now (by simp)
  have ho : t.on = s.on := State.on_of_power (h .power (by simp))
  refine ⟨?_, ?_, ?_, ?_, ?_, ?_, ?_⟩
  · rw [hb]; exact hs.lanes
  · rw [hb]; exact hs.window
  · rw [hb]; exact hs.oneMark
  · rw [hb]; exact hs.granted
  · rw [hb, hn]; exact hs.opened
  · rw [hb, hn, ho]; exact hs.driver
  · rw [hb]; exact hs.buffer

/-- What the invariant says of the six records alone (R166, R170). -/
structure LanesOk (lanes : Vector StationRecord 6) : Prop where
  each : ∀ l : StationLane, lanes[l].Ok
  oneMark : ∀ l m : StationLane, lanes[l].lastGranted = true → lanes[m].lastGranted = true →
    lanes[l].priority = lanes[m].priority → l = m

theorem LaneBusInv.lanesOk {s : State} (h : LaneBusInv s) : LanesOk s.bus.lanes := ⟨h.lanes, h.oneMark⟩

/-- A record that keeps its level and loses at most its mark. -/
theorem LanesOk.setStation {s : State} (h : LanesOk s.bus.lanes) (l : StationLane) {r : StationRecord} (hr : r.Ok)
    (hm : r.lastGranted = true → s.bus.lanes[l].lastGranted = true ∧ r.priority = s.bus.lanes[l].priority) :
    LanesOk (s.setStation l r).bus.lanes := by
  have hmark : ∀ m : StationLane, ((s.setStation l r).bus.lanes[m]).lastGranted = true →
      s.bus.lanes[m].lastGranted = true ∧ ((s.setStation l r).bus.lanes[m]).priority = s.bus.lanes[m].priority := by
    intro m
    rw [State.setStation_at]
    split
    · rename_i e
      exact e ▸ hm
    · exact fun hg => ⟨hg, rfl⟩
  refine ⟨fun m => ?_, fun m n hgm hgn hp => ?_⟩
  · rw [State.setStation_at]
    split
    · exact hr
    · exact h.each m
  · obtain ⟨hm1, hm2⟩ := hmark m hgm
    obtain ⟨hn1, hn2⟩ := hmark n hgn
    exact h.oneMark m n hm1 hn1 (by rw [← hm2, ← hn2]; exact hp)

/-- The winner takes the mark of its level (R167). -/
theorem LanesOk.mark {b : LaneBus} (h : LanesOk b.lanes) (w : StationLane) : LanesOk (b.mark w).lanes := by
  have hprio : ∀ l : StationLane, ((b.mark w).lanes[l]).priority = b.lanes[l].priority := fun l => by
    rw [LaneBus.mark_at]
    split
    · rfl
    · split <;> rfl
  have hmark : ∀ l : StationLane, ((b.mark w).lanes[l]).lastGranted = true →
      l = w ∨ (b.lanes[l].priority ≠ b.lanes[w].priority ∧ b.lanes[l].lastGranted = true) := fun l => by
    rw [LaneBus.mark_at]
    split
    · exact fun _ => .inl ‹_›
    · split
      · exact fun hg => by simp at hg
      · exact fun hg => .inr ⟨‹_›, hg⟩
  refine ⟨fun l => ?_, fun l m hl hm hp => ?_⟩
  · rw [LaneBus.mark_at]
    split
    · exact { h.each l with }
    · split
      · exact { h.each l with }
      · exact h.each l
  · rw [hprio, hprio] at hp
    rcases hmark l hl with rfl | ⟨hne, hgl⟩ <;> rcases hmark m hm with rfl | ⟨hne', hgm⟩
    · rfl
    · exact absurd hp.symm hne'
    · exact absurd hp hne
    · exact h.oneMark l m hgl hgm hp

/-- A bus with no grant in flight, and the driver off. -/
theorem LaneBusInv.free {s : State} (hl : LanesOk s.bus.lanes) (hw : 10 ≤ s.bus.window ∧ s.bus.window ≤ 200)
    (hg : s.bus.grant = none) (hd : s.bus.lbusDe = false) (hb : s.bus.buffer = none) : LaneBusInv s where
  lanes := hl.each
  window := hw
  oneMark := hl.oneMark
  granted := fun g hg' => by rw [hg] at hg'; cases hg'
  opened := fun _ _ _ hg' => by rw [hg] at hg'; cases hg'
  driver := by simp [hg, hd]
  buffer := hb

theorem LaneBusInv.elapse {s : State} (h : LaneBusInv s) (ms : Nat) : LaneBusInv (s.elapse ms) := by
  rcases Nat.eq_zero_or_pos ms with rfl | hpos
  · rw [State.elapse_zero]
    exact h
  refine { h with opened := fun l since length hg => Nat.le_add_right_of_le (h.opened l since length hg), driver := ?_ }
  have hne : (ms == 0) = false := by simp; omega
  have hnone : ∀ l length, s.bus.grant ≠ some { lane := l, phase := .window (s.now + ms) length } := fun l length hg => by
    have := h.opened _ _ _ hg
    omega
  simp only [State.elapse_bus, LaneBus.pass_lbusDe, LaneBus.pass_grant, State.elapse_on, State.elapse_now, hne, Bool.false_or,
    Bool.and_eq_true, h.driver, hnone, exists_false, or_false]
  have hreply : s.bus.replying = true ↔ ∃ l r, s.bus.grant = some { lane := l, phase := .reply r } := by
    unfold LaneBus.replying
    split
    · rename_i l r hg
      exact ⟨fun _ => ⟨l, r, hg⟩, fun _ => rfl⟩
    · rename_i hno
      exact ⟨fun hf => by simp at hf, fun ⟨l, r, hg⟩ => absurd hg (hno l r)⟩
  rw [hreply]
  exact ⟨fun ⟨⟨hon, _⟩, hr⟩ => ⟨hon, hr⟩, fun ⟨hon, hr⟩ => ⟨⟨hon, .inl hr⟩, hr⟩⟩

theorem LaneBusInv.reach {s : State} (h : LaneBusInv s) (time : Nat) : LaneBusInv (s.reach time) := h.elapse _

theorem LaneBusInv.arbitrate {s : State} (h : LaneBusInv s) (hon : s.on = true) : LaneBusInv s.arbitrate := by
  refine State.arbitrate_elim h fun w _ hw => ?_
  have hlanes := h.lanesOk.mark w
  refine ⟨hlanes.each, h.window, hlanes.oneMark, fun g hg => ?_, fun l since length hg => ?_, ?_, h.buffer⟩
  · cases hg
    have hr := (LaneBus.winner_requesting hw).1
    have hact : s.bus.lanes[w].state = .active := by
      simp only [StationRecord.requesting, Bool.and_eq_true, beq_iff_eq] at hr
      exact hr.1
    show ((s.bus.mark w).lanes[w]).state = .active
    rw [LaneBus.mark_at, if_pos rfl]
    exact hact
  · cases hg
    exact Nat.le_refl _
  · exact ⟨fun _ => ⟨hon, .inr ⟨w, s.bus.window, rfl⟩⟩, fun _ => rfl⟩

/-- The end of a grant, whatever stood on the bus but the six records (R169 to R172). -/
theorem LanesOk.endGrant {s : State} (h : LanesOk s.bus.lanes) (hw : 10 ≤ s.bus.window ∧ s.bus.window ≤ 200)
    (hon : s.on = true) : LaneBusInv s.endGrant :=
  LaneBusInv.arbitrate (LaneBusInv.free h hw rfl rfl rfl) hon

theorem LaneBusInv.discardFrame {s : State} (h : LaneBusInv s) (hon : s.on = true) (l : StationLane) :
    LaneBusInv (s.discardFrame l) :=
  LanesOk.endGrant (h.lanesOk.setStation l { h.lanes l with lineErrors := satAdd_le _ _ _ } fun hg => ⟨hg, rfl⟩) h.window hon

/-- A change of one record that keeps an ACTIVE lane ACTIVE, with the grant as it was. -/
theorem LaneBusInv.setStation {s : State} (h : LaneBusInv s) (l : StationLane) {r : StationRecord} (hr : r.Ok)
    (hm : r.lastGranted = true → s.bus.lanes[l].lastGranted = true ∧ r.priority = s.bus.lanes[l].priority)
    (ha : s.bus.lanes[l].state = .active → r.state = .active) : LaneBusInv (s.setStation l r) := by
  have hlanes := h.lanesOk.setStation l hr hm
  refine { h with lanes := hlanes.each, oneMark := hlanes.oneMark, granted := fun g hg => ?_ }
  rw [State.setStation_at]
  split
  · rename_i e
    exact ha (e ▸ h.granted g hg)
  · exact h.granted g hg

theorem State.elapse_setStation (ms : Nat) (l : StationLane) (r : StationRecord) (s : State) :
    (s.elapse ms).setStation l r = { s.elapse ms with bus := { (s.elapse ms).bus with lanes := s.bus.lanes.set l.val r l.isLt } } := rfl

theorem laneBus_payout : PayoutKept LaneBusInv where
  disp := fun _ _ h => laneBusInv_reads.kept (State.touches_setDisp _ _) (by simp) h
  ticket := fun _ _ _ _ _ h => laneBusInv_reads.kept (State.touches_putTicket _ _) (by simp) h
  settle := fun _ _ _ h => laneBusInv_reads.kept (State.touches_settle _ _) (by simp [finishFields]) h
  tell := fun _ _ _ h => laneBusInv_reads.kept (State.touches_tellOffice _ _) (by simp) h
  time := fun ms _ h => h.elapse ms
  check := fun _ h => laneBusInv_reads.kept (State.touches_sealed _) (by simp) h
  queue := fun _ _ _ _ h => ⟨h.lanes, h.window, h.oneMark, h.granted, h.opened, h.driver, h.buffer⟩

theorem warmKept_laneBus : WarmKept LaneBusInv where
  loss := fun s _ h => State.lossPhase_elim h ⟨h.lanes, h.window, h.oneMark, h.granted, h.opened, h.driver, h.buffer⟩
  change := fun e rest s _ _ h => by
    rw [State.applyChange_shape]
    exact ⟨h.lanes, h.window, h.oneMark, h.granted, h.opened, h.driver, h.buffer⟩
  close := fun _ _ _ _ _ _ h => laneBusInv_reads.kept (State.touches_valueTicket _ _ _) (by simp [valuationFields]) h
  leave := fun _ _ _ _ h => ⟨h.lanes, h.window, h.oneMark, h.granted, h.opened, h.driver, h.buffer⟩
  fault := fun s _ h => by
    rw [State.restartFault_shape]
    exact ⟨h.lanes, h.window, h.oneMark, h.granted, h.opened, h.driver, h.buffer⟩

theorem LaneBusInv.warmBlocks {s : State} (h : LaneBusInv s) : LaneBusInv s.warmBlocks := by
  have hat : ∀ l : StationLane, s.warmBlocks.bus.lanes[l] = s.bus.lanes[l].warm := fun l => by simp [State.warmBlocks]
  refine LaneBusInv.free ⟨fun l => ?_, fun l m => ?_⟩ h.window rfl rfl rfl
  · rw [hat]
    exact (h.lanes l).warm
  · rw [hat, hat]
    exact h.oneMark l m

/-- A stop leaves the line released (R192). -/
theorem LaneBusInv.halt {s : State} (h : LaneBusInv s) (cause : StopCause) : LaneBusInv (s.halt cause) where
  lanes := h.lanes
  window := h.window
  oneMark := h.oneMark
  granted := h.granted
  opened := h.opened
  driver := by cases cause <;> simp [State.halt, State.on, stoppedBy]
  buffer := rfl

theorem LaneBusInv.reset : LaneBusInv State.reset := by
  have hat : ∀ l : StationLane, State.reset.bus.lanes[l] = StationRecord.cold := fun l => by
    simp [State.reset, State.coldContent, State.sealed]
  refine LaneBusInv.free ⟨fun l => ?_, fun l m hl => ?_⟩ (by decide) rfl rfl rfl
  · rw [hat]
    exact StationRecord.cold_ok
  · rw [hat] at hl
    exact absurd hl (by decide)

/-- A stopped part that stays stopped. -/
theorem LaneBusInv.stopped {s t : State} (h : LaneBusInv s) (hs : s.on = false) (ht : t.on = false) (hb : t.bus = s.bus)
    (hn : t.now = s.now) : LaneBusInv t := by
  refine ⟨?_, ?_, ?_, ?_, ?_, ?_, ?_⟩
  · rw [hb]; exact h.lanes
  · rw [hb]; exact h.window
  · rw [hb]; exact h.oneMark
  · rw [hb]; exact h.granted
  · rw [hb, hn]; exact h.opened
  · rw [hb, hn, ht, ← hs]; exact h.driver
  · rw [hb]; exact h.buffer

/-- The levels found leave marks, misses and the grant as they were (R175). -/
theorem LaneBusInv.establish {s : State} (h : LaneBusInv s) (hon : s.on = true) (v : InputLevels) :
    LaneBusInv (s.establish v) := by
  have hat : ∀ l : StationLane,
      (s.establish v).bus.lanes[l] = { s.bus.lanes[l] with low := .found v.lreqLow[l] s.now } := fun l => by
    simp [State.establish]
  refine ⟨fun l => ?_, h.window, fun l m => ?_, fun g hg => ?_, h.opened, ?_, h.buffer⟩
  · rw [hat]
    exact { h.lanes l with }
  · rw [hat, hat]
    exact h.oneMark l m
  · rw [hat]
    exact h.granted g hg
  · have := h.driver
    rw [hon] at this
    exact this

/-! ### Every command -/

/-- A reply in the grant of an ACTIVE lane (R163, R169). -/
theorem LaneBusInv.replyInGrant {a : Answer} (h : LaneBusInv a.state) (hon : a.state.on = true) {l : StationLane}
    (hl : a.state.bus.lanes[l].state = .active) (name : List Byte) : LaneBusInv (State.replyInGrant l name a) where
  lanes := h.lanes
  window := h.window
  oneMark := h.oneMark
  granted := fun g hg => by cases hg; exact hl
  opened := fun _ _ _ hg => by cases hg
  driver := ⟨fun _ => ⟨hon, .inl ⟨l, _, rfl⟩⟩, fun _ => rfl⟩
  buffer := rfl

theorem LaneBusInv.replyOn {a : Answer} (h : LaneBusInv a.state) (p : Port) (i : Instr) (name : List Byte) :
    LaneBusInv (State.replyOn p i name a) := by
  cases p <;> exact ⟨h.lanes, h.window, h.oneMark, h.granted, h.opened, h.driver, h.buffer⟩

theorem setLaneStation_keeps_laneBus {s : State} (h : LaneBusInv s) (l : StationLane) (priority window : Nat) :
    LaneBusInv (setLaneStation l priority window s).state ∧ (setLaneStation l priority window s).state.on = s.on ∧
      ∀ m : StationLane, s.bus.lanes[m].state = .active → ((setLaneStation l priority window s).state.bus.lanes[m]).state = .active := by
  refine setLaneStation_elim (P := fun t => LaneBusInv t ∧ t.on = s.on ∧
    ∀ m : StationLane, s.bus.lanes[m].state = .active → (t.bus.lanes[m]).state = .active) ⟨h, rfl, fun _ hm => hm⟩ fun hp hw => ?_
  have hr : ({ s.bus.lanes[l] with
      priority := priority, lastGranted := s.bus.lanes[l].lastGranted && s.bus.lanes[l].priority == priority } : StationRecord).Ok :=
    { h.lanes l with priority := hp }
  have hset := h.setStation l hr (fun hg => by
    simp only [Bool.and_eq_true, beq_iff_eq] at hg
    exact ⟨hg.1, hg.2.symm⟩) id
  have hgrant : ∀ {g}, s.bus.regrant window = some g → ∃ g', s.bus.grant = some g' ∧ g'.lane = g.lane ∧
      ∀ since length, g.phase = .window since length → ∃ length', g'.phase = .window since length' := fun {g} hg => by
    unfold LaneBus.regrant at hg
    split at hg
    · rename_i heq
      cases hg
      exact ⟨_, heq, rfl, fun _ _ he => by cases he; exact ⟨_, rfl⟩⟩
    · exact ⟨g, hg, rfl, fun _ length he => ⟨length, he⟩⟩
  refine ⟨⟨hset.lanes, hw, hset.oneMark, fun g hg => ?_, fun m since length hg => ?_, ?_, h.buffer⟩, rfl, fun m hm => ?_⟩
  · obtain ⟨⟨_, _⟩, hg', rfl, _⟩ := hgrant hg
    have := hset.granted _ hg'
    exact this
  · obtain ⟨⟨m', ph'⟩, hg', _, hph⟩ := hgrant hg
    obtain ⟨length', rfl⟩ := hph _ _ rfl
    exact h.opened m' since length' hg'
  · rw [h.driver]
    refine and_congr_right fun _ => ?_
    unfold LaneBus.regrant
    dsimp only
    split
    · rename_i heq
      simp [heq]
    · rfl
  · show ((s.setStation l _).bus.lanes[m]).state = .active
    rw [State.setStation_at]
    split
    · rename_i e
      exact e ▸ hm
    · exact hm

theorem exec_keeps_laneBus (c : Instr) (s : State) {t : State} (hs : LaneBusInv s) (h : exec c s = .next t) : LaneBusInv t := by
  have hI := laneBusInv_reads
  have hret : ∀ {b f}, retainedEvent b f s = .next t → (b = true → LaneBusInv (f s)) → LaneBusInv t :=
    fun h hf => retainedEvent_elim h hs fun hb => hI.kept (State.touches_sealed _) (by simp) (hf hb)
  have hpayout : PayoutEvent c → LaneBusInv t := fun hc => laneBus_payout.exec' hc hs h
  have hport : ∀ {b p after} {r : State → PortRecord},
      event b (fun s => (s.elapse after).setPort p (r s)) s = .next t → LaneBusInv t := fun {_ _ after _} h =>
    event_elim h hs fun _ => hI.kept (State.touches_setPort _ _ _) (by simp) (hs.elapse after)
  have hactive : ∀ l : StationLane, s.hears l → s.bus.lanes[l].state = .active := fun l hl => hs.granted _ hl.2
  have hreply : ∀ {src}, c.source? = some src → (∀ f ∈ [Field.bus, .power, .now], f ∉ effectFields c) → LaneBusInv t :=
    fun hc hd => exec_request_elim hc h hs (fun p n a _ ha => (hI.kept ha hd hs).replyOn p c n)
      fun l n a hl ha => by
        refine (hI.kept ha hd hs).replyInGrant ((State.on_of_power (ha .power (hd _ (by simp)))).trans hl.1) ?_ n
        have hb : a.state.bus = s.bus := ha .bus (hd _ (by simp))
        rw [hb]
        exact hactive l hl
  cases c
  case setLaneStation src l priority window =>
    obtain ⟨hinv, hon, hact⟩ := setLaneStation_keeps_laneBus hs l priority window
    have hstate : ∀ a, (a = setLaneStation l priority window s ∨ ∃ r, a = refuse r s) →
        LaneBusInv a.state ∧ a.state.on = s.on ∧
          ∀ m : StationLane, s.bus.lanes[m].state = .active → (a.state.bus.lanes[m]).state = .active := by
      rintro a (rfl | ⟨r, rfl⟩)
      · exact ⟨hinv, hon, hact⟩
      · exact ⟨hs, rfl, fun _ hm => hm⟩
    change request _ _ _ (setLaneStation l priority window) s = _ at h
    exact request_elim h hs (fun p a _ ha => (hstate a ha).1.replyOn p _ _) fun m a hm ha =>
      (hstate a ha).1.replyInGrant ((hstate a ha).2.1.trans hm.1) ((hstate a ha).2.2 m (hactive m hm)) _
  case unknownRequest =>
    exact execUnknownRequest_elim h hs (fun p i _ => hs.replyOn (a := refuse _ s) p i _)
      fun l hl => hs.replyInGrant (a := refuse _ s) hl.1 (hactive l hl) _
  case closeWaitExpiry n =>
    change execCloseWaitExpiry n s = _ at h
    unfold execCloseWaitExpiry at h
    split at h
    · exact hret h fun _ => hI.kept (State.touches_valueTicket _ _ _) (by simp [valuationFields]) (hs.reach _)
    · exact done_elim h hs
  case clockAdvance =>
    change execClockAdvance s = _ at h
    unfold execClockAdvance at h
    have hclock : ∀ {u : State} (k : YardClock), LaneBusInv u → LaneBusInv { u with clock := k } := fun k hu =>
      hI.kept (State.touches_setClock k _) (by simp) hu
    split at h
    · refine hret h fun _ => hI.kept (State.touches_applyDue _) (by simp [scheduleFields]) (hclock _ ?_)
      unfold State.fullSecond
      split
      · exact hclock _ hs
      · exact hclock _ (hs.reach _)
    · exact event_elim h hs fun _ => hclock _ (hclock _ hs)
  case crystalLoss cycles after =>
    change execCrystalLoss cycles after s = _ at h
    exact event_elim h hs fun _ => hI.kept (State.touches_tellOffice _ _) (by simp)
      (hI.kept (State.touches_setClock _ _) (by simp) (hs.elapse after))
  case crystalReturn after =>
    change execCrystalReturn after s = _ at h
    exact event_elim h hs fun _ => hI.kept (State.touches_setClock _ _) (by simp) (hs.elapse after)
  case backupCrystalStop cycles =>
    change execBackupCrystalStop cycles s = _ at h
    refine event_elim h hs fun hc => hs.stopped ?_ rfl rfl rfl
    simp [State.on, beq_iff_eq.1 hc]
  case powerStop cause =>
    change execPowerStop cause s = _ at h
    unfold execPowerStop at h
    split at h
    · cases h
      exact hs.halt cause
    · exact event_elim h hs fun _ => hs.stopped (Bool.eq_false_iff.2 ‹_›) rfl rfl rfl
  case warmStart =>
    have hsealed : ∀ u : State, LaneBusInv u → LaneBusInv u.sealed := fun u => hI.kept u.touches_sealed (by simp)
    exact warmKept_laneBus.exec h hs (fun _ _ => hs.warmBlocks) (fun u _ => hsealed u)
      fun cause u _ hu => hsealed _ (hu.halt cause)
  case coldStart found cut =>
    change execColdStart found cut s = _ at h
    refine event_elim h hs fun hc => ?_
    cases cut with
    | none =>
      have hr := LaneBusInv.reset
      exact ⟨hr.lanes, hr.window, hr.oneMark, hr.granted, hr.opened, hr.driver, hr.buffer⟩
    | some cause =>
      have hoff : s.on = false := by simpa using (Bool.and_eq_true_iff.1 hc).1
      refine LaneBusInv.halt ?_ cause
      by_cases hcut : Config.clearedByCut s.draws 9 = true
      · have hb : (s.clearBlocks (Config.clearedByCut s.draws)).bus = State.reset.bus := by simp [State.clearBlocks, hcut]
        have hr := LaneBusInv.reset.lanesOk
        refine LaneBusInv.free ?_ ?_ ?_ ?_ ?_
        · exact hb ▸ hr
        all_goals
          show _
          dsimp only
          rw [hb]
        · exact LaneBusInv.reset.window
        · rfl
        · rfl
        · rfl
      · exact hs.stopped hoff hoff (by simp [State.clearBlocks, hcut]) rfl
  case portLineError p kind after => exact hport (r := fun s => (s.port p).discard .recover) h
  case portGapTimeout p after => exact hport (r := fun s => (s.port p).discard .hunt) h
  case portIdleRecover p after => exact hport (r := fun s => { s.port p with receiver := .hunt }) h
  case portOverrun p after =>
    change execPortOverrun p after s = _ at h
    exact hport h
  case portReplyEnd p after =>
    change execPortReplyEnd p after s = _ at h
    exact hport h
  case requestFrameStart p after =>
    change execRequestFrameStart p after s = _ at h
    exact hport h
  case lreqChange l low after =>
    change execLreqChange l low after s = _ at h
    refine hret h fun hc => ?_
    have hon : s.on = true := PayoutKept.settled_on (Bool.and_eq_true_iff.1 hc).1
    have hset : LaneBusInv ((s.elapse after).setStation l (s.bus.lanes[l].lineMoved low (s.now + after))) :=
      (hs.elapse after).setStation l ((hs.lanes l).lineMoved low _)
        (fun hg => ⟨(StationRecord.lineMoved_mark _ _ _).2 ▸ hg, (StationRecord.lineMoved_mark _ _ _).1⟩)
        fun ha => StationRecord.lineMoved_active ha _ _
    dsimp only
    split
    · exact hset.arbitrate hon
    · exact hset
  case frameStart after =>
    change execFrameStart after s = _ at h
    unfold execFrameStart at h
    split at h
    · rename_i l since length hg
      refine event_elim h hs fun hc => ?_
      simp only [Bool.and_eq_true, LaneBus.listens, Bool.not_eq_true'] at hc
      have hact : s.bus.lanes[l].state = .active := hs.granted _ hg
      have hr : ({ s.bus.lanes[l] with misses := 0 } : StationRecord).Ok :=
        { hs.lanes l with
          misses := Nat.zero_le _
          silent := iff_of_false (fun e => LaneState.noConfusion (hact.symm.trans e)) (Nat.ne_of_lt (Nat.zero_lt_succ 2)) }
      have hset := (hs.elapse after).setStation l hr (fun hg => ⟨hg, rfl⟩) id
      refine ⟨hset.lanes, hs.window, hset.oneMark, fun g hg' => ?_, fun _ _ _ hg' => (nomatch hg'), ?_, rfl⟩
      · cases hg'
        have := hset.granted _ hg
        exact this
      · show (s.bus.pass after).lbusDe = true ↔ _
        rw [hc.1.2]
        simp
    · exact done_elim h hs
  case grantMiss =>
    change execGrantMiss s = _ at h
    unfold execGrantMiss at h
    split at h
    · rename_i l since length hg
      refine hret h fun hon => ?_
      have hlanes : LanesOk ((s.reach (since + length)).setStation l s.bus.lanes[l].miss).bus.lanes :=
        (hs.reach _).lanesOk.setStation l ((hs.lanes l).miss (hs.granted _ hg))
          fun hg => ⟨(StationRecord.miss_mark _).2 ▸ hg, (StationRecord.miss_mark _).1⟩
      dsimp only
      split
      · exact LanesOk.endGrant (s := State.tellOffice _ _) hlanes hs.window hon
      · exact LanesOk.endGrant hlanes hs.window hon
    · exact done_elim h hs
  case laneFrameError kind after =>
    change execLaneFrameError kind after s = _ at h
    unfold execLaneFrameError at h
    split at h
    · exact hret h fun hc => (hs.elapse after).discardFrame (by simp only [Bool.and_eq_true] at hc; exact hc.1.1.1.1) _
    · exact hret h fun hc => (hs.elapse after).discardFrame (by simp only [Bool.and_eq_true] at hc; exact hc.1.1) _
    · exact done_elim h hs
  case laneCharTimeout after =>
    change execLaneCharTimeout after s = _ at h
    unfold execLaneCharTimeout at h
    split at h
    · exact hret h fun hon => (hs.elapse after).discardFrame hon _
    · exact done_elim h hs
  case laneReplyEnd after =>
    change execLaneReplyEnd after s = _ at h
    unfold execLaneReplyEnd at h
    split at h
    · exact hret h fun hon => LanesOk.endGrant (hs.elapse after).lanesOk hs.window hon
    · exact done_elim h hs
  case peyeTransition i blocked after =>
    change execPeyeTransition i blocked after s = _ at h
    refine hret h fun _ => hI.kept (State.touches_peye _ _ _) (by simp) ?_
    unfold State.laneElapse
    dsimp only
    split
    · split
      · exact hI.kept (State.touches_sealed _) (by simp) (hI.kept (State.touches_stallLane _ _) (by simp) (hs.elapse after))
      · exact hs.elapse after
    · exact hs.elapse after
  case stall i =>
    change execStall i s = _ at h
    unfold execStall at h
    split at h
    · exact hret h fun _ => hI.kept (State.touches_stallLane _ _) (by simp) (hs.reach _)
    · exact done_elim h hs
  case inputsSettled v after =>
    change execInputsSettled v after s = _ at h
    exact hret h fun hc => ((hs.elapse after).establish (Bool.and_eq_true_iff.1 hc).1 v).arbitrate rfl
  case jobTake => exact hpayout (.jobTake _)
  case noteVendEnd => exact hpayout (.noteVendEnd _)
  case noteExitStart => exact hpayout (.noteExitStart _)
  case noteExitEnd => exact hpayout (.noteExitEnd _ _)
  case noteJamTimeout => exact hpayout .noteJamTimeout
  case coinExitStart => exact hpayout (.coinExitStart _)
  case coinGapTimeout => exact hpayout .coinGapTimeout
  case coinEmptyAsserted => exact hpayout (.coinEmptyAsserted _)
  case runOnEnd => exact hpayout .runOnEnd
  all_goals first
    | exact hreply rfl (by simp [valuationFields, finishFields, scheduleFields])
    | exact hI.exec hs h (by simp [Instr.source?])

/-- Settles O54: an arbitration marks and grants a requesting lane, each end of a grant frees the bus before it arbitrates, and time
ends a grant character. -/
theorem laneBusInvariantKept : Obligations.LaneBusInvariantKept := fun _ _ hs h =>
  step_kept laneBusInv_reads (by simp) (fun hs _ => hs.elapse 1) (fun c s => exec_keeps_laneBus c s) hs h

end Sys2Proof.Machine
end

section
/-! SUPPORT. The ticket table as a whole (R38, R39, R135): most commands leave every ticket its number, its account and its log record,
and the commands that do not open a ticket, end one or enter one in the log. -/

namespace Sys2Proof.Machine

/-! ### The tickets after an operation -/

theorem State.mem_putTicket {u w : Ticket} {s : State} (h : w ∈ (s.putTicket u).tickets) :
    w = u ∨ (w ∈ s.tickets ∧ w.number ≠ u.number) := by
  obtain ⟨v, hv, rfl⟩ := List.mem_map.1 h
  split
  · exact .inl rfl
  · exact .inr ⟨hv, ‹_›⟩

theorem State.putTicket_numbers (u : Ticket) (s : State) :
    (s.putTicket u).tickets.map (·.number) = s.tickets.map (·.number) := by
  simp only [State.putTicket, List.map_map]
  refine List.map_congr_left fun w _ => ?_
  simp only [Function.comp_apply]
  split
  · exact Eq.symm ‹_›
  · rfl

theorem State.valueTicket_tickets_eq (forced : Bool) (t : Ticket) (s : State) :
    (s.valueTicket forced t).tickets = (s.putTicket (s.valuedTicket forced t)).tickets := by
  rw [State.valueTicket_tickets]
  rfl

theorem State.mem_finish {t w : Ticket} {r : LogRecord} {s : State} (h : w ∈ (s.finish t r).tickets) :
    w = { t with record := some r } ∨ (w ∈ s.tickets ∧ w.number ≠ t.number) := by
  rw [State.finish_tickets] at h
  split at h
  · exact .inr (by simpa using h)
  · exact State.mem_putTicket (u := { t with record := some r }) h

theorem State.mem_dropTicket {n : Nat} {w : Ticket} {s : State} : w ∈ (s.dropTicket n).tickets ↔ w ∈ s.tickets ∧ w.number ≠ n := by
  simp [State.dropTicket]

/-- A ticket as its settlement leaves it (R134). -/
def State.settledForm (t : Ticket) (s : State) : Ticket :=
  { t with
    state := .settled, outcome := some .paid, settledAt := some s.stamp
    progress := t.progress.map fun p => { p with overpay := t.paidValue s.disp - t.cash } }

theorem State.settle_eq (t : Ticket) (s : State) : s.settle t =
    s.finish (s.settledForm t) (paidRecord (s.settledForm t) s.accounts[t.account].customer (t.paidValue s.disp) s.stamp) := rfl

/-- A step is a millisecond of a running part, or the front command with the queue's rest. -/
theorem step_elim {P : State → Prop} {s t : State} (h : step s = .next t) (h0 : P s) (hidle : s.on = true → P (s.elapse 1))
    (hexec : ∀ c rest, exec c { s with pending := rest } = .next t → P t) : P t := by
  unfold step at h
  split at h
  · cases h
    unfold State.idleTick
    split
    · exact hidle ‹_›
    · exact h0
  · exact hexec _ _ h

/-! ### What most commands leave of a ticket -/

/-- What a ticket keeps from its opening to its end. -/
def Ticket.key (t : Ticket) : Nat × AccountId × Option LogRecord := (t.number, t.account, t.record)

/-- The table holds the same tickets in the same order, each with its account and its log record. -/
structure State.SameTable (s t : State) : Prop where
  numbers : t.tickets.map (·.number) = s.tickets.map (·.number)
  each : ∀ u ∈ t.tickets, ∃ w ∈ s.tickets, u.key = w.key

namespace State.SameTable

variable {s t u : State}

theorem of_tickets (h : t.tickets = s.tickets) : s.SameTable t := ⟨by rw [h], fun w hw => ⟨w, h ▸ hw, rfl⟩⟩

theorem refl (s : State) : s.SameTable s := of_tickets rfl

theorem trans (h : s.SameTable t) (k : t.SameTable u) : s.SameTable u :=
  ⟨k.numbers.trans h.numbers, fun v hv => by
    obtain ⟨w, hw, hk⟩ := k.each v hv
    obtain ⟨x, hx, hk'⟩ := h.each w hw
    exact ⟨x, hx, hk.trans hk'⟩⟩

theorem put {v w : Ticket} (hw : w ∈ s.tickets) (hk : v.key = w.key) : s.SameTable (s.putTicket v) :=
  ⟨State.putTicket_numbers _ _, fun x hx => by
    rcases State.mem_putTicket hx with rfl | ⟨hx, _⟩
    · exact ⟨w, hw, hk⟩
    · exact ⟨x, hx, rfl⟩⟩

/-- What an operation leaves of the table it finds, where the state it works on holds the table unchanged. -/
theorem after {p : State} (h : p.SameTable t) (hp : p.tickets = s.tickets) : s.SameTable t := (of_tickets hp).trans h

/-- The table with one ticket replaced. -/
theorem of_put {v w : Ticket} (ht : t.tickets = (s.putTicket v).tickets) (hw : w ∈ s.tickets) (hk : v.key = w.key) : s.SameTable t :=
  (put hw hk).trans (of_tickets ht)

theorem of_touches {fs : List Field} (h : s.Touches fs t) (hd : Field.tickets ∉ fs) : s.SameTable t := of_tickets (h .tickets hd)

theorem valued {v w : Ticket} (hw : w ∈ s.tickets) (hk : v.key = w.key) (forced : Bool) : s.SameTable (s.valueTicket forced v) :=
  (put (v := s.valuedTicket forced v) hw hk).trans (of_tickets (State.valueTicket_tickets_eq _ _ _))

theorem detached {w : Ticket} (hw : w ∈ s.tickets) (lane : Nat) : s.SameTable (s.detachLane lane w) :=
  State.detachLane_elim (fun _ => valued (v := w.detach lane) hw rfl false) (put hw rfl)

theorem length (h : s.SameTable t) : t.tickets.length = s.tickets.length := by
  simpa using congrArg List.length h.numbers

end State.SameTable

/-- The commands that can open a ticket, end one, or enter one in the log. -/
inductive TableEvent : Instr → Prop
  | openTicket (src a l) : TableEvent (.openTicket src a l)
  | void (src n) : TableEvent (.void src n)
  | authorise (src n m a) : TableEvent (.authorise src n m a)
  | resolveRetry (src n) : TableEvent (.resolveRetry src n)
  | resolveConvert (src n) : TableEvent (.resolveConvert src n)
  | resolveManual (src n) : TableEvent (.resolveManual src n)
  | takeLog (src n) : TableEvent (.takeLog src n)
  | coldStart (f c) : TableEvent (.coldStart f c)
  | payout {c} (h : PayoutEvent c) : TableEvent c

theorem State.touches_acceptArrival_prefix (lane : StationLane) (c : ClassId) (o : Origin) (k : Condition) (n carried : Nat)
    (tag : Option Nat) (t : Ticket) (s : State) :
    ∃ (u : Ticket) (p : State), s.acceptArrival lane c o k n carried tag t = p.putTicket u ∧ u.key = t.key ∧ p.tickets = s.tickets := by
  have hrecord : ∀ g (t : Ticket), (s.recordTag g lane t).1.key = t.key ∧ (s.recordTag g lane t).2.tickets = s.tickets := fun g t => by
    rw [State.recordTag_eq]
    exact ⟨rfl, rfl⟩
  have hwatch : ∀ g (t : Ticket) (p : State), (p.watchTag g t).1.key = t.key ∧ (p.watchTag g t).2.tickets = p.tickets := fun g t p => by
    rw [State.watchTag_eq]
    exact ⟨rfl, rfl⟩
  refine ⟨_, _, rfl, ?_, ?_⟩
  · cases tag with
    | none => dsimp only; split <;> rfl
    | some g =>
      refine (hwatch g _ _).1.trans ((hrecord g _).1.trans ?_)
      rw [if_neg (by simp)]
      rfl
  · cases tag with
    | none => rfl
    | some g => exact (hwatch g _ _).2.trans (hrecord g _).2

theorem State.SameTable.arrival {s : State} {t : Ticket} (ht : t ∈ s.tickets) (lane : StationLane) (c : ClassId) (o : Origin)
    (k : Condition) (n carried : Nat) (tag : Option Nat) : s.SameTable (s.acceptArrival lane c o k n carried tag t) := by
  obtain ⟨u, p, he, hk, hp⟩ := s.touches_acceptArrival_prefix lane c o k n carried tag t
  rw [he]
  exact (State.SameTable.of_tickets hp).trans (.put (hp ▸ ht) hk)

theorem State.SameTable.peye (s : State) (i : PulseIx) (blocked : Bool) : s.SameTable (s.peye i blocked) := by
  have hstray : ∀ u : State, u.SameTable (u.stray i) := fun u => .of_tickets rfl
  have harrival : ∀ u : State, u.SameTable (u.pulseArrival i) := fun u => by
    unfold State.pulseArrival
    dsimp only
    split
    · exact hstray u
    · rename_i t ht
      split
      · exact hstray u
      · exact .put (State.feeding_some ht).1 rfl
  have hedge : ∀ u : State, u.SameTable (u.countingEdge i) := fun u => by
    unfold State.countingEdge
    dsimp only
    split
    · exact .after (harrival _) rfl
    · exact .of_tickets rfl
  unfold State.peye
  dsimp only
  split
  · exact .of_tickets rfl
  · split
    · exact .after (hedge _) rfl
    · exact .of_tickets rfl

theorem warmKept_sameTable (s : State) : WarmKept s.SameTable where
  loss := fun _ _ h => h.trans (.of_tickets (by rw [State.lossPhase_shape]))
  change := fun _ _ _ _ _ h => h.trans (.of_tickets (by rw [State.applyChange_shape]))
  close := fun _ _ _ _ _ hu h => h.trans (.valued (State.ticket?_mem hu) rfl true)
  leave := fun _ _ _ _ h => h.trans (.of_tickets rfl)
  fault := fun u _ h => h.trans (State.restartFault_elim (fun _ => .refl u) fun w hw _ => .of_put (v := w.restartFaulted) rfl hw rfl)

/-- A request leaves the table where its block leaves it. -/
theorem request_sameTable {src : Source} {i : Instr} {n : ReqName} {block : State → Answer} {s t : State}
    (h : request src i n block s = .next t) (hb : s.SameTable (block s).state) : s.SameTable t := by
  have hstate : ∀ a, (a = block s ∨ ∃ r, a = refuse r s) → s.SameTable a.state := by
    rintro a (rfl | ⟨r, rfl⟩)
    · exact hb
    · exact .refl s
  exact request_elim (P := s.SameTable) h (.refl s)
    (fun p a _ ha => (hstate a ha).trans (.of_touches (State.touches_replyOn _ _ _ _) (by simp [replyFields])))
    fun l a _ ha => (hstate a ha).trans (.of_touches (State.touches_replyInGrant _ _ _) (by simp [replyFields]))

/-- Every other command leaves each ticket what it keeps. -/
theorem exec_sameTable {c : Instr} {s t : State} (h : exec c s = .next t) (hc : ¬TableEvent c) : s.SameTable t := by
  have hmem : ∀ {n u}, s.ticket? n = some u → u ∈ s.tickets := State.ticket?_mem
  have hreq : ∀ {src i n block}, request src i n block s = .next t → s.SameTable (block s).state → s.SameTable t := request_sameTable
  cases c
  case attachLane => exact hreq h (attachLane_elim (.refl s) fun _ ht _ _ _ _ => .put (hmem ht) rfl)
  case detachLane => exact hreq h (detachLane_elim (.refl s) fun _ ht _ => .detached (hmem ht) _)
  case closeTicket =>
    refine hreq h (closeTicket_elim (.refl s) (fun t ht _ => ?_) fun t ht _ => .valued (v := t.dropPulseLanes) (hmem ht) rfl false)
    exact .of_put (v := { t.dropPulseLanes with state := .closing, closeDeadline := some (s.now + 1000 * s.closeWait) }) rfl (hmem ht) rfl
  case reopen =>
    refine hreq h (reopen_elim (.refl s) fun t ht _ => ?_)
    have hr : (s.restoreTicket t).tickets = s.tickets := by rw [State.restoreTicket_eq]
    exact .after (.put (w := t) (v := t.reopened) (hr ▸ hmem ht) rfl) hr
  case release => exact hreq h (release_elim (.refl s) fun t _ ht _ => .put (hmem ht) rfl)
  case revoke =>
    exact hreq h (revoke_elim (.refl s)
      (fun t ht _ _ _ => .of_put (v := { t with state := .valued, authorisation := none }) rfl (hmem ht) rfl)
      fun t ht _ _ => .of_put (v := { t with state := .payFault }) rfl (hmem ht) rfl)
  case assignStrays =>
    exact hreq h (assignStrays_elim (.refl s) fun i t ht _ _ _ _ => .of_put (w := t) rfl (hmem ht) rfl)
  case arrive =>
    exact hreq h (onGrantedLane_elim (.refl s) fun l => arrive_elim (.refl s)
      (fun t _ ht => State.refuseDuplicate_elim (.put (State.feeding_some ht).1 rfl)
        (.of_put (v := Ticket.hold .duplicateTag { t with duplicates := satAdd 255 t.duplicates 1 }) rfl (State.feeding_some ht).1 rfl))
      fun _ _ _ _ ht _ _ _ _ => .arrival (State.feeding_some ht).1 _ _ _ _ _ _ _)
  case laneDone =>
    exact hreq h (onGrantedLane_elim (.refl s) fun l => laneDone_elim (.refl s) fun _ ht => .detached (State.feeding_some ht).1 _)
  case closeWaitExpiry n =>
    change execCloseWaitExpiry n s = _ at h
    unfold execCloseWaitExpiry at h
    split at h
    · rename_i u hu
      exact retainedEvent_elim (P := s.SameTable) h (.refl s) fun _ =>
        .of_put (v := (s.reach (u.closeDeadline.getD s.now)).valuedTicket true { u with attachments := [] })
          (State.valueTicket_tickets_eq _ _ _) (hmem hu) rfl
    · exact done_elim (P := s.SameTable) h (.refl s)
  case peyeTransition i blocked after =>
    change execPeyeTransition i blocked after s = _ at h
    refine retainedEvent_elim (P := s.SameTable) h (.refl s) fun _ => ?_
    have hp := State.SameTable.peye (s.laneElapse i after) i blocked
    exact (hp.after (s.touches_laneElapse i after .tickets (by simp [timeFields]))).trans (.of_tickets rfl)
  case warmStart =>
    exact (warmKept_sameTable s).exec h (.refl s) (fun _ _ => .of_tickets rfl) (fun _ _ hu => hu.trans (.of_tickets rfl))
      fun _ _ _ hu => hu.trans (.of_tickets rfl)
  all_goals first
    | (exfalso; apply hc; (repeat constructor); done)
    | exact .of_touches (exec_touches h) (by simp [Instr.source?, replyFields, timeFields, scheduleFields])

/-- Nor do they touch the log, the waiting order or the next ticket number. -/
theorem fieldsOf_not_tableEvent {c : Instr} (hc : ¬TableEvent c) :
    ∀ f ∈ [Field.log, .waiting, .nextNumber], f ∉ fieldsOf c := by
  cases c
  all_goals first
    | (exfalso; apply hc; (repeat constructor); done)
    | simp [Instr.source?, replyFields, timeFields, valuationFields, scheduleFields, warmFields]

/-! ### The check field (R192) -/

theorem CheckInv.sealed (s : State) : CheckInv s.sealed := fun _ => rfl

/-- An event that touches nothing of the retained content leaves the check field matching it. -/
theorem CheckInv.congr {s t : State} (h : CheckInv s) (hm : t.marker = s.marker) (hc : t.check = s.check)
    (hr : t.retained = s.retained) : CheckInv t := fun hv => by
  rw [hc, hr]
  exact h (hm ▸ hv)

/-- The fields outside the retained content that the check field covers. -/
theorem State.retained_of_touches {s t : State} {fs : List Field} (h : s.Touches fs t)
    (hd : ∀ f ∈ fs, f ∈ [Field.office, .acctPort, .clock, .lossMark, .marker, .check, .power, .now, .draws, .pending]) :
    t.retained = s.retained := by
  have hf : ∀ f, f ∉ [Field.office, .acctPort, .clock, .lossMark, .marker, .check, .power, .now, .draws, .pending] →
      f.agrees s t := fun f hn => h f fun hm => hn (hd f hm)
  unfold State.retained
  rw [hf .classes (by simp), hf .changes (by simp), hf .accounts (by simp), hf .residue (by simp), hf .tickets (by simp),
    hf .nextNumber (by simp), hf .reviewThreshold (by simp), hf .closeWait (by simp), hf .closingOrder (by simp),
    hf .tags (by simp), hf .watch (by simp), hf .pulse (by simp), hf .queue (by simp), hf .log (by simp), hf .waiting (by simp),
    hf .disp (by simp), hf .bus (by simp)]

/-- A working state of a station lane is no retained content (R175). -/
theorem State.retained_setStation {s : State} {l : StationLane} {r : StationRecord}
    (h : (r.priority, r.lastGranted) = (s.bus.lanes[l].priority, s.bus.lanes[l].lastGranted)) :
    (s.setStation l r).retained = s.retained := by
  have hv : (s.bus.lanes.set l.val r l.isLt).map (fun r => (r.priority, r.lastGranted)) =
      s.bus.lanes.map fun r => (r.priority, r.lastGranted) := by
    apply Vector.ext
    intro i hi
    simp only [Vector.getElem_map, Vector.getElem_set]
    split
    · rename_i e
      subst e
      exact h
    · rfl
  unfold State.retained
  simp only [State.setStation, hv]

theorem exec_keeps_check (c : Instr) (s : State) {t : State} (hs : CheckInv s) (h : exec c s = .next t) : CheckInv t := by
  have hret : ∀ {b f}, retainedEvent b f s = .next t → CheckInv t := fun h => retainedEvent_elim h hs fun _ => .sealed _
  have hreq : ∀ {src}, c.source? = some src → CheckInv t := fun hc =>
    exec_request_elim hc h hs (fun _ _ _ _ _ => .sealed _) fun _ _ _ _ _ => .sealed _
  have hdone : done s = .next t → CheckInv t := fun h => done_elim h hs
  have hport : ∀ {b p after} {r : State → PortRecord},
      event b (fun s => (s.elapse after).setPort p (r s)) s = .next t → CheckInv t := fun {_ p _ _} h =>
    event_elim h hs fun _ => hs.congr (by cases p <;> rfl) (by cases p <;> rfl) (by cases p <;> rfl)
  cases c
  case unknownRequest => exact execUnknownRequest_elim h hs (fun _ _ _ => .sealed _) fun _ _ => .sealed _
  case closeWaitExpiry n =>
    change execCloseWaitExpiry n s = _ at h
    unfold execCloseWaitExpiry at h
    split at h
    · exact hret h
    · exact hdone h
  case clockAdvance =>
    change execClockAdvance s = _ at h
    unfold execClockAdvance at h
    split at h
    · exact hret h
    · exact event_elim h hs fun _ => hs.congr rfl rfl rfl
  case crystalLoss cycles after =>
    change execCrystalLoss cycles after s = _ at h
    exact event_elim h hs fun _ => hs.congr rfl rfl rfl
  case crystalReturn after =>
    change execCrystalReturn after s = _ at h
    exact event_elim h hs fun _ => hs.congr rfl rfl rfl
  case backupCrystalStop cycles =>
    change execBackupCrystalStop cycles s = _ at h
    exact event_elim h hs fun _ => hs.congr rfl rfl rfl
  case backupLow =>
    change execBackupLow s = _ at h
    exact event_elim h hs fun _ hm => absurd hm (by simp)
  case powerStop cause =>
    change execPowerStop cause s = _ at h
    unfold execPowerStop at h
    split at h
    · cases h
      exact hs.congr rfl rfl rfl
    · exact event_elim h hs fun _ => hs.congr rfl rfl rfl
  case coldStart found cut =>
    change execColdStart found cut s = _ at h
    refine event_elim h hs fun _ => ?_
    cases cut with
    | none => exact fun _ => rfl
    | some cause => exact fun hm => absurd hm (by simp [State.coldCut, State.halt])
  case portLineError p kind after => exact hport (r := fun s => (s.port p).discard .recover) h
  case portGapTimeout p after => exact hport (r := fun s => (s.port p).discard .hunt) h
  case portIdleRecover p after => exact hport (r := fun s => { s.port p with receiver := .hunt }) h
  case portOverrun p after =>
    change execPortOverrun p after s = _ at h
    exact hport h
  case portReplyEnd p after =>
    change execPortReplyEnd p after s = _ at h
    exact hport h
  case requestFrameStart p after =>
    change execRequestFrameStart p after s = _ at h
    exact hport h
  case frameStart after =>
    change execFrameStart after s = _ at h
    unfold execFrameStart at h
    split at h
    · rename_i l _ _ _
      have hr : (s.setStation l { s.bus.lanes[l] with misses := 0 }).retained = s.retained := State.retained_setStation rfl
      exact event_elim h hs fun _ => hs.congr rfl rfl hr
    · exact hdone h
  case grantMiss =>
    change execGrantMiss s = _ at h
    unfold execGrantMiss at h
    split at h
    · exact hret h
    · exact hdone h
  case laneFrameError kind after =>
    change execLaneFrameError kind after s = _ at h
    unfold execLaneFrameError at h
    split at h
    · exact hret h
    · exact hret h
    · exact hdone h
  case laneCharTimeout after =>
    change execLaneCharTimeout after s = _ at h
    unfold execLaneCharTimeout at h
    split at h
    · exact hret h
    · exact hdone h
  case laneReplyEnd after =>
    change execLaneReplyEnd after s = _ at h
    unfold execLaneReplyEnd at h
    split at h
    · exact hret h
    · exact hdone h
  case stall i =>
    change execStall i s = _ at h
    unfold execStall at h
    split at h
    · exact hret h
    · exact hdone h
  case jobTake e =>
    change execJobTake e s = _ at h
    unfold execJobTake at h
    split at h
    · exact hdone h
    · exact hret h
  case noteVendEnd e =>
    change execNoteVendEnd e s = _ at h
    unfold execNoteVendEnd at h
    split at h
    · exact hret h
    · exact hdone h
  case noteJamTimeout =>
    change execNoteJamTimeout s = _ at h
    unfold execNoteJamTimeout at h
    split at h
    · split at h
      · exact hret h
      · exact hdone h
    · exact hdone h
  case coinGapTimeout =>
    change execCoinGapTimeout s = _ at h
    unfold execCoinGapTimeout at h
    split at h
    · exact hret h
    · exact hdone h
  case runOnEnd =>
    change execRunOnEnd s = _ at h
    unfold execRunOnEnd at h
    split at h
    · exact hret h
    · exact hdone h
  case warmStart found cut =>
    change execWarmStart found cut s = _ at h
    exact hret h
  case lreqChange l low after =>
    change execLreqChange l low after s = _ at h
    exact hret h
  case peyeTransition i blocked after =>
    change execPeyeTransition i blocked after s = _ at h
    exact hret h
  case noteExitStart after =>
    change execNoteExitStart after s = _ at h
    exact hret h
  case noteExitEnd e after =>
    change execNoteExitEnd e after s = _ at h
    exact hret h
  case coinExitStart after =>
    change execCoinExitStart after s = _ at h
    exact hret h
  case coinEmptyAsserted after =>
    change execCoinEmptyAsserted after s = _ at h
    exact hret h
  case inputsSettled v after =>
    change execInputsSettled v after s = _ at h
    exact hret h
  all_goals exact hreq rfl

theorem CheckInv.step {s t : State} (hs : CheckInv s) (h : step s = .next t) : CheckInv t :=
  step_kept (fs := [.classes, .changes, .accounts, .residue, .tickets, .nextNumber, .reviewThreshold, .closeWait, .closingOrder, .tags,
      .watch, .pulse, .queue, .log, .waiting, .disp, .bus, .marker, .check])
    (fun s t h hs => hs.congr (h .marker (by simp)) (h .check (by simp)) (State.retained_of_touches (fs := [.office, .acctPort, .clock,
      .lossMark, .power, .now, .draws, .pending]) (fun f hf => h f (by cases f <;> simp at hf ⊢)) (by simp)))
    (by simp) (fun hs _ => hs.congr rfl rfl rfl) (fun c s => exec_keeps_check c s) hs h

end Sys2Proof.Machine
end

section
/-! SUPPORT. Ticket numbers and the sizes and settings of the part (R9, R38, R39, R60, R81, R88, R128, R137, R188): what opening a ticket,
ending one and admitting one to the log keep of them. -/

namespace Sys2Proof.Machine

/-! ### Ticket numbers -/

theorem numbersInv_reads : Reads NumbersInv [.tickets, .log, .nextNumber] := by
  intro s t h hs
  have ht : t.tickets = s.tickets := h .tickets (by simp)
  have hl : t.log = s.log := h .log (by simp)
  have hn : t.nextNumber = s.nextNumber := h .nextNumber (by simp)
  refine ⟨?_, ?_, ?_, ?_, ?_⟩
  · rw [ht, hl]; exact hs.distinct
  · rw [ht]; exact hs.inRange
  · rw [hn]; exact hs.next
  · rw [ht, hl]; exact hs.room
  · rw [ht]; exact hs.records

/-- What each ticket keeps is all that its number depends on. -/
theorem NumbersInv.sameTable {s t : State} (h : NumbersInv s) (ht : s.SameTable t) (hl : t.log = s.log)
    (hn : t.nextNumber = s.nextNumber) : NumbersInv t where
  distinct := by rw [ht.numbers, hl]; exact h.distinct
  inRange := fun u hu => by
    obtain ⟨w, hw, hk⟩ := ht.each u hu
    rw [show u.number = w.number from congrArg (·.1) hk]
    exact h.inRange w hw
  next := hn ▸ h.next
  room := by rw [ht.length, hl]; exact h.room
  records := fun u hu r hr => by
    obtain ⟨w, hw, hk⟩ := ht.each u hu
    rw [show u.number = w.number from congrArg (·.1) hk]
    exact h.records w hw r ((show u.record = w.record from congrArg (·.2.2) hk) ▸ hr)

theorem NumbersInv.put {s : State} (h : NumbersInv s) {u w : Ticket} (hw : w ∈ s.tickets) (hk : u.key = w.key) :
    NumbersInv (s.putTicket u) := h.sameTable (.put hw hk) rfl rfl

/-- A number that moves from one list to the tail of the other still stands once. -/
theorem nodup_filter_append_tail {a b : List Nat} {n : Nat} (h : (a ++ b).Nodup) (hn : n ∈ a) :
    (a.filter (· != n) ++ (b ++ [n])).Nodup := by
  obtain ⟨ha, hb, hd⟩ := List.nodup_append.1 h
  have hnb : n ∉ b := fun hm => hd n hn n hm rfl
  refine List.nodup_append.2 ⟨ha.filter _, List.nodup_append.2 ⟨hb, List.nodup_singleton n, ?_⟩, ?_⟩
  · rintro x hx y hy rfl
    exact hnb (List.mem_singleton.1 hy ▸ hx)
  · rintro x hx y hy rfl
    obtain ⟨hxa, hxn⟩ := List.mem_filter.1 hx
    rcases List.mem_append.1 hy with hy | hy
    · exact hd x hxa x hy rfl
    · exact absurd (List.mem_singleton.1 hy) (by simpa using hxn)

/-- A ticket leaves the table and its record enters the log with its number. -/
theorem NumbersInv.moved {s t : State} (h : NumbersInv s) {w : Ticket} {r : LogRecord} (hw : w ∈ s.tickets)
    (hr : r.number = w.number) (hroom : s.log.length < 64)
    (ht : t.tickets = s.tickets.filter fun u => u.number != w.number) (hl : t.log = s.log ++ [r])
    (hn : t.nextNumber = s.nextNumber) : NumbersInv t where
  distinct := by
    have hf : t.tickets.map (·.number) = (s.tickets.map (·.number)).filter (· != w.number) := by
      rw [ht, List.filter_map]
      rfl
    rw [hf, hl, List.map_append, List.map_singleton, hr]
    exact nodup_filter_append_tail h.distinct (List.mem_map_of_mem hw)
  inRange := fun u hu => h.inRange u (by rw [ht] at hu; exact (List.mem_filter.1 hu).1)
  next := hn ▸ h.next
  room := by
    rw [ht, hl, List.length_append, List.length_singleton]
    exact ⟨(List.length_filter_le _ _).trans h.room.1, hroom⟩
  records := fun u hu => h.records u (by rw [ht] at hu; exact (List.mem_filter.1 hu).1)

theorem NumbersInv.finish {s : State} (h : NumbersInv s) {t w : Ticket} {r : LogRecord} (hw : s.ticket? t.number = some w)
    (hr : r.number = t.number) : NumbersInv (s.finish t r) := by
  have hmem := State.ticket?_mem hw
  have hnum := State.ticket?_number hw
  have hrest : (s.finish t r).nextNumber = s.nextNumber := State.finish_nextNumber _ _ _
  by_cases hroom : s.log.length < 64
  · refine h.moved hmem (hr.trans hnum.symm) hroom ?_ ?_ hrest
    · rw [State.finish_tickets, if_pos hroom, hnum]
    · rw [State.finish_log, if_pos hroom]
  · have ht : (s.finish t r).tickets = (s.putTicket { t with record := some r }).tickets := by
      rw [State.finish_tickets, if_neg hroom]
      rfl
    have hl : (s.finish t r).log = s.log := by rw [State.finish_log, if_neg hroom]
    refine ⟨?_, fun u hu => ?_, hrest ▸ h.next, ?_, fun u hu q hq => ?_⟩
    · rw [ht, hl, State.putTicket_numbers]
      exact h.distinct
    · rw [ht] at hu
      rcases State.mem_putTicket hu with rfl | ⟨hu, _⟩
      · exact hnum ▸ h.inRange w hmem
      · exact h.inRange u hu
    · rw [ht, hl]
      exact ⟨by simpa [State.putTicket] using h.room.1, h.room.2⟩
    · rw [ht] at hu
      rcases State.mem_putTicket hu with rfl | ⟨hu, _⟩
      · cases hq
        exact hr
      · exact h.records u hu q hq

theorem NumbersInv.settle {s : State} (h : NumbersInv s) {t w : Ticket} (hw : s.ticket? t.number = some w) :
    NumbersInv (s.settle t) :=
  h.finish (t := s.settledForm t) hw rfl

theorem NumbersInv.withLog {s : State} (h : NumbersInv s) {r : LogRecord} {rest : List LogRecord} (hl : s.log = r :: rest) :
    NumbersInv { s with log := rest } ∧ rest.length < 64 := by
  have hroom := h.room
  rw [hl, List.length_cons] at hroom
  have hd := h.distinct
  rw [hl] at hd
  have hlt : rest.length < 64 := hroom.2
  exact ⟨⟨hd.sublist ((List.sublist_cons_self _ _).append_left _), h.inRange, h.next, ⟨hroom.1, Nat.le_of_lt hlt⟩, h.records⟩, hlt⟩

/-- The oldest waiting ticket's record joins a log with room (R139). -/
theorem NumbersInv.admitWaiting {s : State} (h : NumbersInv s) (hroom : s.log.length < 64) : NumbersInv s.admitWaiting := by
  refine State.admitWaiting_elim (fun _ => h) (fun _ _ _ _ => ⟨h.distinct, h.inRange, h.next, h.room, h.records⟩)
    fun n rest t r _ ht hr => ?_
  have hmem := State.ticket?_mem ht
  have hnum := State.ticket?_number ht
  exact h.moved hmem (h.records t hmem r hr) hroom (by rw [State.enterLog_tickets, hnum]; rfl) (by rw [State.enterLog_log]; rfl)
    (by rw [State.enterLog_nextNumber]; rfl)

theorem nextTicketNumber_range {n : Nat} (h : 1 ≤ n) : 1 ≤ nextTicketNumber n ∧ nextTicketNumber n ≤ 65535 := by
  unfold nextTicketNumber Config.ticketNumberMax
  split <;> omega

/-- A new ticket takes a number that nothing holds (R39, R42). -/
theorem NumbersInv.opened {s : State} (h : NumbersInv s) (a : AccountId) (lanes : List Nat) (hroom : s.tickets.length < 16) :
    NumbersInv { s with tickets := s.tickets ++ [s.newTicket a lanes], nextNumber := nextTicketNumber s.takenNumber } := by
  obtain ⟨k, _, htaken, hfree, _⟩ := State.takenNumber_first h
  have hrange : 1 ≤ s.takenNumber ∧ s.takenNumber ≤ 65535 := by
    rw [htaken, nextTicketNumber_iterate h.next.1 h.next.2]
    omega
  have hnot := (not_congr State.numberUsed_iff).1 (Bool.eq_false_iff.1 hfree)
  simp only [not_or, not_exists, not_and] at hnot
  refine ⟨?_, fun u hu => ?_, nextTicketNumber_range hrange.1, ⟨?_, h.room.2⟩, fun u hu r hr => ?_⟩
  · have hperm : ((s.tickets ++ [s.newTicket a lanes]).map (·.number) ++ s.log.map (·.number)).Perm
        (s.takenNumber :: (s.tickets.map (·.number) ++ s.log.map (·.number))) := by
      simp only [List.map_append, List.map_singleton, List.append_assoc, List.singleton_append]
      exact List.perm_middle
    rw [hperm.nodup_iff, List.nodup_cons]
    refine ⟨fun hm => ?_, h.distinct⟩
    rcases List.mem_append.1 hm with hm | hm
    · obtain ⟨t, ht, he⟩ := List.mem_map.1 hm
      exact hnot.1 t ht he
    · obtain ⟨r, hr, he⟩ := List.mem_map.1 hm
      exact hnot.2 r hr he
  · rcases List.mem_append.1 hu with hu | hu
    · exact h.inRange u hu
    · rw [List.mem_singleton.1 hu]
      exact hrange
  · rw [List.length_append, List.length_singleton]
    exact hroom
  · rcases List.mem_append.1 hu with hu | hu
    · exact h.records u hu r hr
    · rw [List.mem_singleton.1 hu] at hr
      cases hr

theorem NumbersInv.authorised {s : State} (h : NumbersInv s) {t w : Ticket} (ht : s.ticket? t.number = some w)
    (hk : t.key = w.key) (a : Authorisation) : NumbersInv (s.authorised t a) := by
  have hpaid : NumbersInv (s.paidIn t a) ∧ (s.paidIn t a).ticket? t.number = some w := by
    refine ⟨?_, by rw [State.paidIn_ticket?]; exact ht⟩
    rw [State.paidIn_shape]
    exact ⟨h.distinct, h.inRange, h.next, h.room, h.records⟩
  unfold State.authorised
  dsimp only
  split
  · exact NumbersInv.settle (t := { t with authorisation := some a }) hpaid.1 hpaid.2
  · have hput := hpaid.1.put (u := { t with authorisation := some a, state := .authorised }) (State.ticket?_mem hpaid.2) hk
    exact ⟨hput.distinct, hput.inRange, hput.next, hput.room, hput.records⟩

theorem numbers_payout : PayoutKept NumbersInv where
  disp := fun _ _ h => numbersInv_reads.kept (State.touches_setDisp _ _) (by simp) h
  ticket := fun _ _ _ _ hu h => h.put (State.ticket?_mem hu) rfl
  settle := fun _ _ hu h => h.settle hu
  tell := fun _ _ _ h => numbersInv_reads.kept (State.touches_tellOffice _ _) (by simp) h
  time := fun ms _ h => numbersInv_reads.kept (State.touches_elapse ms _) (by simp [timeFields]) h
  check := fun _ h => numbersInv_reads.kept (State.touches_sealed _) (by simp) h
  queue := fun _ _ _ _ h => ⟨h.distinct, h.inRange, h.next, h.room, h.records⟩

theorem NumbersInv.reset : NumbersInv State.reset := ⟨by simp, by simp, by decide, by simp, by simp⟩

theorem NumbersInv.coldCut {s : State} (h : NumbersInv s) (cause : StopCause) : NumbersInv (s.coldCut cause) := by
  have ht : (s.coldCut cause).tickets = if Config.clearedByCut s.draws 3 = true then [] else s.tickets := rfl
  have hl : (s.coldCut cause).log = if Config.clearedByCut s.draws 7 = true then [] else s.log := rfl
  have hn : (s.coldCut cause).nextNumber = if Config.clearedByCut s.draws 3 = true then 1 else s.nextNumber := rfl
  have hts : (s.coldCut cause).tickets.Sublist s.tickets := by rw [ht]; split <;> simp
  have hls : (s.coldCut cause).log.Sublist s.log := by rw [hl]; split <;> simp
  refine ⟨h.distinct.sublist ((hts.map _).append (hls.map _)), fun t hm => h.inRange t (hts.subset hm), ?_,
    ⟨hts.length_le.trans h.room.1, hls.length_le.trans h.room.2⟩, fun t hm => h.records t (hts.subset hm)⟩
  rw [hn]
  split
  · decide
  · exact h.next

theorem exec_keeps_numbers (c : Instr) (s : State) {t : State} (hs : NumbersInv s) (h : exec c s = .next t) : NumbersInv t := by
  have hI := numbersInv_reads
  have hreq : ∀ {src i n block}, request src i n block s = .next t → NumbersInv (block s).state → NumbersInv t :=
    hI.request (by simp [replyFields]) hs
  have hpayout : PayoutEvent c → NumbersInv t := fun hc => numbers_payout.exec' hc hs h
  have hnamed : ∀ {n u}, s.ticket? n = some u → s.ticket? u.number = some u := fun hu => by
    rw [State.ticket?_number hu]
    exact hu
  by_cases hc : TableEvent c
  · cases hc with
    | openTicket src a lanes => exact hreq h (openTicket_elim hs fun _ _ _ hroom => hs.opened a lanes hroom)
    | void =>
      refine hreq h (voidTicket_elim hs fun t ht _ => ?_)
      have hr : NumbersInv (State.leaveClosing t.number (s.restoreTicket t)) := by
        rw [State.restoreTicket_eq]
        exact ⟨hs.distinct, hs.inRange, hs.next, hs.room, hs.records⟩
      refine hr.finish (w := t) ?_ rfl
      rw [State.restoreTicket_eq]
      exact hnamed ht
    | authorise => exact hreq h (authorise_elim hs fun _ t ht _ _ _ _ _ _ => hs.authorised (hnamed ht) rfl _)
    | resolveRetry =>
      refine hreq h (resolveRetry_elim hs (fun t ht _ _ => hs.settle (hnamed ht)) fun t ht _ _ _ => ?_)
      have hput := hs.put (u := Ticket.withProgress (fun q => { q with retries := q.retries + 1 }) { t with state := .authorised })
        (State.ticket?_mem ht) rfl
      exact ⟨hput.distinct, hput.inRange, hput.next, hput.room, hput.records⟩
    | resolveConvert =>
      exact hreq h (resolveConvert_elim hs fun t ht _ _ _ =>
        NumbersInv.settle (s := s.setAccount _ _) (w := t) ⟨hs.distinct, hs.inRange, hs.next, hs.room, hs.records⟩ (hnamed ht :))
    | resolveManual => exact hreq h (resolveManual_elim hs fun t ht _ => hs.settle (w := t) (hnamed ht :))
    | takeLog =>
      exact hreq h (takeLog_elim hs fun r rest hl => (hs.withLog hl).1.admitWaiting (hs.withLog hl).2)
    | coldStart found cut =>
      change execColdStart found cut s = _ at h
      refine event_elim h hs fun _ => ?_
      cases cut with
      | none =>
        have hr := NumbersInv.reset
        exact ⟨hr.distinct, hr.inRange, hr.next, hr.room, hr.records⟩
      | some cause => exact hs.coldCut cause
    | payout hp => exact hpayout hp
  · have hlog := fieldsOf_not_tableEvent hc
    exact hs.sameTable (exec_sameTable h hc) (exec_touches h .log (hlog _ (by simp))) (exec_touches h .nextNumber (hlog _ (by simp)))

theorem NumbersInv.step {s t : State} (hs : NumbersInv s) (h : step s = .next t) : NumbersInv t :=
  numbersInv_reads.step (by simp [timeFields]) (fun c s => exec_keeps_numbers c s) hs h

end Sys2Proof.Machine
end

section
/-! SUPPORT. The sizes of the collections and the ranges of the settings (R9, R33, R38, R60, R81, R88, R128, R137, R188). -/

namespace Sys2Proof.Machine

/-- What the limits are of, the ticket table apart. -/
def limitFields : List Field :=
  [.clock, .reviewThreshold, .closeWait, .nextNumber, .residue, .changes, .tags, .watch, .queue, .log]

/-- The limits stand where the table has grown no longer than it may and nothing else they read has changed. -/
theorem LimitsInv.rest {s t : State} (h : LimitsInv s) (hf : ∀ f ∈ limitFields, f.agrees s t) (hl : t.tickets.length ≤ 16) :
    LimitsInv t where
  clockDay := by rw [hf .clock (by simp [limitFields])]; exact h.clockDay
  clockSecond := by rw [hf .clock (by simp [limitFields])]; exact h.clockSecond
  threshold := by rw [hf .reviewThreshold (by simp [limitFields])]; exact h.threshold
  closeWait := by rw [hf .closeWait (by simp [limitFields])]; exact h.closeWait
  nextNumber := by rw [hf .nextNumber (by simp [limitFields])]; exact h.nextNumber
  residue := by rw [hf .residue (by simp [limitFields])]; exact h.residue
  changes := by rw [hf .changes (by simp [limitFields])]; exact h.changes
  tickets := hl
  tags := by rw [hf .tags (by simp [limitFields])]; exact h.tags
  watch := by rw [hf .watch (by simp [limitFields])]; exact h.watch
  queue := by rw [hf .queue (by simp [limitFields])]; exact h.queue
  log := by rw [hf .log (by simp [limitFields])]; exact h.log

theorem LimitsInv.of_touches {s t : State} {fs : List Field} (h : LimitsInv s) (ht : s.Touches fs t)
    (hd : ∀ f ∈ limitFields, f ∉ fs) (hs : s.SameTable t) : LimitsInv t :=
  h.rest (fun f hf => ht f (hd f hf)) (by rw [hs.length]; exact h.tickets)

theorem limitsInv_reads : Reads LimitsInv (.tickets :: limitFields) := fun s t h hs =>
  hs.rest (fun f hf => h f (by simp [hf])) (by rw [show t.tickets = s.tickets from h .tickets (by simp)]; exact hs.tickets)

/-- The end of a second fixes the sub-second count alone (R188). -/
theorem State.fullSecond_clock (s : State) : ∃ sub anchor, s.fullSecond.clock = { s.clock with sub := sub, anchor := anchor } := by
  unfold State.fullSecond
  split
  · exact ⟨_, _, rfl⟩
  · exact ⟨_, _, rfl⟩

/-! ### One collection or setting at a time -/

section

variable {s : State} (h : LimitsInv s)

include h

theorem LimitsInv.put (u : Ticket) : LimitsInv (s.putTicket u) :=
  { h with tickets := by simpa [State.putTicket] using h.tickets }

theorem LimitsInv.withClock {c : YardClock} (hd : c.day ≤ 65535) (hs : c.second ≤ 86399) : LimitsInv { s with clock := c } :=
  { h with clockDay := hd, clockSecond := hs }

/-- The time of day stands where only the rest of the clock's record changes. -/
theorem LimitsInv.clockMoved {t : State} {fs : List Field} (ht : s.Touches fs t)
    (hd : ∀ f ∈ .tickets :: limitFields, f ≠ .clock → f ∉ fs) (hday : t.clock.day = s.clock.day)
    (hsec : t.clock.second = s.clock.second) : LimitsInv t := by
  have hc : LimitsInv { s with clock := t.clock } := h.withClock (hday ▸ h.clockDay) (hsec ▸ h.clockSecond)
  refine limitsInv_reads _ _ (fun f hf => ?_) hc
  by_cases he : f = .clock
  · subst he
    rfl
  · have hback : State.Touches [.clock] { s with clock := t.clock } s := State.Touches.of_left fun f => by cases f <;> rfl
    exact Field.agrees_trans (hback f (by simpa using he)) (ht f (hd f hf he))

theorem LimitsInv.tickClock : LimitsInv s.tickClock := by
  have hd := h.clockDay
  have hs := h.clockSecond
  unfold State.tickClock YardClock.tick Config.secondMax Config.dayMax
  split
  · exact h.withClock hd (by dsimp only; omega)
  · split
    · exact h.withClock (by dsimp only; omega) (Nat.zero_le _)
    · exact h.withClock hd hs

theorem LimitsInv.withChanges {es : List PendingChange} (he : es.length ≤ 8) : LimitsInv { s with changes := es } :=
  { h with changes := he }

theorem LimitsInv.applyChange {e : PendingChange} {rest : List PendingChange} (he : s.changes = e :: rest) :
    LimitsInv (s.applyChange e rest) := by
  have hlen := h.changes
  rw [he, List.length_cons] at hlen
  rw [State.applyChange_shape]
  exact { h with changes := Nat.le_of_succ_le hlen }

theorem LimitsInv.applyDue : LimitsInv s.applyDue := State.applyDue_kept (fun _ _ _ he hs => hs.applyChange he) h

theorem LimitsInv.enterLog (r : LogRecord) (hroom : s.log.length < 64) : LimitsInv (s.enterLog r) := by
  rw [State.enterLog_shape]
  exact { h with log := by rw [State.enterLog_log, List.length_append, List.length_singleton]; exact hroom }

theorem LimitsInv.dropTicket (n : Nat) : LimitsInv (s.dropTicket n) :=
  { h with tickets := (List.length_filter_le _ _).trans h.tickets }

theorem LimitsInv.dropTags (n : Nat) : LimitsInv (s.dropTags n) :=
  { h with tags := ⟨(List.length_filter_le _ _).trans h.tags.1, h.tags.2.sublist (List.filter_sublist.map _)⟩ }

theorem LimitsInv.finish (t : Ticket) (r : LogRecord) : LimitsInv (s.finish t r) := by
  unfold State.finish
  split
  · exact ((h.dropTags _).dropTicket _).enterLog r ‹_›
  · exact { (h.dropTags t.number).put { t with record := some r } with }

theorem LimitsInv.settle (t : Ticket) : LimitsInv (s.settle t) := h.finish _ _

theorem LimitsInv.withQueue {q : List PayoutJob} (hq : q.length ≤ 8) : LimitsInv { s with queue := q } := { h with queue := hq }

theorem LimitsInv.setAccount (a : AccountId) (r : Account) : LimitsInv (s.setAccount a r) := { h with }

theorem LimitsInv.addResidue (x : Nat) : LimitsInv (s.addResidue x) := by
  unfold State.addResidue Config.moneyMax
  split
  · exact h
  · split
    · exact { h with residue := ‹_› }
    · exact { h with residue := Nat.le_refl _ }

theorem LimitsInv.authorised (t : Ticket) (a : Authorisation) (hroom : 0 < a.cash → s.queue.length < 8) :
    LimitsInv (s.authorised t a) := by
  have hpaid : LimitsInv (s.paidIn t a) ∧ (s.paidIn t a).queue = s.queue := by
    refine ⟨?_, by rw [State.paidIn_shape]⟩
    unfold State.paidIn
    split
    · exact h.addResidue _
    · exact h.setAccount _ _
  unfold State.authorised
  dsimp only
  split
  · exact hpaid.1.settle _
  · rename_i hcash
    refine (hpaid.1.put { t with authorisation := some a, state := .authorised }).withQueue ?_
    have hq : ((s.paidIn t a).putTicket { t with authorisation := some a, state := .authorised }).queue = s.queue := hpaid.2
    rw [List.length_append, List.length_singleton]
    exact (congrArg List.length hq).le.trans_lt (hroom (Nat.pos_of_ne_zero hcash))

theorem LimitsInv.admitWaiting (hroom : s.log.length < 64) : LimitsInv s.admitWaiting :=
  State.admitWaiting_elim (fun _ => h) (fun _ _ _ _ => { h with }) fun n rest _ r _ _ _ =>
    LimitsInv.enterLog (s := State.dropTicket n { s with waiting := rest }) { h.dropTicket n with } r hroom

theorem LimitsInv.opened (a : AccountId) (lanes : List Nat) (hroom : s.tickets.length < 16) :
    LimitsInv { s with tickets := s.tickets ++ [s.newTicket a lanes], nextNumber := nextTicketNumber s.takenNumber } := by
  obtain ⟨k, _, htaken, _⟩ := s.freeNumber_spec Config.numberSearch s.nextNumber
  have h1 : 1 ≤ s.takenNumber := by
    rw [State.takenNumber, htaken, nextTicketNumber_iterate h.nextNumber.1 h.nextNumber.2]
    omega
  exact { h with
    nextNumber := nextTicketNumber_range h1
    tickets := by rw [List.length_append, List.length_singleton]; exact hroom }

/-- A tag that is new to the list joins it while it has room (R81, R82). -/
theorem LimitsInv.acceptArrival (lane : StationLane) (c : ClassId) (o : Origin) (k : Condition) (n carried : Nat) (tag : Option Nat)
    (t : Ticket) (hnew : ∀ g, tag = some g → s.tagEntry? g = none) : LimitsInv (s.acceptArrival lane c o k n carried tag t) := by
  cases tag with
  | none =>
    rw [State.acceptArrival_untagged]
    exact h.put _
  | some g =>
    rw [State.acceptArrival_tagged]
    have hfree : ∀ e ∈ s.tags, e.tag ≠ g := by simpa [State.tagEntry?] using hnew g rfl
    refine { h.put (Ticket.countArrival lane.val _) with tags := ?_ }
    dsimp only
    split
    · refine ⟨by rw [List.length_append, List.length_singleton]; exact ‹_›, ?_⟩
      rw [List.map_append, List.map_singleton, List.nodup_append]
      refine ⟨h.tags.2, List.nodup_singleton _, fun x hx y hy hxy => ?_⟩
      obtain ⟨e, he, rfl⟩ := List.mem_map.1 hx
      exact hfree e he (hxy.trans (List.mem_singleton.1 hy))
    · exact h.tags

end

theorem insertChange_length (e : PendingChange) (es : List PendingChange) : (insertChange e es).length = es.length + 1 := by
  induction es with
  | nil => rfl
  | cons x xs ih =>
    unfold insertChange
    split
    · rw [List.length_cons, ih, List.length_cons]
    · rfl

/-- A class's new entry takes the place of its old one, or a free place (R9). -/
theorem insertChange_removeChange_length {c : ClassId} {e : PendingChange} {es : List PendingChange} (hl : es.length ≤ 8)
    (h : hasChange c es = true ∨ es.length < 8) : (insertChange e (removeChange c es)).length ≤ 8 := by
  have hle : (removeChange c es).length ≤ es.length := List.length_filter_le _ _
  rw [insertChange_length]
  rcases h with h | h
  · obtain ⟨x, hx, hc⟩ := hasChange_iff.1 h
    have hlt : (removeChange c es).length < es.length := by
      refine Nat.lt_of_le_of_ne hle fun heq => ?_
      have hsub : removeChange c es = es := List.filter_sublist.eq_of_length heq
      exact (mem_removeChange.1 (hsub.symm ▸ hx)).2 hc
    omega
  · omega

theorem limits_payout : PayoutKept LimitsInv where
  disp := fun _ _ h => { h with }
  ticket := fun _ _ _ _ _ h => h.put _
  settle := fun u _ _ h => h.settle u
  tell := fun _ _ _ h => { h with }
  time := fun _ _ h => { h with }
  check := fun _ h => { h with }
  queue := fun _ rest s hq h => h.withQueue (by
    have := h.queue
    rw [hq, List.length_cons] at this
    omega)

theorem warmKept_limits : WarmKept LimitsInv where
  loss := fun _ _ h => State.lossPhase_elim h { h with }
  change := fun _ _ _ _ he h => h.applyChange he
  close := fun _ _ _ _ _ hu h => h.of_touches (State.touches_valueTicket _ _ _) (by simp [limitFields, valuationFields])
    (.valued (State.ticket?_mem hu) rfl true)
  leave := fun _ _ _ _ h => { h with }
  fault := fun _ _ h => State.restartFault_elim (fun _ => h) fun t _ _ => { h.put t.restartFaulted with }

theorem LimitsInv.reset : LimitsInv State.reset := by
  constructor <;> decide

theorem LimitsInv.coldCut {s : State} (h : LimitsInv s) (cause : StopCause) : LimitsInv (s.coldCut cause) := by
  have hr := LimitsInv.reset
  have pick : ∀ {α : Type} {p : α → Prop} {b : Bool} {x y : α}, p x → p y → p (if b = true then x else y) := fun {_ _ b _ _} hx hy => by
    cases b
    · exact hy
    · exact hx
  exact {
    clockDay := pick (p := fun c : YardClock => c.day ≤ 65535) hr.clockDay h.clockDay
    clockSecond := pick (p := fun c : YardClock => c.second ≤ 86399) hr.clockSecond h.clockSecond
    threshold := pick (p := fun n : Nat => n ≤ 4294967295) hr.threshold h.threshold
    closeWait := pick (p := fun n : Nat => 5 ≤ n ∧ n ≤ 600) hr.closeWait h.closeWait
    nextNumber := pick (p := fun n : Nat => 1 ≤ n ∧ n ≤ 65535) hr.nextNumber h.nextNumber
    residue := pick (p := fun n : Nat => n ≤ 4294967295) hr.residue h.residue
    changes := pick (p := fun l : List PendingChange => l.length ≤ 8) hr.changes h.changes
    tickets := pick (p := fun l : List Ticket => l.length ≤ 16) hr.tickets h.tickets
    tags := pick (x := State.reset.tags) (p := fun l : List TagEntry => l.length ≤ 256 ∧ (l.map TagEntry.tag).Nodup) hr.tags h.tags
    watch := pick (p := fun l : List Nat => l.length ≤ 8 ∧ l.Nodup) hr.watch h.watch
    queue := pick (p := fun l : List PayoutJob => l.length ≤ 8) hr.queue h.queue
    log := pick (p := fun l : List LogRecord => l.length ≤ 64) hr.log h.log }

theorem exec_keeps_limits (c : Instr) (s : State) {t : State} (hs : LimitsInv s) (h : exec c s = .next t) : LimitsInv t := by
  have hI := limitsInv_reads
  have hreq : ∀ {src i n block}, request src i n block s = .next t → LimitsInv (block s).state → LimitsInv t :=
    hI.request (by simp [limitFields, replyFields]) hs
  have hpayout : PayoutEvent c → LimitsInv t := fun hc => limits_payout.exec' hc hs h
  cases c
  case openTicket => exact hreq h (openTicket_elim hs fun _ _ _ hroom => hs.opened _ _ hroom)
  case void =>
    refine hreq h (voidTicket_elim hs fun t _ _ => LimitsInv.finish (s := State.leaveClosing t.number (s.restoreTicket t)) ?_ _ _)
    rw [State.restoreTicket_eq]
    exact { hs with }
  case setLimits => exact hreq h (setLimits_elim hs fun ht hw => { hs with threshold := ht, closeWait := hw })
  case authorise =>
    exact hreq h (authorise_elim hs fun _ t _ _ _ _ _ hcash _ => hs.authorised t _ fun hpos => (hcash hpos).room)
  case revoke n =>
    have hdrop : LimitsInv (s.dropJob n) := hs.withQueue ((List.length_filter_le _ _).trans hs.queue)
    exact hreq h (revoke_elim hs (fun t _ _ _ _ => (hdrop.put { t with state := .valued, authorisation := none }).setAccount _ _)
      fun t _ _ _ => hdrop.put _)
  case resolveRetry n =>
    exact hreq h (resolveRetry_elim hs (fun t _ _ _ => hs.settle t) fun t _ _ _ hroom =>
      (hs.put _).withQueue (by rw [List.length_append, List.length_singleton]; exact hroom))
  case resolveConvert => exact hreq h (resolveConvert_elim hs fun t _ _ _ _ => (hs.setAccount _ _).settle _)
  case resolveManual => exact hreq h (resolveManual_elim hs fun t _ _ => hs.settle _)
  case takeLog =>
    refine hreq h (takeLog_elim hs fun r rest hl => ?_)
    have hroom := hs.log
    rw [hl, List.length_cons] at hroom
    exact LimitsInv.admitWaiting (s := { s with log := rest }) { hs with log := Nat.le_of_succ_le hroom } hroom
  case setClass =>
    exact hreq h (setClass_elim hs (fun c r _ _ => { hs with }) fun _ _ _ _ _ _ hfree =>
      hs.withChanges (insertChange_removeChange_length hs.changes hfree))
  case cancelChange => exact hreq h (cancelChange_elim hs fun _ => hs.withChanges ((List.length_filter_le _ _).trans hs.changes))
  case watchAdd tag =>
    refine hreq h (watchAdd_elim hs { hs with } fun hnew hroom => { hs with watch := ⟨?_, ?_⟩ })
    · rw [List.length_append, List.length_singleton]
      exact hroom
    · refine List.nodup_append.2 ⟨hs.watch.2, List.nodup_singleton _, fun x hx y hy hxy => hnew ?_⟩
      rw [← List.mem_singleton.1 hy, ← hxy]
      exact hx
  case watchList => exact hreq h { hs with }
  case watchRemove =>
    exact hreq h (watchRemove_elim hs { hs with watch := ⟨(List.length_filter_le _ _).trans hs.watch.1, hs.watch.2.filter _⟩ })
  case setTime =>
    exact hreq h (setTime_elim hs (fun hd hsec => hs.withClock hd hsec) fun hd hsec =>
      LimitsInv.applyDue (s := s.timeSet _ _) (hs.withClock hd hsec))
  case clearResidue => exact hreq h (clearResidue_elim hs { hs with residue := (Nat.sub_le _ _).trans hs.residue })
  case arrive =>
    exact hreq h (onGrantedLane_elim hs fun l => arrive_elim hs
      (fun t _ _ => State.refuseDuplicate_elim (hs.put _)
        { hs.put (Ticket.hold .duplicateTag { t with duplicates := satAdd 255 t.duplicates 1 }) with })
      fun t _ _ _ _ _ _ _ hnew => hs.acceptArrival _ _ _ _ _ _ _ t hnew)
  case clockAdvance =>
    change execClockAdvance s = _ at h
    unfold execClockAdvance at h
    split at h
    · refine retainedEvent_elim h hs fun _ => { LimitsInv.applyDue (LimitsInv.tickClock (s := s.fullSecond) ?_) with }
      obtain ⟨sub, anchor, hc⟩ := s.fullSecond_clock
      exact hs.clockMoved s.touches_fullSecond (by simp [limitFields, timeFields]) (by rw [hc]) (by rw [hc])
    · exact event_elim h hs fun _ => LimitsInv.tickClock (hs.clockMoved s.touches_crystalSecond (by simp [limitFields]) rfl rfl)
  case crystalLoss cycles after =>
    change execCrystalLoss cycles after s = _ at h
    exact event_elim h hs fun _ => { hs with }
  case crystalReturn after =>
    change execCrystalReturn after s = _ at h
    exact event_elim h hs fun _ => { hs with }
  case backupCrystalStop cycles =>
    change execBackupCrystalStop cycles s = _ at h
    exact event_elim h hs fun _ => { hs with }
  case powerStop cause =>
    change execPowerStop cause s = _ at h
    unfold execPowerStop at h
    split at h
    · cases h
      exact { hs with }
    · exact event_elim h hs fun _ => { hs with }
  case warmStart =>
    exact warmKept_limits.exec h hs (fun _ _ => { hs with }) (fun _ _ hu => { hu with }) fun _ _ _ hu => { hu with }
  case coldStart found cut =>
    change execColdStart found cut s = _ at h
    refine event_elim h hs fun _ => ?_
    cases cut with
    | none => exact { LimitsInv.reset with }
    | some cause => exact hs.coldCut cause
  case jobTake => exact hpayout (.jobTake _)
  case noteVendEnd => exact hpayout (.noteVendEnd _)
  case noteExitStart => exact hpayout (.noteExitStart _)
  case noteExitEnd => exact hpayout (.noteExitEnd _ _)
  case noteJamTimeout => exact hpayout .noteJamTimeout
  case coinExitStart => exact hpayout (.coinExitStart _)
  case coinGapTimeout => exact hpayout .coinGapTimeout
  case coinEmptyAsserted => exact hpayout (.coinEmptyAsserted _)
  case runOnEnd => exact hpayout .runOnEnd
  all_goals
    refine hs.of_touches (exec_touches h) ?_ (exec_sameTable h fun hc => ?_)
    · simp [Instr.source?, limitFields, replyFields, timeFields, valuationFields]
    · cases hc with | payout hp => cases hp

theorem LimitsInv.step {s t : State} (hs : LimitsInv s) (h : step s = .next t) : LimitsInv t :=
  limitsInv_reads.step (by simp [limitFields, timeFields]) (fun c s => exec_keeps_limits c s) hs h

/-- Settles O31: sizes and settings go by the checks each request begins with; a new number is one that nothing holds; and every
change of the retained content seals the check field. -/
theorem limitsAndNumbersKept : Obligations.LimitsAndNumbersKept :=
  ⟨fun _ _ => LimitsInv.step, fun _ _ => NumbersInv.step, fun _ _ => CheckInv.step⟩

end Sys2Proof.Machine
end

section
/-! SUPPORT. Tally lines, counters, attachment lists and hold sets (R41, R55, R74): what a placement, a counted arrival and a valuation
keep of them. -/

namespace Sys2Proof.Machine

/-! ### Lines -/

theorem Line.fresh_ok (c : ClassId) : (Line.fresh c).Ok := by constructor <;> exact Nat.zero_le _

theorem Ticket.lineFor_cls (c : ClassId) (t : Ticket) : (t.lineFor c).cls = c := by
  unfold Ticket.lineFor
  cases hl : t.line? c with
  | none => rfl
  | some l =>
    unfold Ticket.line? at hl
    simpa using List.find?_some hl

theorem Ticket.TallyOk.lineFor {t : Ticket} (h : t.TallyOk) (c : ClassId) : (t.lineFor c).Ok := by
  unfold Ticket.lineFor
  cases hl : t.line? c with
  | none => exact Line.fresh_ok c
  | some l => exact h.lines l (List.mem_of_find?_eq_some hl)

/-- The allowance of a class record in its ranges is at most 24 bottles an item (R1, R77). -/
theorem ClassRecord.Ok.allowance_le {r : ClassRecord} (h : r.Ok) (n : Nat) : allowance r n ≤ 24 * n := by
  unfold allowance
  split
  · have := Nat.mul_le_mul_left n (h.crate ‹_›).1
    omega
  · exact Nat.zero_le _

/-- A placement within its cell keeps a line in its limits (R74, R76 to R78). -/
theorem Line.Ok.placed {l : Line} (h : l.Ok) {r : ClassRecord} (hr : r.Ok) {o : Origin} {k : Condition} {n : Nat}
    (hcell : l.cell o k + n ≤ 9999) (carried : Nat) :
    ({ l.addItems o k n with
      bottles := (l.addItems o k n).bottles + bottlesCounted r n carried
      clamps := if isClamped r n carried then satAdd 255 (l.addItems o k n).clamps 1 else (l.addItems o k n).clamps } : Line).Ok := by
  have hb : bottlesCounted r n carried ≤ 24 * n := (Nat.min_le_right _ _).trans (hr.allowance_le n)
  have hbottles := h.bottles
  have hclamps : (if isClamped r n carried then satAdd 255 (l.addItems o k n).clamps 1 else (l.addItems o k n).clamps) ≤ 255 := by
    split
    · exact satAdd_le _ _ _
    · rw [Line.addItems_clamps]
      exact h.clamps
  cases o <;> cases k
  · exact { h with good := hcell, clamps := hclamps, bottles := by simp only [Line.addItems]; omega }
  · exact { h with damaged := hcell, clamps := hclamps, bottles := by simp only [Line.addItems]; omega }
  · exact { h with foreignGood := hcell, clamps := hclamps, bottles := by simp only [Line.addItems]; omega }
  · exact { h with foreignDamaged := hcell, clamps := hclamps, bottles := by simp only [Line.addItems]; omega }

/-! ### One ticket -/

theorem Ticket.TallyOk.putLine {t : Ticket} (h : t.TallyOk) {l : Line} (hl : l.Ok) (hfull : t.linesFull l.cls = false) :
    ({ t with lines := putLine l t.lines } : Ticket).TallyOk := by
  by_cases hm : l.cls ∈ t.lines.map (·.cls)
  · have hput := putLine_of_mem h.oneLinePerClass hm
    refine { h with lines := fun x hx => ?_, oneLinePerClass := ?_, lineCount := ?_ }
    · dsimp only at hx
      rw [hput] at hx
      obtain ⟨y, hy, rfl⟩ := List.mem_map.1 hx
      split
      · exact hl
      · exact h.lines y hy
    · dsimp only
      have hsame : (t.lines.map fun x => if x.cls = l.cls then l else x).map (·.cls) = t.lines.map (·.cls) := by
        rw [List.map_map]
        refine List.map_congr_left fun x _ => ?_
        simp only [Function.comp_apply]
        split
        · exact Eq.symm ‹_›
        · rfl
      rw [hput, hsame]
      exact h.oneLinePerClass
    · dsimp only
      rw [hput, List.length_map]
      exact h.lineCount
  · have hput := putLine_of_not_mem hm
    have hroom : t.lines.length < 8 := by
      rcases Ticket.not_linesFull_iff.1 (Bool.eq_false_iff.1 hfull) with ⟨x, hx, hc⟩ | hroom
      · exact absurd (List.mem_map.2 ⟨x, hx, hc⟩) hm
      · exact hroom
    refine { h with lines := fun x hx => ?_, oneLinePerClass := ?_, lineCount := ?_ }
    · dsimp only at hx
      rw [hput] at hx
      rcases List.mem_append.1 hx with hx | hx
      · exact h.lines x hx
      · exact List.mem_singleton.1 hx ▸ hl
    · dsimp only
      rw [hput, List.map_append, List.nodup_append]
      refine ⟨h.oneLinePerClass, List.nodup_singleton _, fun x hx y hy hxy => hm ?_⟩
      have hxl : x = l.cls := hxy.trans (List.mem_singleton.1 hy)
      exact hxl ▸ hx
    · dsimp only
      rw [hput, List.length_append, List.length_singleton]
      exact hroom

theorem Ticket.TallyOk.placeItems {t : Ticket} (h : t.TallyOk) {r : ClassRecord} (hr : r.Ok) {c : ClassId} {o : Origin}
    {k : Condition} {n : Nat} (hfull : t.linesFull c = false) (hcell : t.cellFull c o k n = false) (carried : Nat) :
    (t.placeItems r c o k n carried).TallyOk := by
  have hfit : (t.lineFor c).cell o k + n ≤ 9999 := Nat.le_of_not_lt fun hlt => by
    rw [Ticket.cellFull_iff.2 hlt] at hcell
    cases hcell
  refine h.putLine ((h.lineFor c).placed hr hfit carried) ?_
  dsimp only
  rw [Line.addItems_cls, Ticket.lineFor_cls]
  exact hfull

theorem Ticket.TallyOk.countArrival {t : Ticket} (h : t.TallyOk) (lane : Nat) : (t.countArrival lane).TallyOk :=
  { h with
    attachments := by simpa [Ticket.countArrival] using h.attachments
    taken := fun e he => by
      obtain ⟨x, hx, rfl⟩ := List.mem_map.1 he
      split
      · exact satAdd_le _ _ _
      · exact h.taken x hx }

/-- Entries that leave an attachment list leave it within its limits. -/
theorem Ticket.TallyOk.fewer {t : Ticket} (h : t.TallyOk) {es : List Attachment} (hs : es.Sublist t.attachments) :
    ({ t with attachments := es } : Ticket).TallyOk :=
  { h with attachments := hs.length_le.trans h.attachments, taken := fun e he => h.taken e (hs.subset he) }

theorem Ticket.TallyOk.held {t : Ticket} (h : t.TallyOk) {hs : List HoldReason} (hn : hs.Nodup) :
    ({ t with holds := hs } : Ticket).TallyOk := { h with holds := hn }

theorem foldl_addHold_nodup {rs set : List HoldReason} (h : set.Nodup) : (rs.foldl (fun h r => addHold r h) set).Nodup := by
  induction rs generalizing set with
  | nil => exact h
  | cons r rs ih => exact ih (addHold_nodup r set)

theorem Ticket.TallyOk.valued {t : Ticket} (h : t.TallyOk) (forced : Bool) (s : State) : (s.valuedTicket forced t).TallyOk :=
  { h with attachments := Nat.zero_le _, taken := fun _ he => (nomatch he), holds := foldl_addHold_nodup h.holds }

theorem Ticket.TallyOk.reopened {t : Ticket} (h : t.TallyOk) : t.reopened.TallyOk :=
  { h with attachments := Nat.zero_le _, taken := fun _ he => (nomatch he), holds := dropHolds_nodup h.holds }

/-! ### The table -/

theorem tallyInv_reads : Reads TallyInv [.tickets] := fun _ _ h hs =>
  fun u hu => hs u ((show _ = _ from h .tickets (by simp)) ▸ hu)

section

variable {s : State} (h : TallyInv s)

include h

theorem TallyInv.put {u : Ticket} (hu : u.TallyOk) : TallyInv (s.putTicket u) := fun w hw => by
  rcases State.mem_putTicket hw with rfl | ⟨hw, _⟩
  · exact hu
  · exact h w hw

theorem TallyInv.valueTicket {u : Ticket} (hu : u.TallyOk) (forced : Bool) : TallyInv (s.valueTicket forced u) := fun w hw =>
  h.put (hu.valued forced s) w (State.valueTicket_tickets_eq forced u s ▸ hw)

theorem TallyInv.detachLane {u : Ticket} (hu : u.TallyOk) (lane : Nat) : TallyInv (s.detachLane lane u) :=
  have hd : (u.detach lane).TallyOk := hu.fewer List.filter_sublist
  State.detachLane_elim (fun _ => h.valueTicket hd false) (h.put hd)

theorem TallyInv.finish {u : Ticket} (hu : u.TallyOk) (r : LogRecord) : TallyInv (s.finish u r) := fun w hw => by
  rcases State.mem_finish hw with rfl | ⟨hw, _⟩
  · exact { hu with }
  · exact h w hw

theorem TallyInv.settle {u : Ticket} (hu : u.TallyOk) : TallyInv (s.settle u) :=
  h.finish (u := s.settledForm u) { hu with } _

theorem TallyInv.authorised {u : Ticket} (hu : u.TallyOk) (a : Authorisation) : TallyInv (s.authorised u a) := by
  have hpaid : TallyInv (s.paidIn u a) := fun w hw => h w (State.paidIn_tickets u a s ▸ hw)
  have hset : TallyInv ((s.paidIn u a).settle { u with authorisation := some a }) :=
    hpaid.settle (u := { u with authorisation := some a }) { hu with }
  have hput : TallyInv ((s.paidIn u a).putTicket { u with authorisation := some a, state := .authorised }) := hpaid.put { hu with }
  unfold State.authorised
  dsimp only
  split
  · exact hset
  · exact hput

theorem TallyInv.acceptArrival (hc : ∀ c : ClassId, s.classes[c].Ok) (lane : StationLane) {c : ClassId} {o : Origin} {k : Condition}
    {n : Nat} (carried : Nat) (tag : Option Nat) {t : Ticket} (ht : t.TallyOk) (hfull : t.linesFull c = false)
    (hcell : t.cellFull c o k n = false) : TallyInv (s.acceptArrival lane c o k n carried tag t) := by
  have hp := ht.placeItems (hc c) hfull hcell carried
  cases tag with
  | none =>
    rw [State.acceptArrival_untagged]
    refine h.put (Ticket.TallyOk.countArrival ?_ _)
    refine { hp with untagged := ?_ }
    dsimp only
    split
    · exact Nat.min_le_left _ _
    · exact ht.untagged
  | some g =>
    rw [State.acceptArrival_tagged]
    refine h.put (Ticket.TallyOk.countArrival ?_ _)
    refine { hp with unrecorded := ?_, holds := ?_ }
    all_goals
      dsimp only
      split
    · exact addHold_nodup _ _
    · exact ht.holds
    · exact Nat.min_le_left _ _
    · exact ht.unrecorded

theorem TallyInv.peye (hc : ∀ c : ClassId, s.classes[c].Ok) (i : PulseIx) (blocked : Bool) : TallyInv (s.peye i blocked) := by
  have harrival : ∀ u : State, u.tickets = s.tickets → u.classes = s.classes → TallyInv (u.pulseArrival i) := fun u ht hcls => by
    have hu : TallyInv u := fun w hw => h w (ht ▸ hw)
    unfold State.pulseArrival
    dsimp only
    split
    · exact hu
    · rename_i t hf
      split
      · exact hu
      · rename_i hno
        simp only [Bool.or_eq_true, not_or, Bool.not_eq_true] at hno
        have hok : u.classes[u.pulse[i].cls].Ok := hcls ▸ hc _
        exact hu.put (((hu t (State.feeding_some hf).1).placeItems hok hno.1 hno.2 _).countArrival _)
  have hedge : ∀ u : State, u.tickets = s.tickets → u.classes = s.classes → TallyInv (u.countingEdge i) := fun u ht hcls => by
    unfold State.countingEdge
    dsimp only
    split
    · exact harrival _ ht hcls
    · exact fun w hw => h w (ht ▸ hw)
  unfold State.peye
  dsimp only
  split
  · exact h
  · split
    · exact hedge _ rfl rfl
    · exact h

theorem TallyInv.admitWaiting : TallyInv s.admitWaiting :=
  State.admitWaiting_elim (fun _ => h) (fun _ _ _ _ => h) fun n rest _ r _ _ _ w hw => by
    rw [State.enterLog_tickets] at hw
    exact h w (State.mem_dropTicket (s := { s with waiting := rest }).1 hw).1

end

theorem tally_payout : PayoutKept TallyInv where
  disp := fun _ _ h => h
  ticket := fun u _ _ _ hu h => h.put { h u (State.ticket?_mem hu) with }
  settle := fun u _ hu h => h.settle (h u (State.ticket?_mem hu))
  tell := fun _ _ _ h => h
  time := fun _ _ h => h
  check := fun _ h => h
  queue := fun _ _ _ _ h => h

theorem warmKept_tally : WarmKept TallyInv where
  loss := fun _ _ h => State.lossPhase_elim h h
  change := fun _ _ _ _ _ h => by
    rw [State.applyChange_shape]
    exact h
  close := fun _ u _ _ _ hu h => h.valueTicket (u := { u with attachments := [] })
    ((h u (State.ticket?_mem hu)).fewer (List.nil_sublist _)) true
  leave := fun _ _ _ _ h => h
  fault := fun _ _ h => State.restartFault_elim (fun _ => h) fun t ht _ => h.put (u := t.restartFaulted) { h t ht with }

theorem newTicket_tallyOk (a : AccountId) {lanes : List Nat} (hl : lanesFit lanes = true) (s : State) :
    (s.newTicket a lanes).TallyOk where
  lines := fun _ hx => (nomatch hx)
  oneLinePerClass := List.nodup_nil
  lineCount := Nat.zero_le _
  attachments := by
    have := lanesFit_iff.1 hl
    simp only [State.newTicket, List.length_map]
    omega
  taken := fun e he => by
    obtain ⟨x, _, rfl⟩ := List.mem_map.1 he
    exact Nat.zero_le _
  holds := List.nodup_nil
  duplicates := Nat.zero_le _
  untagged := Nat.zero_le _
  unrecorded := Nat.zero_le _

theorem exec_keeps_tally (c : Instr) (s : State) {t : State} (hcls : ScheduleInv s) (hs : TallyInv s)
    (h : exec c s = .next t) : TallyInv t := by
  have hI := tallyInv_reads
  have hreq : ∀ {src i n block}, request src i n block s = .next t → TallyInv (block s).state → TallyInv t :=
    hI.request (by simp [replyFields]) hs
  have hpayout : PayoutEvent c → TallyInv t := fun hc => tally_payout.exec' hc hs h
  have hok : ∀ {n u}, s.ticket? n = some u → u.TallyOk := fun hu => hs _ (State.ticket?_mem hu)
  have hfed : ∀ {lane u}, s.feeding lane = some u → u.TallyOk := fun hu => hs _ (State.feeding_some hu).1
  cases c
  case openTicket a lanes =>
    refine hreq h (openTicket_elim hs fun _ hl _ _ u hu => ?_)
    rcases List.mem_append.1 hu with hu | hu
    · exact hs u hu
    · exact List.mem_singleton.1 hu ▸ newTicket_tallyOk a hl s
  case attachLane n lane =>
    refine hreq h (attachLane_elim hs fun t ht _ _ _ hroom => hs.put { hok ht with attachments := ?_, taken := fun e he => ?_ })
    · dsimp only
      rw [List.length_append, List.length_singleton]
      exact hroom
    · rcases List.mem_append.1 he with he | he
      · exact (hok ht).taken e he
      · rw [List.mem_singleton.1 he]
        exact Nat.zero_le _
  case detachLane => exact hreq h (detachLane_elim hs fun _ ht _ => hs.detachLane (hok ht) _)
  case closeTicket =>
    have hd : ∀ {n t}, s.ticket? n = some t → t.dropPulseLanes.TallyOk := fun ht => (hok ht).fewer List.filter_sublist
    exact hreq h (closeTicket_elim hs
      (fun t ht _ => hs.put (u := { t.dropPulseLanes with state := .closing, closeDeadline := _ }) { hd ht with })
      fun t ht _ => hs.valueTicket (hd ht) false)
  case reopen =>
    refine hreq h (reopen_elim hs fun t ht _ => TallyInv.put (s := s.restoreTicket t) ?_ (hok ht).reopened)
    rw [State.restoreTicket_eq]
    exact hs
  case void =>
    refine hreq h (voidTicket_elim hs fun t ht _ => TallyInv.finish (s := State.leaveClosing t.number (s.restoreTicket t)) ?_ ?_ _)
    · rw [State.restoreTicket_eq]
      exact hs
    · exact { (hok ht).fewer (List.nil_sublist _) with }
  case release => exact hreq h (release_elim hs fun t _ ht _ => hs.put ((hok ht).held (dropHolds_nodup (hok ht).holds)))
  case authorise => exact hreq h (authorise_elim hs fun _ t ht _ _ _ _ _ _ => hs.authorised (hok ht) _)
  case revoke =>
    exact hreq h (revoke_elim hs
      (fun t ht _ _ _ => hs.put (u := { t with state := .valued, authorisation := none }) { hok ht with })
      fun t ht _ _ => hs.put (u := { t with state := .payFault }) { hok ht with })
  case resolveRetry =>
    exact hreq h (resolveRetry_elim hs (fun t ht _ _ => hs.settle (hok ht)) fun t ht _ _ _ =>
      hs.put (u := Ticket.withProgress _ { t with state := .authorised }) { hok ht with })
  case resolveConvert =>
    exact hreq h (resolveConvert_elim hs fun t ht _ _ _ => TallyInv.settle (s := s.setAccount _ _) hs { hok ht with })
  case resolveManual => exact hreq h (resolveManual_elim hs fun t ht _ => hs.settle { hok ht with })
  case takeLog => exact hreq h (takeLog_elim hs fun r rest _ => TallyInv.admitWaiting (s := { s with log := rest }) hs)
  case assignStrays =>
    exact hreq h (assignStrays_elim hs fun i t ht _ _ hfull hcell =>
      TallyInv.put (s := s.setPulse i _) hs ((hok ht).placeItems (hcls.classes _) hfull hcell _))
  case arrive =>
    refine hreq h (onGrantedLane_elim hs fun l => arrive_elim hs (fun t _ ht => ?_) fun t c o k ht _ hfull hcell _ =>
      hs.acceptArrival hcls.classes l _ _ (hfed ht) hfull hcell)
    have hd : ({ t with duplicates := satAdd 255 t.duplicates 1 } : Ticket).TallyOk := { hfed ht with duplicates := satAdd_le _ _ _ }
    exact State.refuseDuplicate_elim (hs.put hd) (hs.put (hd.held (addHold_nodup _ _)))
  case laneDone => exact hreq h (onGrantedLane_elim hs fun l => laneDone_elim hs fun _ ht => hs.detachLane (hfed ht) _)
  case closeWaitExpiry n =>
    change execCloseWaitExpiry n s = _ at h
    unfold execCloseWaitExpiry at h
    split at h
    · rename_i u hu
      exact retainedEvent_elim h hs fun _ => TallyInv.valueTicket (s := s.reach _) (u := { u with attachments := [] }) hs
        ((hok hu).fewer (List.nil_sublist _)) true
    · exact done_elim h hs
  case peyeTransition i blocked after =>
    change execPeyeTransition i blocked after s = _ at h
    refine retainedEvent_elim h hs fun _ => ?_
    have ht := s.touches_laneElapse i after
    have hl : TallyInv (s.laneElapse i after) := hI.kept ht (by simp [timeFields]) hs
    have hc : (s.laneElapse i after).classes = s.classes := ht .classes (by simp [timeFields])
    exact hl.peye (fun c => hc ▸ hcls.classes c) i blocked
  case warmStart =>
    exact warmKept_tally.exec h hs (fun _ _ => hs) (fun _ _ hu => hu) fun _ _ _ hu => hu
  case coldStart found cut =>
    change execColdStart found cut s = _ at h
    refine event_elim h hs fun _ => ?_
    cases cut with
    | none => exact fun _ hu => (nomatch hu)
    | some cause =>
      intro u hu
      have ht : (s.coldCut cause).tickets = if Config.clearedByCut s.draws 3 = true then [] else s.tickets := rfl
      change u ∈ (s.coldCut cause).tickets at hu
      rw [ht] at hu
      split at hu
      · cases hu
      · exact hs u hu
  case jobTake => exact hpayout (.jobTake _)
  case noteVendEnd => exact hpayout (.noteVendEnd _)
  case noteExitStart => exact hpayout (.noteExitStart _)
  case noteExitEnd => exact hpayout (.noteExitEnd _ _)
  case noteJamTimeout => exact hpayout .noteJamTimeout
  case coinExitStart => exact hpayout (.coinExitStart _)
  case coinGapTimeout => exact hpayout .coinGapTimeout
  case coinEmptyAsserted => exact hpayout (.coinEmptyAsserted _)
  case runOnEnd => exact hpayout .runOnEnd
  all_goals exact hI.exec hs h (by simp [Instr.source?, replyFields, timeFields, scheduleFields])

/-- Settles O30: a placement is checked against its cell and the line list, and its class's record bounds the bottles; every other
change of a ticket takes entries away or saturates. -/
theorem tallyInvariantKept : Obligations.TallyInvariantKept := fun s _ hcls hs h =>
  step_elim h hs (fun _ => hs) fun c rest hx =>
    exec_keeps_tally c { s with pending := rest } ⟨hcls.classes, hcls.changes, hcls.onePerClass, hcls.inOrder⟩ hs hx

end Sys2Proof.Machine
end

section
/-! SUPPORT. The account table (R18, R19, R24): what a reservation, a restore, a credit post and the account requests keep of its
records, and why a ticket never names an UNUSED account. -/

namespace Sys2Proof.Machine

/-! ### One account -/

/-- An account record with its counts and balances in their ranges (R18). -/
structure Account.InRange (a : Account) : Prop where
  counts : ∀ c : ClassId, a.outstanding[c] ≤ 65535
  credit : a.credit ≤ 4294967295
  customer : a.customer ≤ 4294967295

theorem Account.empty_inRange : Account.empty.InRange where
  counts := fun c => by simp [Account.empty]
  credit := Nat.zero_le _
  customer := Nat.zero_le _

theorem Account.InRange.setCount {a : Account} (h : a.InRange) (c : ClassId) {n : Nat} (hn : n ≤ 65535) : (a.setCount c n).InRange where
  counts := fun d => by
    rw [Account.setCount_outstanding]
    split
    · exact hn
    · exact h.counts d
  credit := h.credit
  customer := h.customer

theorem Account.InRange.grow {a : Account} (h : a.InRange) (c : ClassId) (n : Nat) : (a.grow c n).InRange := by
  rw [Account.grow_eq]
  have hc := h.setCount c (n := min 65535 (a.outstanding[c] + n)) (Nat.min_le_left _ _)
  exact ⟨hc.counts, hc.credit, hc.customer⟩

theorem Account.grow_state (c : ClassId) (n : Nat) (a : Account) : (a.grow c n).state = a.state := by
  rw [Account.grow_eq]
  rfl

theorem Account.InRange.reserveAll {a : Account} (h : a.InRange) (rs : List (ClassId × Nat)) :
    (reserveAll rs a).InRange ∧ (reserveAll rs a).state = a.state := by
  induction rs generalizing a with
  | nil => exact ⟨h, rfl⟩
  | cons p rs ih =>
    obtain ⟨hr, hs⟩ := ih (h.setCount p.1 (n := a.outstanding[p.1] - p.2) ((Nat.sub_le _ _).trans (h.counts _)))
    exact ⟨hr, hs⟩

theorem Account.InRange.restoreAll {a : Account} (h : a.InRange) (rs : List (ClassId × Nat)) :
    (restoreAll rs a).InRange ∧ (restoreAll rs a).state = a.state := by
  induction rs generalizing a with
  | nil => exact ⟨h, rfl⟩
  | cons p rs ih =>
    obtain ⟨hr, hs⟩ := ih (h.grow p.1 p.2)
    exact ⟨hr, hs.trans (Account.grow_state _ _ _)⟩

theorem Account.InRange.post {a : Account} (h : a.InRange) {x : Nat} (hx : a.credit + x ≤ 4294967295) : (a.post x).InRange :=
  { h with credit := hx }

theorem Account.InRange.debit {a : Account} (h : a.InRange) (x : Nat) : (a.debit x).InRange :=
  { h with credit := (Nat.sub_le _ _).trans h.credit }

/-! ### The table of accounts -/

theorem State.setAccount_at (a b : AccountId) (r : Account) (s : State) :
    (s.setAccount a r).accounts[b] = if b = a then r else s.accounts[b] := by
  by_cases h : b = a
  · subst h
    simp
  · have : a.val ≠ b.val := fun e => h (Fin.ext e.symm)
    simp [h, Vector.getElem_set_ne, this]

theorem accountsInv_reads : Reads AccountsInv [.accounts, .tickets, .marker] := by
  intro s t h hs
  have ha : t.accounts = s.accounts := h .accounts (by simp)
  have ht : t.tickets = s.tickets := h .tickets (by simp)
  have hm : t.marker = s.marker := h .marker (by simp)
  exact ⟨ha ▸ hs.counts, ha ▸ hs.credit, ha ▸ hs.customer, ha ▸ hs.walkIn, hm ▸ ha ▸ hs.unused, hm ▸ ha ▸ ht ▸ hs.named⟩

theorem AccountsInv.inRange {s : State} (h : AccountsInv s) (a : AccountId) : s.accounts[a].InRange :=
  ⟨h.counts a, h.credit a, h.customer a⟩

/-- The tickets name accounts that are made, whichever operation left them. -/
theorem AccountsInv.withTickets {s t : State} (h : AccountsInv s) (ha : t.accounts = s.accounts) (hm : t.marker = s.marker)
    (ht : ∀ u ∈ t.tickets, ∃ w ∈ s.tickets, u.account = w.account) : AccountsInv t where
  counts := ha ▸ h.counts
  credit := ha ▸ h.credit
  customer := ha ▸ h.customer
  walkIn := ha ▸ h.walkIn
  unused := hm ▸ ha ▸ h.unused
  named := fun hv u hu => by
    obtain ⟨w, hw, he⟩ := ht u hu
    have hmade : ∀ a : AccountId, a = w.account → s.accounts[a].state ≠ .unused := by
      rintro _ rfl
      exact h.named (hm ▸ hv) w hw
    rw [ha]
    exact hmade _ he

theorem AccountsInv.sameTable {s t : State} (h : AccountsInv s) (ht : s.SameTable t) (ha : t.accounts = s.accounts)
    (hm : t.marker = s.marker) : AccountsInv t :=
  h.withTickets ha hm fun u hu => by
    obtain ⟨w, hw, hk⟩ := ht.each u hu
    exact ⟨w, hw, congrArg (·.2.1) hk⟩

theorem AccountsInv.put {s : State} (h : AccountsInv s) {u w : Ticket} (hw : w ∈ s.tickets) (hk : u.account = w.account) :
    AccountsInv (s.putTicket u) :=
  h.withTickets rfl rfl fun v hv => by
    rcases State.mem_putTicket hv with rfl | ⟨hv, _⟩
    · exact ⟨w, hw, hk⟩
    · exact ⟨v, hv, rfl⟩

theorem AccountsInv.finish {s : State} (h : AccountsInv s) {u w : Ticket} (hw : w ∈ s.tickets) (hk : u.account = w.account)
    (r : LogRecord) : AccountsInv (s.finish u r) :=
  h.withTickets (State.finish_accounts _ _ _) (State.finish_marker _ _ _) fun v hv => by
    rcases State.mem_finish hv with rfl | ⟨hv, _⟩
    · exact ⟨w, hw, hk⟩
    · exact ⟨v, hv, rfl⟩

theorem AccountsInv.settle {s : State} (h : AccountsInv s) {u w : Ticket} (hw : w ∈ s.tickets) (hk : u.account = w.account) :
    AccountsInv (s.settle u) := h.finish (u := s.settledForm u) hw hk _

/-- A record that takes an account's place: an UNUSED one is empty and no ticket names it. -/
theorem AccountsInv.setAccount {s : State} (h : AccountsInv s) {a : AccountId} (ha : a.val ≠ 0) {r : Account} (hr : r.InRange)
    (hu : s.marker = .valid → r.state = .unused → r = Account.empty ∧ ∀ t ∈ s.tickets, t.account ≠ a) :
    AccountsInv (s.setAccount a r) where
  counts := fun b c => by
    have hb : ((s.setAccount a r).accounts[b]).InRange := by
      rw [State.setAccount_at]
      split
      · exact hr
      · exact h.inRange b
    exact hb.counts c
  credit := fun b => by
    rw [State.setAccount_at]
    split
    · exact hr.credit
    · exact h.credit b
  customer := fun b => by
    rw [State.setAccount_at]
    split
    · exact hr.customer
    · exact h.customer b
  walkIn := by
    have h0 : (0 : AccountId) ≠ a := fun e => ha (e ▸ rfl)
    rw [State.setAccount_at, if_neg h0]
    exact h.walkIn
  unused := fun hm b => by
    rw [State.setAccount_at]
    split
    · exact fun hs => (hu hm hs).1
    · exact h.unused hm b
  named := fun hm t ht => by
    rw [State.setAccount_at]
    split
    · exact fun hs => (hu hm hs).2 t ht ‹_›
    · exact h.named hm t ht

/-- The same for a record of an account that stays made. -/
theorem AccountsInv.setMade {s : State} (h : AccountsInv s) {a : AccountId} (ha : a.val ≠ 0) {r : Account} (hr : r.InRange)
    (hu : s.marker = .valid → r.state ≠ .unused) : AccountsInv (s.setAccount a r) :=
  h.setAccount ha hr fun hm hs => absurd hs (hu hm)

theorem State.setAccount_same (a : AccountId) (s : State) : s.setAccount a s.accounts[a] = s := by
  unfold State.setAccount
  rw [show s.accounts.set a.val s.accounts[a] a.isLt = s.accounts from Vector.set_getElem_self a.isLt]

/-- An account that a ticket of the table names is made, and its record may change with its state kept (R24). -/
theorem AccountsInv.setNamed {s : State} (h : AccountsInv s) {w : Ticket} (hw : w ∈ s.tickets) (ha : w.account.val ≠ 0) {r : Account}
    (hr : r.InRange) (hs : r.state = s.accounts[w.account].state) : AccountsInv (s.setAccount w.account r) :=
  h.setMade ha hr fun hm => hs ▸ h.named hm w hw

theorem AccountsInv.valueTicket {s : State} (h : AccountsInv s) {u w : Ticket} (hw : w ∈ s.tickets) (hn : u.account = w.account)
    (forced : Bool) : AccountsInv (s.valueTicket forced u) := by
  have hput : AccountsInv (s.putTicket (s.valuedTicket forced u)) := h.put hw hn
  have hset : AccountsInv ((s.putTicket (s.valuedTicket forced u)).setAccount u.account (if u.account.val = 0 then s.accounts[u.account]
      else reserveAll (u.byClass ((s.ticketFigures u).map (reservedBy u.account))) s.accounts[u.account])) := by
    split
    · have := State.setAccount_same u.account (s.putTicket (s.valuedTicket forced u))
      exact this.symm ▸ hput
    · rename_i ha
      obtain ⟨hr, hs⟩ := (h.inRange u.account).reserveAll (u.byClass ((s.ticketFigures u).map (reservedBy u.account)))
      refine hput.setMade ha hr fun hm => hs ▸ ?_
      rw [hn]
      exact h.named hm w hw
  refine accountsInv_reads _ _ (fun f hf => ?_) hset
  simp only [List.mem_cons, List.not_mem_nil, or_false] at hf
  rcases hf with rfl | rfl | rfl
  · exact State.valueTicket_accounts _ _ _
  · exact State.valueTicket_tickets_eq _ _ _
  · exact State.valueTicket_marker _ _ _

theorem AccountsInv.detachLane {s : State} (h : AccountsInv s) {w : Ticket} (hw : w ∈ s.tickets) (lane : Nat) :
    AccountsInv (s.detachLane lane w) :=
  State.detachLane_elim (fun _ => h.valueTicket (u := w.detach lane) hw rfl false) (h.put hw rfl)

theorem AccountsInv.restoreTicket {s : State} (h : AccountsInv s) {w : Ticket} (hw : w ∈ s.tickets) : AccountsInv (s.restoreTicket w) := by
  unfold State.restoreTicket
  split
  · exact h
  · split
    · exact h
    · obtain ⟨hr, hs⟩ := (h.inRange w.account).restoreAll (w.byClass _)
      exact h.setNamed hw ‹_› hr hs

theorem AccountsInv.paidIn {s : State} (h : AccountsInv s) {w : Ticket} (hw : w ∈ s.tickets) (a : Authorisation)
    (hfit : w.account.val ≠ 0 → s.accounts[w.account].credit + (w.total - a.cash) ≤ 4294967295) : AccountsInv (s.paidIn w a) := by
  unfold State.paidIn
  split
  · unfold State.addResidue
    split
    · exact h
    · split
      · exact h.withTickets rfl rfl fun u hu => ⟨u, hu, rfl⟩
      · exact h.withTickets rfl rfl fun u hu => ⟨u, hu, rfl⟩
  · rename_i ha
    exact h.setNamed hw ha ((h.inRange _).post (hfit ha)) rfl

theorem AccountsInv.authorised {s : State} (h : AccountsInv s) {w : Ticket} (hw : w ∈ s.tickets) (a : Authorisation)
    (hfit : w.account.val ≠ 0 → s.accounts[w.account].credit + (w.total - a.cash) ≤ 4294967295) : AccountsInv (s.authorised w a) := by
  have hpaid := h.paidIn hw a hfit
  have hmem : w ∈ (s.paidIn w a).tickets := by
    rw [State.paidIn_tickets]
    exact hw
  have hset := hpaid.settle (u := { w with authorisation := some a }) hmem rfl
  have hput := hpaid.put (u := { w with authorisation := some a, state := .authorised }) hmem rfl
  unfold State.authorised
  dsimp only
  split
  · exact hset
  · exact hput.withTickets rfl rfl fun u hu => ⟨u, hu, rfl⟩

theorem AccountsInv.admitWaiting {s : State} (h : AccountsInv s) : AccountsInv s.admitWaiting :=
  State.admitWaiting_elim (fun _ => h) (fun _ _ _ _ => h.withTickets rfl rfl fun u hu => ⟨u, hu, rfl⟩) fun n rest _ r _ _ _ =>
    h.withTickets (State.enterLog_accounts _ _) (State.enterLog_marker _ _) fun u hu => by
      rw [State.enterLog_tickets] at hu
      exact ⟨u, (State.mem_dropTicket (s := { s with waiting := rest }).1 hu).1, rfl⟩

theorem accounts_payout : PayoutKept AccountsInv where
  disp := fun _ _ h => accountsInv_reads.kept (State.touches_setDisp _ _) (by simp) h
  ticket := fun _ _ _ _ hu h => h.put (State.ticket?_mem hu) rfl
  settle := fun _ _ hu h => h.settle (State.ticket?_mem hu) rfl
  tell := fun _ _ _ h => accountsInv_reads.kept (State.touches_tellOffice _ _) (by simp) h
  time := fun ms _ h => accountsInv_reads.kept (State.touches_elapse ms _) (by simp [timeFields]) h
  check := fun _ h => accountsInv_reads.kept (State.touches_sealed _) (by simp) h
  queue := fun _ _ _ _ h => h.withTickets rfl rfl fun u hu => ⟨u, hu, rfl⟩

theorem warmKept_accounts : WarmKept AccountsInv where
  loss := fun _ _ h => State.lossPhase_elim h (h.withTickets rfl rfl fun u hu => ⟨u, hu, rfl⟩)
  change := fun _ _ _ _ _ h => by
    rw [State.applyChange_shape]
    exact h.withTickets rfl rfl fun u hu => ⟨u, hu, rfl⟩
  close := fun _ u _ _ _ hu h => h.valueTicket (u := { u with attachments := [] }) (State.ticket?_mem hu) rfl true
  leave := fun _ _ _ _ h => h.withTickets rfl rfl fun u hu => ⟨u, hu, rfl⟩
  fault := fun _ _ h => State.restartFault_elim (fun _ => h) fun t ht _ =>
    accountsInv_reads.kept (State.touches_tellOffice _ _) (by simp) (h.put (u := t.restartFaulted) ht rfl)

theorem State.reset_account (a : AccountId) : State.reset.accounts[a] = if a = 0 then Account.walkIn else Account.empty := by
  have he : State.reset.accounts = (Vector.replicate 256 Account.empty).set 0 Account.walkIn := rfl
  by_cases h : a = 0
  · subst h
    simp [he]
  · have hv : (0 : Nat) ≠ a.val := fun e => h (Fin.ext e.symm)
    rw [if_neg h]
    show State.reset.accounts[a.val] = _
    simp only [he]
    rw [Vector.getElem_set_ne _ _ hv, Vector.getElem_replicate]

theorem AccountsInv.reset : AccountsInv State.reset := by
  have hr : ∀ a : AccountId, State.reset.accounts[a].InRange := fun a => by
    rw [State.reset_account]
    split
    · exact ⟨Account.empty_inRange.counts, Nat.zero_le _, Nat.zero_le _⟩
    · exact Account.empty_inRange
  refine ⟨fun a => (hr a).counts, fun a => (hr a).credit, fun a => (hr a).customer, ?_, fun _ a ha => ?_, fun _ t ht => nomatch ht⟩
  · rw [State.reset_account, if_pos rfl]
  · rw [State.reset_account] at ha ⊢
    split at ha
    · exact absurd ha (by decide)
    · exact if_neg ‹_›

theorem AccountsInv.coldCut {s : State} (h : AccountsInv s) (cause : StopCause) : AccountsInv (s.coldCut cause) := by
  have ha : (s.coldCut cause).accounts = if Config.clearedByCut s.draws 2 = true then State.reset.accounts else s.accounts := rfl
  have hm : (s.coldCut cause).marker ≠ .valid := by simp [State.coldCut, State.halt]
  have hpick : ∀ u : State, AccountsInv u → (s.coldCut cause).accounts = u.accounts → AccountsInv (s.coldCut cause) := fun u hu he =>
    ⟨he ▸ hu.counts, he ▸ hu.credit, he ▸ hu.customer, he ▸ hu.walkIn, fun hv => absurd hv hm, fun hv => absurd hv hm⟩
  by_cases hc : Config.clearedByCut s.draws 2 = true
  · exact hpick _ .reset (ha.trans (if_pos hc))
  · exact hpick _ h (ha.trans (if_neg hc))

/-! ### Every command -/

theorem adjusted_le (count : Nat) (change : Int) : adjusted count change ≤ 65535 := Nat.min_le_left _ _

theorem exec_keeps_accounts (c : Instr) (s : State) {t : State} (hs : AccountsInv s) (h : exec c s = .next t) : AccountsInv t := by
  have hI := accountsInv_reads
  have hreq : ∀ {src i n block}, request src i n block s = .next t → AccountsInv (block s).state → AccountsInv t :=
    hI.request (by simp [replyFields]) hs
  have hpayout : PayoutEvent c → AccountsInv t := fun hc => accounts_payout.exec' hc hs h
  have hmem : ∀ {n u}, s.ticket? n = some u → u ∈ s.tickets := State.ticket?_mem
  have hempty : ∀ a : AccountId, a.val ≠ 0 → s.accountBusy a = false → AccountsInv (s.setAccount a Account.empty) := fun a ha hb =>
    hs.setAccount ha Account.empty_inRange fun _ _ => ⟨rfl, fun t ht he => by
      have := State.accountBusy_iff.2 (.inr (.inr ⟨t, ht, he⟩))
      rw [hb] at this
      cases this⟩
  cases c
  case openTicket a lanes =>
    refine hreq h (openTicket_elim hs fun ha _ _ _ => ⟨hs.counts, hs.credit, hs.customer, hs.walkIn, hs.unused, fun hm u hu => ?_⟩)
    rcases List.mem_append.1 hu with hu | hu
    · exact hs.named hm u hu
    · rw [List.mem_singleton.1 hu]
      exact ha
  case detachLane => exact hreq h (detachLane_elim hs fun _ ht _ => hs.detachLane (hmem ht) _)
  case closeTicket =>
    exact hreq h (closeTicket_elim hs
      (fun t ht _ => hs.sameTable (.of_put (v := { t.dropPulseLanes with state := .closing, closeDeadline := some (s.now + 1000 * s.closeWait) })
        rfl (hmem ht) rfl) rfl rfl)
      fun t ht _ => hs.valueTicket (u := t.dropPulseLanes) (hmem ht) rfl false)
  case reopen =>
    refine hreq h (reopen_elim hs fun t ht _ => (hs.restoreTicket (hmem ht)).put (w := t) ?_ rfl)
    rw [State.restoreTicket_eq]
    exact hmem ht
  case void =>
    refine hreq h (voidTicket_elim hs fun t ht _ => ?_)
    have hr : AccountsInv (State.leaveClosing t.number (s.restoreTicket t)) :=
      (hs.restoreTicket (hmem ht)).withTickets rfl rfl fun u hu => ⟨u, hu, rfl⟩
    have ht' : t ∈ (State.leaveClosing t.number (s.restoreTicket t)).tickets := by
      rw [State.restoreTicket_eq]
      exact hmem ht
    exact hr.finish (u := { t with
      state := .settled, attachments := [], closeDeadline := none, outcome := some .voided, settledAt := some s.stamp }) ht' rfl _
  case authorise => exact hreq h (authorise_elim hs fun _ t ht _ _ _ _ _ hfit => hs.authorised (hmem ht) _ hfit)
  case revoke n =>
    refine hreq h (revoke_elim hs (fun t ht _ _ _ => ?_) fun t ht _ _ =>
      hs.sameTable (.of_put (v := { t with state := .payFault }) rfl (hmem ht) rfl) rfl rfl)
    have hput : AccountsInv ((s.dropJob n).putTicket { t with state := .valued, authorisation := none }) :=
      hs.sameTable (.of_put (v := { t with state := .valued, authorisation := none }) rfl (hmem ht) rfl) rfl rfl
    by_cases ha : t.account.val = 0
    · have hz : s.accounts[t.account].debit t.reversal = s.accounts[t.account] := by simp [Ticket.reversal, ha, Account.debit]
      rw [hz]
      exact (State.setAccount_same t.account ((s.dropJob n).putTicket _)).symm ▸ hput
    · exact hput.setMade ha ((hs.inRange _).debit _) fun hm => hs.named hm t (hmem ht)
  case resolveRetry n =>
    exact hreq h (resolveRetry_elim hs (fun t ht _ _ => hs.settle (hmem ht) rfl) fun t ht _ _ _ =>
      hs.sameTable (.of_put (v := Ticket.withProgress (fun q => { q with retries := q.retries + 1 }) { t with state := .authorised })
        rfl (hmem ht) rfl) rfl rfl)
  case resolveConvert =>
    exact hreq h (resolveConvert_elim hs fun t ht _ ha hfit =>
      (hs.setNamed (hmem ht) ha ((hs.inRange _).post hfit) rfl).settle (w := t) (hmem ht) rfl)
  case resolveManual => exact hreq h (resolveManual_elim hs fun t ht _ => hs.settle (hmem ht) rfl)
  case takeLog =>
    exact hreq h (takeLog_elim hs fun r rest _ => AccountsInv.admitWaiting (s := { s with log := rest })
      (hs.withTickets rfl rfl fun u hu => ⟨u, hu, rfl⟩))
  case makeAccount a customer =>
    exact hreq h (makeAccount_elim hs fun ha hc _ => hs.setMade ha ⟨Account.empty_inRange.counts, Nat.zero_le _, hc⟩
      fun _ he => AccountState.noConfusion he)
  case deleteAccount => exact hreq h (deleteAccount_elim hs fun ha hb => hempty _ ha hb)
  case setAccountState =>
    exact hreq h (setAccountState_elim hs (fun ha hb => hempty _ ha hb) fun st ha _ hst =>
      hs.setMade ha ⟨hs.counts _, hs.credit _, hs.customer _⟩ fun _ => hst)
  case issue =>
    exact hreq h (issue_elim hs fun c ha hm => hs.setMade ha ((hs.inRange _).grow c _) fun _ => by
      rw [Account.grow_state]
      exact hm)
  case adjust src a cls change =>
    refine hreq h (adjust_elim hs fun c ha hm => hs.setMade ha ?_ fun _ => hm)
    have hc := (hs.inRange a).setCount c (adjusted_le s.accounts[a].outstanding[c] change)
    exact ⟨hc.counts, hc.credit, hc.customer⟩
  case collect => exact hreq h (collect_elim hs fun ha hm => hs.setMade ha ((hs.inRange _).debit _) fun _ => hm)
  case laneDone =>
    exact hreq h (onGrantedLane_elim hs fun l => laneDone_elim hs fun _ ht => hs.detachLane (State.feeding_some ht).1 _)
  case closeWaitExpiry n =>
    change execCloseWaitExpiry n s = _ at h
    unfold execCloseWaitExpiry at h
    split at h
    · rename_i u hu
      exact hI.retainedEvent (by simp) hs h fun _ => AccountsInv.valueTicket (s := s.reach _) (u := { u with attachments := [] }) (w := u)
        (hI.kept (s.touches_elapse _) (by simp [timeFields]) hs) (hmem hu) rfl true
    · exact done_elim h hs
  case backupLow =>
    change execBackupLow s = _ at h
    exact event_elim h hs fun _ => ⟨hs.counts, hs.credit, hs.customer, hs.walkIn, fun hm => (nomatch hm), fun hm => (nomatch hm)⟩
  case warmStart =>
    have hsealed : ∀ u : State, AccountsInv u → AccountsInv u.sealed := fun u => hI.kept u.touches_sealed (by simp)
    exact warmKept_accounts.exec h hs (fun _ _ => hs.withTickets rfl rfl fun u hu => ⟨u, hu, rfl⟩) (fun u _ => hsealed u)
      fun cause u _ hu => hsealed _ (hI.kept (u.touches_halt cause) (by simp) hu)
  case coldStart found cut =>
    change execColdStart found cut s = _ at h
    refine event_elim h hs fun _ => ?_
    cases cut with
    | none =>
      have hr := AccountsInv.reset
      exact ⟨hr.counts, hr.credit, hr.customer, hr.walkIn, hr.unused, hr.named⟩
    | some cause => exact hs.coldCut cause
  case jobTake => exact hpayout (.jobTake _)
  case noteVendEnd => exact hpayout (.noteVendEnd _)
  case noteExitStart => exact hpayout (.noteExitStart _)
  case noteExitEnd => exact hpayout (.noteExitEnd _ _)
  case noteJamTimeout => exact hpayout .noteJamTimeout
  case coinExitStart => exact hpayout (.coinExitStart _)
  case coinGapTimeout => exact hpayout .coinGapTimeout
  case coinEmptyAsserted => exact hpayout (.coinEmptyAsserted _)
  case runOnEnd => exact hpayout .runOnEnd
  all_goals
    have htouch := exec_touches h
    refine hs.sameTable (exec_sameTable h fun hc => ?_) (htouch .accounts ?_) (htouch .marker ?_)
    · cases hc with | payout hp => cases hp
    all_goals simp [Instr.source?, replyFields, timeFields, scheduleFields]

/-- Settles O16: a reservation and a restore stop at the ends of a count's range, a post is made only where it fits, and an account
that a ticket names is not deleted. -/
theorem accountsInvariantKept : Obligations.AccountsInvariantKept := fun _ _ hs h =>
  accountsInv_reads.step (by simp [timeFields]) (fun c s => exec_keeps_accounts c s) hs h

end Sys2Proof.Machine
end

section
/-! SUPPORT. The dispenser's record (R143 to R159): what each operation leaves of it, said as an equation, and the invariant of R143 to
R145 and R148 as one predicate of the record. -/

namespace Sys2Proof.Machine

/-! ### The record after each operation -/

theorem Dispenser.setChannel_same (c : Channel) (d : Dispenser) : d.setChannel c (d.channel c) = d := by cases c <;> rfl

/-- A channel with one unit counted out of it (R148). -/
def ChannelRecord.less (r : ChannelRecord) : ChannelRecord := { r with stock := r.stock - 1 }

theorem ChannelRecord.less_of_zero {r : ChannelRecord} (h : r.stock = 0) : r.less = r := by
  cases r
  simp_all [ChannelRecord.less]

theorem State.decrement_disp (c : Channel) (s : State) : (s.decrement c).disp = s.disp.setChannel c (s.disp.channel c).less := by
  unfold State.decrement
  dsimp only
  split
  · rw [ChannelRecord.less_of_zero ‹_›, Dispenser.setChannel_same]
    rfl
  · split <;> rfl

theorem State.strayUnit_disp (c : Channel) (s : State) :
    (s.strayUnit c).disp = s.disp.setChannel c (s.disp.channel c).less.settle := by
  show (s.decrement c).disp.setChannel c ((s.decrement c).disp.channel c).settle = _
  rw [State.decrement_disp]
  cases c <;> rfl

/-- A channel whose store has been found empty (R152, R154, R155). -/
def ChannelRecord.bare : ChannelRecord := { state := .empty, stock := 0 }

theorem State.foundEmpty_disp (c : Channel) (s : State) : (s.foundEmpty c).disp = s.disp.setChannel c .bare := by
  unfold State.foundEmpty
  dsimp only
  split <;> rfl

theorem State.onProgress_disp (n : Nat) (f : Progress → Progress) (s : State) : (s.onProgress n f).disp = s.disp := by
  rw [State.onProgress_shape]

theorem State.countNote_disp (j : JobProgress) (s : State) : (s.countNote j).disp =
    { s.disp.setChannel .notes s.disp.note.less with job := some { j with notes := j.notes + 1 } } := by
  unfold State.countNote
  rw [State.setJob_disp, State.onProgress_disp, State.decrement_disp]
  rfl

theorem State.countCoin_disp (j : JobProgress) (s : State) : (s.countCoin j).disp =
    { s.disp.setChannel .coins s.disp.coin.less with job := some { j with coins := j.coins + 1 } } := by
  unfold State.countCoin
  rw [State.setJob_disp, State.onProgress_disp, State.decrement_disp]
  rfl

/-- The record after the end of a job: no job, and no output driven. -/
def Dispenser.ended (d : Dispenser) : Dispenser := { d with job := none, noteVend := false, coinRun := false }

theorem State.jobFault_disp (j : JobProgress) (cause : FaultCause) (s : State) : (s.jobFault j cause).disp = s.disp.ended := by
  unfold State.jobFault
  dsimp only
  split <;> rfl

theorem State.jobComplete_disp (j : JobProgress) (s : State) : (s.jobComplete j).disp = s.disp.coinRest.ended := by
  unfold State.jobComplete
  dsimp only
  split
  · rw [State.settle_disp]
    rfl
  · rfl

/-! ### The invariant as a predicate of the record -/

/-- A channel within its stock, in keeping with it, and RUNNING exactly where the rules run it (R145, R148). -/
structure ChannelRecord.Fits (max : Nat) (runs : Prop) (r : ChannelRecord) : Prop where
  stock : r.stock ≤ max
  ready : r.state = .ready → 0 < r.stock
  empty : r.state = .empty → r.stock = 0
  running : r.state = .running ↔ runs

theorem ChannelRecord.Fits.congr {max : Nat} {P Q : Prop} {r : ChannelRecord} (h : r.Fits max P) (hpq : P ↔ Q) : r.Fits max Q :=
  { h with running := h.running.trans hpq }

theorem ChannelRecord.Fits.less {max : Nat} {P : Prop} {r : ChannelRecord} (h : r.Fits max P) (hr : r.state ≠ .ready) :
    r.less.Fits max P where
  stock := (Nat.sub_le _ _).trans h.stock
  ready := fun e => absurd e hr
  empty := fun e => by
    show r.stock - 1 = 0
    rw [h.empty e]
  running := h.running

theorem ChannelRecord.Fits.stray {max : Nat} {P : Prop} {r : ChannelRecord} (h : r.Fits max P) : r.less.settle.Fits max P := by
  have hle : r.less.stock ≤ max := (Nat.sub_le _ _).trans h.stock
  unfold ChannelRecord.settle
  split
  · rename_i hz
    have hp : ¬P := fun hp => by
      have := hz.1.symm.trans (h.running.2 hp)
      cases this
    exact ⟨hle, fun e => (nomatch e), fun _ => hz.2, iff_of_false (fun e => (nomatch e)) hp⟩
  · rename_i hz
    refine ⟨hle, fun e => Nat.pos_of_ne_zero fun hs => hz ⟨e, hs⟩, fun e => ?_, h.running⟩
    show r.stock - 1 = 0
    rw [h.empty e]

theorem ChannelRecord.Fits.bare (max : Nat) : ChannelRecord.bare.Fits max False :=
  ⟨Nat.zero_le _, fun e => (nomatch e), fun _ => rfl, iff_of_false (fun e => (nomatch e)) id⟩

theorem ChannelRecord.Fits.faulty {max : Nat} {P : Prop} {r : ChannelRecord} (h : r.Fits max P) :
    ({ r with state := .fault } : ChannelRecord).Fits max False :=
  ⟨h.stock, fun e => (nomatch e), fun e => (nomatch e), iff_of_false (fun e => (nomatch e)) id⟩

theorem ChannelRecord.Fits.runs {max : Nat} {P : Prop} {r : ChannelRecord} (h : r.Fits max P) :
    ({ r with state := .running } : ChannelRecord).Fits max True :=
  ⟨h.stock, fun e => (nomatch e), fun e => (nomatch e), iff_of_true rfl trivial⟩

theorem ChannelRecord.rest_fits {max : Nat} {r : ChannelRecord} (h : r.stock ≤ max) : r.rest.Fits max False := by
  unfold ChannelRecord.rest
  by_cases hz : r.stock = 0
  · rw [if_pos hz]
    exact ⟨h, fun e => (nomatch e), fun _ => hz, iff_of_false (fun e => (nomatch e)) id⟩
  · rw [if_neg hz]
    exact ⟨h, fun _ => Nat.pos_of_ne_zero hz, fun e => (nomatch e), iff_of_false (fun e => (nomatch e)) id⟩

/-- The settings of Table 8-2 in their ranges (R144). -/
structure Dispenser.SettingsOk (d : Dispenser) : Prop where
  denoms : ∀ un uc, d.denoms = some (un, uc) → 100 ≤ un ∧ un ≤ 100000 ∧ 1 ≤ uc ∧ uc ≤ un ∧ uc ∣ un
  vendPulse : 20 ≤ d.vendPulse ∧ d.vendPulse ≤ 500
  jamTime : 500 ≤ d.jamTime ∧ d.jamTime ≤ 10000
  doublePick : 10 ≤ d.doublePick ∧ d.doublePick ≤ 500
  lows : d.noteLow ≤ 9999 ∧ d.coinLow ≤ 65535
  found : d.noteFound = true → d.noteExit.level = true

/-- Where the rules run a channel: in its phase of the paying job (R151, R154). -/
def Dispenser.runs (c : Channel) (d : Dispenser) : Prop :=
  match c with
  | .notes => d.phase = some .notes
  | .coins => d.phase = some .coins ∨ d.phase = some .runOn

/-- The dispenser's invariant as a predicate of its record, for a part that runs or not. -/
structure Dispenser.Ok (on : Bool) (d : Dispenser) : Prop where
  settings : d.SettingsOk
  channel : ∀ c, (d.channel c).Fits (stockMax c) (d.runs c)
  motor : d.coinRun = true ↔ on = true ∧ d.phase = some .coins
  vend : d.noteVend = true → on = true ∧ ∃ j start exit, d.job = some j ∧ j.phase = .notes ∧ j.work = some (.vend start exit)

theorem dispenserInv_iff {s : State} : DispenserInv s ↔ s.disp.Ok s.on := by
  constructor
  · intro h
    refine ⟨⟨h.denoms, h.vendPulse, h.jamTime, h.doublePick, h.lows, h.found⟩, fun c => ?_, h.coinMotor, h.vend⟩
    cases c
    · exact ⟨h.stocks.1, h.noteRest.1, h.noteRest.2, h.noteRuns⟩
    · exact ⟨h.stocks.2, h.coinRest.1, h.coinRest.2, h.coinRuns⟩
  · intro h
    have hn := h.channel .notes
    have hc := h.channel .coins
    exact ⟨h.settings.denoms, h.settings.vendPulse, h.settings.jamTime, h.settings.doublePick, h.settings.lows, ⟨hn.stock, hc.stock⟩,
      ⟨hn.ready, hn.empty⟩, ⟨hc.ready, hc.empty⟩, hn.running, hc.running, h.motor, h.settings.found, h.vend⟩

namespace Dispenser

variable {on : Bool} {d : Dispenser}

theorem Ok.setChannel (h : d.Ok on) (c : Channel) {r : ChannelRecord} (hr : r.Fits (stockMax c) (d.runs c)) :
    (d.setChannel c r).Ok on := by
  cases c
  · exact { h with settings := { h.settings with }, channel := fun c => by cases c; exacts [hr, h.channel .coins] }
  · exact { h with settings := { h.settings with }, channel := fun c => by cases c; exacts [h.channel .notes, hr] }

theorem SettingsOk.setChannel (h : d.SettingsOk) (c : Channel) (r : ChannelRecord) : (d.setChannel c r).SettingsOk := by
  cases c <;> exact { h with }

theorem ended_phase (d : Dispenser) : d.ended.phase = none := rfl

/-- Both channels at rest: a job may end here (R157, R158). -/
structure AtRest (d : Dispenser) : Prop where
  settings : d.SettingsOk
  note : d.note.Fits 9999 False
  coin : d.coin.Fits 65535 False

theorem AtRest.ended (h : d.AtRest) (on : Bool) : d.ended.Ok on where
  settings := { h.settings with }
  channel := fun c => by
    cases c
    · exact h.note.congr (iff_of_false id (by simp [runs, d.ended_phase]))
    · exact h.coin.congr (iff_of_false id (by simp [runs, d.ended_phase]))
  motor := iff_of_false (fun e => (nomatch e)) fun e => (nomatch e.2)
  vend := fun e => (nomatch e)

theorem coinRest_eq (d : Dispenser) : d.coinRest = { d with coin := if d.coin.state = .running then d.coin.rest else d.coin } := by
  unfold coinRest
  split <;> rfl

/-- A coin channel at rest or brought to rest, the note channel being at rest (R157). -/
theorem AtRest.coinRest {P : Prop} (hs : d.SettingsOk) (hn : d.note.Fits 9999 False) (hc : d.coin.Fits 65535 P) :
    d.coinRest.AtRest := by
  rw [coinRest_eq]
  refine ⟨{ hs with }, hn, ?_⟩
  dsimp only
  split
  · exact ChannelRecord.rest_fits hc.stock
  · rename_i hr
    exact hc.congr (iff_of_false (fun hp => hr (hc.running.2 hp)) id)

/-- The note phase of a job between two vends: NOTE_VEND is off. -/
structure BetweenVends (d : Dispenser) : Prop where
  settings : d.SettingsOk
  note : d.note.Fits 9999 True
  coin : d.coin.Fits 65535 False
  motor : d.coinRun = false
  vend : d.noteVend = false

theorem phase_job {j : JobProgress} (hj : d.job = some j) : d.phase = some j.phase := by simp [phase, hj]

theorem noteJob_some {j : JobProgress} (h : d.noteJob = some j) : d.job = some j ∧ j.phase = .notes := by
  unfold noteJob at h
  split at h
  · split at h
    · cases h
      exact ⟨‹_›, ‹_›⟩
    · cases h
  · cases h

theorem coinJob_some {j : JobProgress} (h : d.coinJob = some j) : d.job = some j ∧ j.phase = .coins := by
  unfold coinJob at h
  split at h
  · split at h
    · cases h
      exact ⟨‹_›, ‹_›⟩
    · cases h
  · cases h

variable {j : JobProgress}

/-- In the note phase the note channel runs and the coin motor does not. -/
theorem Ok.notes (h : d.Ok on) (hj : d.job = some j) (hp : j.phase = .notes) :
    d.note.Fits 9999 True ∧ d.coin.Fits 65535 False ∧ d.coinRun = false := by
  have hph : d.phase = some .notes := (phase_job hj).trans (congrArg some hp)
  refine ⟨(h.channel .notes).congr (iff_of_true hph trivial), (h.channel .coins).congr (iff_of_false ?_ id), ?_⟩
  · simp [runs, hph]
  · exact Bool.eq_false_iff.2 fun e => by simpa [hph] using (h.motor.1 e).2

/-- In the coin phase and the run-on window the coin channel runs and no vend is driven. -/
theorem Ok.coins (h : d.Ok on) (hj : d.job = some j) (hp : j.phase ≠ .notes) :
    d.note.Fits 9999 False ∧ d.coin.Fits 65535 True ∧ d.noteVend = false := by
  have hph : d.phase = some j.phase := phase_job hj
  refine ⟨(h.channel .notes).congr (iff_of_false (fun e => hp (Option.some.inj (hph.symm.trans e))) id),
    (h.channel .coins).congr (iff_of_true ?_ trivial), ?_⟩
  · unfold runs
    rw [hph]
    cases hj' : j.phase
    · exact absurd hj' hp
    · exact .inl rfl
    · exact .inr rfl
  · refine Bool.eq_false_iff.2 fun e => ?_
    obtain ⟨_, k, _, _, hk, hkp, _⟩ := h.vend e
    rw [hj] at hk
    cases hk
    exact hp hkp

/-- Without a job no channel runs and no output is driven. -/
theorem Ok.idle (h : d.Ok on) (hj : d.job = none) : d.AtRest ∧ d.noteVend = false ∧ d.coinRun = false := by
  have hph : d.phase = none := by simp [phase, hj]
  refine ⟨⟨h.settings, (h.channel .notes).congr (iff_of_false (by simp [runs, hph]) id),
    (h.channel .coins).congr (iff_of_false (by simp [runs, hph]) id)⟩, ?_, ?_⟩
  · refine Bool.eq_false_iff.2 fun e => ?_
    obtain ⟨_, k, _, _, hk, _⟩ := h.vend e
    rw [hj] at hk
    cases hk
  · exact Bool.eq_false_iff.2 fun e => by simpa [hph] using (h.motor.1 e).2

/-- A job of the note phase takes the job's place, with NOTE_VEND driven for a vend at most. -/
theorem Ok.noteJob (hs : d.SettingsOk) (hn : d.note.Fits 9999 True) (hc : d.coin.Fits 65535 False) (hm : d.coinRun = false)
    (hp : j.phase = .notes) {vend : Bool} (hv : vend = true → ∃ start exit, j.work = some (.vend start exit)) :
    ({ d with job := some j, noteVend := vend } : Dispenser).Ok true where
  settings := { hs with }
  channel := fun c => by
    cases c
    · exact hn.congr (iff_of_true trivial (by simp [runs, phase, hp]))
    · exact hc.congr (iff_of_false id (by simp [runs, phase, hp]))
  motor := by simp [hm, phase, hp]
  vend := fun e => by
    obtain ⟨start, exit, hw⟩ := hv e
    exact ⟨rfl, j, start, exit, rfl, hp, hw⟩

/-- A job of the coin phase or of the run-on window takes the job's place. -/
theorem Ok.coinJob (hs : d.SettingsOk) (hn : d.note.Fits 9999 False) (hc : d.coin.Fits 65535 True) (hv : d.noteVend = false)
    (hp : j.phase ≠ .notes) {run : Bool} (hr : run = true ↔ j.phase = .coins) :
    ({ d with job := some j, coinRun := run } : Dispenser).Ok true where
  settings := { hs with }
  channel := fun c => by
    cases c
    · exact hn.congr (iff_of_false id (by simp [runs, phase, hp]))
    · refine hc.congr (iff_of_true trivial ?_)
      cases hj' : j.phase
      · exact absurd hj' hp
      · exact .inl (by simp [phase, hj'])
      · exact .inr (by simp [phase, hj'])
  motor := by simp [hr, phase]
  vend := fun e => absurd e (by simp [hv])

end Dispenser

/-! ### The events of a job, in a running part -/

section

variable {s : State} {j : JobProgress}

theorem State.jobFault_ok (h : s.disp.AtRest) (j : JobProgress) (cause : FaultCause) : (s.jobFault j cause).disp.Ok true := by
  rw [State.jobFault_disp]
  exact h.ended true

theorem State.startCoins_ok (h : s.disp.AtRest) (hv : s.disp.noteVend = false) (j : JobProgress) : (s.startCoins j).disp.Ok true := by
  unfold State.startCoins
  split
  · refine State.jobFault_ok ?_ j _
    rw [State.foundEmpty_disp]
    exact ⟨h.settings.setChannel _ _, h.note, .bare _⟩
  · exact Dispenser.Ok.coinJob (d := { s.disp with coin := { s.disp.coin with state := .running } }) { h.settings with } h.note
      h.coin.runs hv (by simp) (by simp)

theorem State.jobComplete_ok {P : Prop} (hs : s.disp.SettingsOk) (hn : s.disp.note.Fits 9999 False) (hc : s.disp.coin.Fits 65535 P)
    (j : JobProgress) : (s.jobComplete j).disp.Ok true := by
  rw [State.jobComplete_disp]
  exact (Dispenser.AtRest.coinRest hs hn hc).ended true

/-- The record as the note phase leaves it, before what follows. -/
def State.noteRest (j : JobProgress) (s : State) : State :=
  s.setDisp { s.disp with note := s.disp.note.rest, noteVend := false, job := some j }

theorem State.endNotes_ok (h : s.disp.BetweenVends) (j : JobProgress) : (s.endNotes j).disp.Ok true := by
  have hn : s.disp.note.rest.Fits 9999 False := ChannelRecord.rest_fits h.note.stock
  unfold State.endNotes
  dsimp only
  split
  · exact State.startCoins_ok (s := s.noteRest _) ⟨{ h.settings with }, hn, h.coin⟩ rfl _
  · exact State.jobComplete_ok (s := s.noteRest _) { h.settings with } hn h.coin _

theorem State.driveVend_ok (h : s.disp.BetweenVends) (hp : j.phase = .notes) : (s.driveVend j).disp.Ok true :=
  Dispenser.Ok.noteJob (j := { j with work := some (.vend s.now .awaited) }) (vend := true) h.settings h.note h.coin h.motor hp
    fun _ => ⟨_, _, rfl⟩

theorem State.startVend_ok (h : s.disp.BetweenVends) (hp : j.phase = .notes) : (s.startVend j).disp.Ok true := by
  unfold State.startVend
  split
  · refine State.jobFault_ok ?_ j _
    rw [State.foundEmpty_disp]
    exact ⟨h.settings.setChannel _ _, .bare _, h.coin⟩
  · split
    · have hw := Dispenser.Ok.noteJob (j := { j with work := some (.waitClear s.now) }) h.settings h.note h.coin h.motor hp
        (vend := s.disp.noteVend) fun e => absurd e (by simp [h.vend])
      exact hw
    · exact State.driveVend_ok h hp

theorem State.afterVend_ok (h : s.disp.BetweenVends) (hp : j.phase = .notes) : (s.afterVend j).disp.Ok true := by
  unfold State.afterVend
  split
  · exact State.startVend_ok h hp
  · exact State.endNotes_ok h j

theorem State.vendEnds_ok (h : s.disp.Ok true) (hj : s.disp.job = some j) (hp : j.phase = .notes) (e : Empties) :
    (s.vendEnds e j).disp.Ok true := by
  obtain ⟨hn, hc, hm⟩ := h.notes hj hp
  unfold State.vendEnds
  split
  · dsimp only
    split
    · exact State.afterVend_ok ⟨{ h.settings with }, hn, hc, hm, rfl⟩ hp
    · have hoff := Dispenser.Ok.noteJob (j := j) h.settings hn hc hm hp (vend := false) fun e => (nomatch e)
      rw [← hj] at hoff
      exact hoff
  · exact h

theorem State.noteJams_ok (h : s.disp.Ok true) (hj : s.disp.job = some j) (hp : j.phase = .notes) (m : Nat) :
    (s.noteJams j m).disp.Ok true := by
  obtain ⟨hn, hc, _⟩ := h.notes hj hp
  exact State.jobFault_ok
    (s := (s.reach (m + 1)).setDisp { (s.reach (m + 1)).disp with note := { s.disp.note with state := .fault } })
    ⟨{ h.settings with }, hn.faulty, hc⟩ j _

theorem State.openRunOn_ok (h : s.disp.Ok true) {k : JobProgress} (hk : s.disp.job = some k) (hp : k.phase ≠ .notes) (j : JobProgress)
    (cause : Option FaultCause) : (s.openRunOn j cause).disp.Ok true := by
  obtain ⟨hn, hc, hv⟩ := h.coins hk hp
  exact Dispenser.Ok.coinJob h.settings hn hc hv (by simp) (by simp)

theorem State.runOnEnds_ok (h : s.disp.Ok true) (hj : s.disp.job = some j) (hp : j.phase ≠ .notes) : (s.runOnEnds j).disp.Ok true := by
  obtain ⟨hn, hc, _⟩ := h.coins hj hp
  unfold State.runOnEnds
  dsimp only
  split
  · exact State.jobComplete_ok (s := s.reach _) h.settings hn hc j
  · refine State.jobFault_ok ?_ j _
    unfold State.endCoinFault
    split
    · rw [State.foundEmpty_disp]
      exact ⟨h.settings.setChannel _ _, hn, .bare _⟩
    · exact ⟨{ h.settings with }, hn, hc.faulty⟩

theorem State.timerEnds_ok (h : s.disp.Ok true) (hj : s.disp.job = some j) {k : DispenserTimer} {m : Nat}
    (hk : j.timer s.disp = some (k, m)) : (s.timerEnds k m j).disp.Ok true := by
  unfold JobProgress.timer at hk
  cases hp : j.phase
  · have hnote : k = .vendEnd ∨ k = .noteJam := by
      rw [hp] at hk
      split at hk
      · split at hk
        · cases hk
          exact .inl rfl
        · obtain ⟨_, _, he⟩ := Option.map_eq_some_iff.1 hk
          cases he
          exact .inr rfl
      · obtain ⟨_, _, he⟩ := Option.map_eq_some_iff.1 hk
        cases he
        exact .inr rfl
      · cases hk
      · rename_i hph
        cases hph
      · rename_i hph
        cases hph
    rcases hnote with rfl | rfl
    · exact State.vendEnds_ok h hj hp _
    · exact State.noteJams_ok h hj hp m
  · simp only [hp, Option.some.injEq, Prod.mk.injEq] at hk
    obtain ⟨rfl, _⟩ := hk
    exact State.openRunOn_ok (s := s.reach _) h hj (by simp [hp]) j _
  · simp only [hp, Option.some.injEq, Prod.mk.injEq] at hk
    obtain ⟨rfl, _⟩ := hk
    exact State.runOnEnds_ok h hj (by simp [hp])

theorem State.dispenserTimers_ok (fuel time : Nat) (h : s.disp.Ok true) : (State.dispenserTimers fuel time s).disp.Ok true := by
  induction fuel generalizing s with
  | zero => exact h
  | succ fuel ih =>
    unfold State.dispenserTimers
    split
    · exact h
    · split
      · exact h
      · split
        · exact ih (State.timerEnds_ok h ‹_› ‹_›)
        · exact h

theorem State.dispenserElapse_ok (h : s.disp.Ok true) (after : Nat) : (s.dispenserElapse after).disp.Ok true :=
  State.dispenserTimers_ok _ _ h

theorem State.strayUnit_ok {on : Bool} (h : s.disp.Ok on) (c : Channel) : (s.strayUnit c).disp.Ok on := by
  rw [State.strayUnit_disp]
  exact h.setChannel c (h.channel c).stray

/-- A note counted: the note channel runs, and its job goes on (R150). -/
theorem State.countNote_ok (h : s.disp.Ok true) {k : JobProgress} (hk : s.disp.job = some k) (hkp : k.phase = .notes)
    (hp : j.phase = .notes) (hw : ∃ start exit, j.work = some (.vend start exit)) : (s.countNote j).disp.Ok true := by
  obtain ⟨hn, hc, hm⟩ := h.notes hk hkp
  have hless : s.disp.note.less.Fits 9999 True := hn.less fun e => by
    have := hn.running.2 trivial
    rw [e] at this
    cases this
  have hok := Dispenser.Ok.noteJob (d := s.disp.setChannel .notes s.disp.note.less) (j := { j with notes := j.notes + 1 })
    (h.settings.setChannel _ _) hless hc hm hp (vend := s.disp.noteVend) fun _ => hw
  rw [State.countNote_disp]
  exact hok

theorem State.countCoin_ok (h : s.disp.Ok true) {k : JobProgress} (hk : s.disp.job = some k) (hkp : k.phase ≠ .notes)
    (hp : j.phase = k.phase) : (s.countCoin j).disp.Ok true := by
  obtain ⟨hn, hc, hv⟩ := h.coins hk hkp
  have hless : s.disp.coin.less.Fits 65535 True := hc.less fun e => by
    have := hc.running.2 trivial
    rw [e] at this
    cases this
  have hrun : s.disp.coinRun = true ↔ j.phase = .coins := by
    rw [h.motor, Dispenser.phase_job hk, hp]
    simp
  have hok := Dispenser.Ok.coinJob (d := s.disp.setChannel .coins s.disp.coin.less) (j := { j with coins := j.coins + 1 })
    (h.settings.setChannel _ _) hn hless hv (hp ▸ hkp) hrun
  rw [State.countCoin_disp]
  exact hok

theorem State.countExit_ok (h : s.disp.Ok true) (hj : s.disp.job = some j) (hp : j.phase = .notes) (start since : Nat) :
    (s.countExit start since j).disp.Ok true := by
  have hone := State.countNote_ok (j := { j with work := some (.vend start .gone) }) h hj hp hp ⟨_, _, rfl⟩
  have hjob : (s.countNote { j with work := some (.vend start .gone) }).disp.job =
      some { j with work := some (.vend start .gone), notes := j.notes + 1 } := by rw [State.countNote_disp]
  unfold State.countExit
  dsimp only
  split
  · exact State.countNote_ok hone hjob hp hp ⟨_, _, rfl⟩
  · exact hone

theorem State.loosePulse_ok {on : Bool} (h : s.disp.Ok on) (found : Bool) : (s.loosePulse found).disp.Ok on := by
  unfold State.loosePulse
  split
  · exact h
  · exact State.strayUnit_ok h _

theorem State.takeJob_ok (h : s.disp.Ok true) (hidle : s.disp.job = none) (j : PayoutJob) (rest : List PayoutJob) :
    (State.takeJob j rest s).disp.Ok true := by
  obtain ⟨hrest, hv, hm⟩ := h.idle hidle
  unfold State.takeJob
  extract_lets s₁ s₂
  have hput : s₂.disp = s.disp := by
    unfold s₂
    split <;> rfl
  clear_value s₂
  rw [← hput] at hrest hv hm
  split
  · refine State.startVend_ok ?_ rfl
    exact ⟨{ hrest.settings with }, hrest.note.runs, hrest.coin, hm, hv⟩
  · refine State.startCoins_ok ?_ ?_ _
    · exact ⟨{ hrest.settings with }, hrest.note, hrest.coin⟩
    · exact hv

end

end Sys2Proof.Machine
end

section
/-! SUPPORT. The dispenser's invariant through every command (R143 to R162): its events, the three requests that set it, and the stops
and starts. -/

namespace Sys2Proof.Machine

theorem dispenserInv_reads : Reads DispenserInv [.disp, .power] := fun s t h hs => by
  have hd : t.disp = s.disp := h .disp (by simp)
  have hon : t.on = s.on := State.on_of_power (h .power (by simp))
  rw [dispenserInv_iff] at hs ⊢
  rwa [hd, hon]

/-! ### The events of the inputs -/

namespace Dispenser

variable {on : Bool} {d : Dispenser} {j : JobProgress}

theorem Ok.noteExitMoves (h : d.Ok on) (level : Bool) (now : Nat) : (d.noteExitMoves level now).Ok on :=
  { h with settings := { h.settings with found := fun e => (nomatch e) } }

theorem Ok.coinExitStarts (h : d.Ok on) (now : Nat) : (d.coinExitStarts now).Ok on := { h with settings := { h.settings with } }

theorem Ok.coinEmptyStarts (h : d.Ok on) (now : Nat) : (d.coinEmptyStarts now).Ok on := { h with settings := { h.settings with } }

/-- The note phase of a job while NOTE_VEND is off. -/
theorem Ok.between (h : d.Ok on) (hj : d.job = some j) (hp : j.phase = .notes) (hv : d.noteVend = false) : d.BetweenVends :=
  have ⟨hn, hc, hm⟩ := h.notes hj hp
  ⟨h.settings, hn, hc, hm, hv⟩

end Dispenser

section

variable {s : State} {j : JobProgress}

theorem State.countExit_job (start since : Nat) (j : JobProgress) (s : State) :
    ∃ n, (s.countExit start since j).disp.job = some { j with work := some (.vend start .gone), notes := n } := by
  unfold State.countExit
  dsimp only
  split <;> exact ⟨_, by rw [State.countNote_disp]⟩

theorem State.loosePulse_job (found : Bool) (s : State) :
    (s.loosePulse found).disp.job = s.disp.job ∧ (s.loosePulse found).disp.noteVend = s.disp.noteVend := by
  unfold State.loosePulse
  split
  · exact ⟨rfl, rfl⟩
  · rw [State.strayUnit_disp]
    exact ⟨rfl, rfl⟩

theorem State.sampleEmpties_ok {on : Bool} (h : s.disp.Ok on) (e : Empties) : (s.sampleEmpties e).disp.Ok on :=
  { h with settings := { h.settings with } }

/-- The exit of the vend that awaits one starts. -/
theorem State.passing_ok (h : s.disp.Ok true) (hj : s.disp.job = some j) (hp : j.phase = .notes) (start : Nat) (exit : VendExit) :
    (s.setJob (some { j with work := some (.vend start exit) })).disp.Ok true := by
  obtain ⟨hn, hc, hm⟩ := h.notes hj hp
  exact Dispenser.Ok.noteJob (j := { j with work := some (.vend start exit) }) (vend := s.disp.noteVend) h.settings hn hc hm hp
    fun _ => ⟨_, _, rfl⟩

end

/-- What one of the dispenser's events leaves in a running part. -/
theorem payout_event_ok {c : Instr} (hc : PayoutEvent c) {s t : State} (hs : s.on = true → s.disp.Ok true) (h : exec c s = .next t) :
    t = s ∨ s.on = true ∧ t.disp.Ok true := by
  have hret : ∀ {b f}, retainedEvent b f s = .next t → (b = true → s.on = true) → (s.disp.Ok true → (f s).disp.Ok true) →
      t = s ∨ s.on = true ∧ t.disp.Ok true := fun hx hon hf =>
    retainedEvent_elim (P := fun u => u = s ∨ s.on = true ∧ u.disp.Ok true) hx (.inl rfl) fun hb => .inr ⟨hon hb, hf (hs (hon hb))⟩
  have hsame : done s = .next t → t = s ∨ s.on = true ∧ t.disp.Ok true := fun hx => .inl (by cases hx; rfl)
  have hset : ∀ {b : Bool}, (s.settled && b) = true → s.on = true := fun hb =>
    PayoutKept.settled_on (Bool.and_eq_true_iff.1 hb).1
  have hand : ∀ {b c : Bool}, (b && c) = true → b = true := fun hb => (Bool.and_eq_true_iff.1 hb).1
  cases hc with
  | jobTake e =>
    change execJobTake e s = _ at h
    unfold execJobTake at h
    split at h
    · exact hsame h
    · refine retainedEvent_elim (P := fun u => u = s ∨ s.on = true ∧ u.disp.Ok true) h (.inl rfl) fun hb => .inr ?_
      obtain ⟨⟨hst, hidle⟩, _⟩ := by simpa [Bool.and_eq_true] using hb
      have hjob : s.disp.job = none := by simpa using (Bool.and_eq_true_iff.1 hidle).1
      have hon : s.on = true := PayoutKept.settled_on hst
      exact ⟨hon, State.takeJob_ok (s := s.sampleEmpties e) (State.sampleEmpties_ok (hs hon) e) hjob _ _⟩
  | noteVendEnd e =>
    change execNoteVendEnd e s = _ at h
    unfold execNoteVendEnd at h
    split at h
    · obtain ⟨hj, hp⟩ := Dispenser.noteJob_some ‹_›
      exact hret h hand fun hok => State.vendEnds_ok hok hj hp e
    · exact hsame h
  | noteExitStart after =>
    change execNoteExitStart after s = _ at h
    refine hret h hset fun hok => ?_
    have hmoved := (State.dispenserElapse_ok hok after).noteExitMoves true (s.dispenserElapse after).now
    dsimp only
    split
    · obtain ⟨hj, hp⟩ := Dispenser.noteJob_some ‹_›
      split
      · exact State.passing_ok (s := (s.dispenserElapse after).setDisp _) hmoved hj hp _ _
      · exact hmoved
    · exact hmoved
  | noteExitEnd e after =>
    change execNoteExitEnd e after s = _ at h
    refine hret h hset fun hok => ?_
    dsimp only
    generalize hu : (s.dispenserElapse after).setDisp _ = u
    have hmoved : u.disp.Ok true := hu ▸ (State.dispenserElapse_ok hok after).noteExitMoves false (s.dispenserElapse after).now
    split
    · rename_i j hjn
      obtain ⟨hj, hp⟩ := Dispenser.noteJob_some hjn
      split
      · rename_i start since _
        have hcount := State.countExit_ok hmoved hj hp start since
        obtain ⟨n, hn⟩ := State.countExit_job start since j u
        rw [hn]
        dsimp only
        split
        · exact hcount
        · exact State.afterVend_ok (s := (u.countExit start since j).sampleEmpties e)
            ((State.sampleEmpties_ok hcount e).between hn hp (Bool.eq_false_iff.2 ‹_›)) hp
      · rename_i hw
        obtain ⟨hlj, hlv⟩ := State.loosePulse_job s.disp.noteFound u
        have hoff : u.disp.noteVend = false := Bool.eq_false_iff.2 fun hv => by
          obtain ⟨_, k, _, _, hk, _, hkw⟩ := hmoved.vend hv
          rw [hj] at hk
          cases hk
          rw [hw] at hkw
          cases hkw
        exact State.driveVend_ok ((State.loosePulse_ok hmoved _).between (hlj.trans hj) hp (hlv.trans hoff)) hp
      · exact State.loosePulse_ok hmoved _
    · exact State.loosePulse_ok hmoved _
  | noteJamTimeout =>
    change execNoteJamTimeout s = _ at h
    unfold execNoteJamTimeout at h
    split at h
    · obtain ⟨hj, hp⟩ := Dispenser.noteJob_some ‹_›
      split at h
      · exact hret h id fun hok => State.noteJams_ok hok hj hp _
      · exact hsame h
    · exact hsame h
  | coinExitStart after =>
    change execCoinExitStart after s = _ at h
    refine hret h hset fun hok => ?_
    dsimp only
    generalize hu : (s.dispenserElapse after).setDisp _ = u
    have hmoved : u.disp.Ok true := hu ▸ (State.dispenserElapse_ok hok after).coinExitStarts (s.dispenserElapse after).now
    split
    · rename_i j hj
      split
      · exact State.strayUnit_ok hmoved _
      · rename_i hp
        have hcount := State.countCoin_ok (j := { j with since := u.now }) hmoved hj (by simp [hp]) rfl
        split
        · exact State.openRunOn_ok hcount (by rw [State.countCoin_disp]) (by simp [hp]) _ _
        · exact hcount
      · rename_i hp
        exact State.countCoin_ok hmoved hj (by simp [hp]) rfl
    · exact State.strayUnit_ok hmoved _
  | coinGapTimeout =>
    change execCoinGapTimeout s = _ at h
    unfold execCoinGapTimeout at h
    split at h
    · rename_i j hjc
      obtain ⟨hj, hp⟩ := Dispenser.coinJob_some hjc
      exact hret h id fun hok => State.openRunOn_ok (s := s.reach _) hok hj (by simp [hp]) j _
    · exact hsame h
  | coinEmptyAsserted after =>
    change execCoinEmptyAsserted after s = _ at h
    refine hret h hset fun hok => ?_
    dsimp only
    generalize hu : (s.dispenserElapse after).setDisp _ = u
    have hmoved : u.disp.Ok true := hu ▸ (State.dispenserElapse_ok hok after).coinEmptyStarts (s.dispenserElapse after).now
    split
    · rename_i j hjc
      obtain ⟨hj, hp⟩ := Dispenser.coinJob_some hjc
      exact State.openRunOn_ok hmoved hj (by simp [hp]) j _
    · exact hmoved
  | runOnEnd =>
    change execRunOnEnd s = _ at h
    unfold execRunOnEnd at h
    split at h
    · rename_i j hj
      refine retainedEvent_elim (P := fun u => u = s ∨ s.on = true ∧ u.disp.Ok true) h (.inl rfl) fun hb => .inr ?_
      obtain ⟨hon, hp⟩ := by simpa [Bool.and_eq_true] using hb
      exact ⟨hon, State.runOnEnds_ok (hs hon) hj (by simp [hp])⟩
    · exact hsame h

/-! ### The requests -/

theorem setDispenser_ok {on : Bool} {v : DispenserSettings} {s : State} (h : s.disp.Ok on) (hv : settingsFit v = true) :
    ({ s.disp with
      denoms := some (v.un, v.uc), vendPulse := v.vendPulse, jamTime := v.jamTime, doublePick := v.doublePick
      noteLow := v.noteLow, coinLow := v.coinLow } : Dispenser).Ok on := by
  simp only [settingsFit, inRange, Bool.and_eq_true, decide_eq_true_eq, beq_iff_eq] at hv
  obtain ⟨⟨⟨⟨⟨⟨⟨hun, huc⟩, hdvd⟩, hpulse⟩, hjam⟩, hpick⟩, hnote⟩, hcoin⟩ := hv
  refine { h with settings := { h.settings with
    denoms := ?_, vendPulse := hpulse, jamTime := hjam, doublePick := hpick, lows := ⟨hnote.2, hcoin.2⟩ } }
  rintro _ _ ⟨⟩
  exact ⟨hun.1, hun.2, huc.1, huc.2, Nat.dvd_of_mod_eq_zero hdvd⟩

theorem ChannelRecord.Fits.refilled {max stock : Nat} {P : Prop} {r : ChannelRecord} (h : r.Fits max P) (hr : r.state ≠ .running)
    (hs : stock ≤ max) : (r.refilled stock).Fits max P := by
  have hnot : ¬P := fun hp => hr (h.running.2 hp)
  unfold ChannelRecord.refilled
  split
  · rename_i hf
    exact ⟨hs, fun e => by simp [hf] at e, fun e => by simp [hf] at e, iff_of_false hr hnot⟩
  · exact (ChannelRecord.rest_fits (r := { r with stock := stock }) hs).congr (iff_of_false id hnot)

/-! ### Stops and starts -/

theorem ChannelRecord.Fits.warm {max : Nat} {P : Prop} {r : ChannelRecord} (h : r.Fits max P) : r.warm.Fits max False := by
  unfold ChannelRecord.warm
  split
  · exact ChannelRecord.rest_fits h.stock
  · exact { h with running := iff_of_false ‹_› id }

namespace Dispenser

variable {on : Bool} {d : Dispenser}

theorem Ok.warm (h : d.Ok on) (on' : Bool) : d.warm.Ok on' where
  settings := { h.settings with found := fun e => (nomatch e) }
  channel := fun c => by
    have hph : d.warm.phase = none := rfl
    cases c
    · exact (h.channel .notes).warm.congr (iff_of_false id (by simp [runs, hph]))
    · exact (h.channel .coins).warm.congr (iff_of_false id (by simp [runs, hph]))
  motor := iff_of_false (fun e => (nomatch e)) fun e => (nomatch e.2)
  vend := fun e => (nomatch e)

/-- A stop releases the outputs (R192). -/
theorem Ok.stop (h : d.Ok on) : ({ d with noteVend := false, coinRun := false } : Dispenser).Ok false :=
  { h with
    settings := { h.settings with }
    motor := iff_of_false (fun e => (nomatch e)) fun e => (nomatch e.1)
    vend := fun e => (nomatch e) }

theorem reset_ok (on : Bool) : State.reset.disp.Ok on where
  settings := by
    refine ⟨fun _ _ e => (nomatch e), ?_, ?_, ?_, ?_, fun e => (nomatch e)⟩ <;> decide
  channel := fun c => by
    cases c <;> exact ⟨by decide, fun e => (nomatch e), fun _ => rfl, iff_of_false (fun e => (nomatch e)) (by simp [runs]; decide)⟩
  motor := iff_of_false (fun e => (nomatch e)) fun e => (nomatch e.2)
  vend := fun e => (nomatch e)

end Dispenser

theorem DispenserInv.halt {s : State} (h : DispenserInv s) (cause : StopCause) : DispenserInv (s.halt cause) := by
  rw [dispenserInv_iff] at h ⊢
  have hoff : (s.halt cause).on = false := by cases cause <;> rfl
  rw [hoff]
  exact h.stop

/-- A stopped part stays within its invariant while it is stopped. -/
theorem DispenserInv.stopped {s t : State} (h : DispenserInv s) (hs : s.on = false) (ht : t.on = false) (hd : t.disp = s.disp) :
    DispenserInv t := by
  rw [dispenserInv_iff] at h ⊢
  rw [hs] at h
  rwa [ht, hd]

theorem DispenserInv.warmBlocks {s : State} (h : DispenserInv s) : DispenserInv s.warmBlocks :=
  dispenserInv_iff.2 ((dispenserInv_iff.1 h).warm _)

theorem DispenserInv.reset : DispenserInv State.reset := dispenserInv_iff.2 (Dispenser.reset_ok _)

theorem DispenserInv.coldCut {s : State} (h : DispenserInv s) (cause : StopCause) : DispenserInv (s.coldCut cause) := by
  have hd : (s.coldCut cause).disp = { (s.clearBlocks (Config.clearedByCut s.draws)).disp with noteVend := false, coinRun := false } :=
    rfl
  have hoff : (s.coldCut cause).on = false := by cases cause <;> rfl
  rw [dispenserInv_iff, hoff, hd]
  by_cases hcut : Config.clearedByCut s.draws 8 = true
  · have hb : (s.clearBlocks (Config.clearedByCut s.draws)).disp = State.reset.disp := by simp [State.clearBlocks, hcut]
    rw [hb]
    exact (Dispenser.reset_ok false).stop
  · have hb : (s.clearBlocks (Config.clearedByCut s.draws)).disp = s.disp := by simp [State.clearBlocks, hcut]
    rw [hb]
    exact (dispenserInv_iff.1 h).stop

/-- The dispenser's invariant reads the record and whether the part runs. -/
theorem DispenserInv.of_eq {s t : State} (h : DispenserInv s) (hd : t.disp = s.disp) (hp : t.power = s.power) : DispenserInv t :=
  dispenserInv_reads s t (by simp [Field.agrees, hd, hp]) h

theorem warmKept_dispenser : WarmKept DispenserInv where
  loss _ _ hs := State.lossPhase_elim hs (hs.of_eq rfl rfl)
  change _ _ _ _ _ hs := by
    rw [State.applyChange_shape]
    exact hs.of_eq rfl rfl
  close _ _ _ _ _ _ hs := dispenserInv_reads.kept (State.touches_valueTicket _ _ _) (by simp [valuationFields]) hs
  leave _ _ _ _ hs := hs.of_eq rfl rfl
  fault _ _ hs := by
    rw [State.restartFault_shape]
    exact hs.of_eq rfl rfl

theorem exec_keeps_dispenser (c : Instr) (s : State) {t : State} (hs : DispenserInv s) (h : exec c s = .next t) : DispenserInv t := by
  have hI := dispenserInv_reads
  have hok := dispenserInv_iff.1 hs
  have hdisp : ∀ {d : Dispenser}, d.Ok s.on → DispenserInv (s.setDisp d) := fun hd => dispenserInv_iff.2 hd
  have hreq : ∀ {src i n} {block : State → Answer}, request src i n block s = .next t → DispenserInv (block s).state →
      DispenserInv t := fun h hb => hI.request (by simp [replyFields]) hs h hb
  have hpayout : PayoutEvent c → Field.power ∉ fieldsOf c → DispenserInv t := fun hc hpow => by
    have hon : t.on = s.on := State.on_of_power (exec_touches h .power hpow)
    rcases payout_event_ok hc (fun hrun => hrun ▸ hok) h with rfl | ⟨hrun, hd⟩
    · exact hs
    · exact dispenserInv_iff.2 (by rw [hon, hrun]; exact hd)
  cases c
  case setDispenser src un uc vend jam pick noteLow coinLow =>
    exact hreq h (setDispenser_elim hs fun hv _ => hdisp (setDispenser_ok hok hv))
  case refill src channel stock =>
    exact hreq h (refill_elim hs fun c hle hr => hdisp (hok.setChannel c ((hok.channel c).refilled hr hle)))
  case clearChannel src channel =>
    refine hreq h (clearChannel_elim hs fun c hf => hdisp (hok.setChannel c ?_))
    have hch := hok.channel c
    exact (ChannelRecord.rest_fits hch.stock).congr
      (iff_of_false id fun hr => by simpa [hf] using hch.running.2 hr)
  case backupCrystalStop cycles =>
    change execBackupCrystalStop cycles s = _ at h
    refine event_elim h hs fun hc => hs.stopped ?_ rfl rfl
    simp [State.on, beq_iff_eq.1 hc]
  case powerStop cause =>
    change execPowerStop cause s = _ at h
    unfold execPowerStop at h
    split at h
    · cases h
      exact hs.halt cause
    · exact event_elim h hs fun _ => hs.stopped (Bool.eq_false_iff.2 ‹_›) rfl rfl
  case warmStart =>
    have hsealed : ∀ u : State, DispenserInv u → DispenserInv u.sealed := fun u => hI.kept u.touches_sealed (by simp)
    exact warmKept_dispenser.exec h hs (fun _ _ => hs.warmBlocks) (fun u _ => hsealed u)
      fun cause u _ hu => hsealed _ (hu.halt cause)
  case coldStart found cut =>
    change execColdStart found cut s = _ at h
    refine event_elim h hs fun _ => ?_
    cases cut with
    | none => exact dispenserInv_iff.2 (Dispenser.reset_ok _)
    | some cause => exact hs.coldCut cause
  case inputsSettled v after =>
    change execInputsSettled v after s = _ at h
    refine retainedEvent_elim h hs fun hc => hI.kept (State.touches_sealed _) (by simp) ?_
    have hon : s.on = true := (Bool.and_eq_true_iff.1 hc).1
    refine hI.kept (State.touches_arbitrate _) (by simp) (dispenserInv_iff.2 ?_)
    rw [hon] at hok
    exact { hok with settings := { hok.settings with found := fun e => e } }
  case jobTake => exact hpayout (.jobTake _) (by simp [Instr.source?, payoutFields])
  case noteVendEnd => exact hpayout (.noteVendEnd _) (by simp [Instr.source?, payoutFields])
  case noteExitStart => exact hpayout (.noteExitStart _) (by simp [Instr.source?, payoutFields])
  case noteExitEnd => exact hpayout (.noteExitEnd _ _) (by simp [Instr.source?, payoutFields])
  case noteJamTimeout => exact hpayout .noteJamTimeout (by simp [Instr.source?, payoutFields])
  case coinExitStart => exact hpayout (.coinExitStart _) (by simp [Instr.source?, payoutFields])
  case coinGapTimeout => exact hpayout .coinGapTimeout (by simp [Instr.source?, payoutFields])
  case coinEmptyAsserted => exact hpayout (.coinEmptyAsserted _) (by simp [Instr.source?, payoutFields])
  case runOnEnd => exact hpayout .runOnEnd (by simp [Instr.source?, payoutFields])
  all_goals exact hI.exec hs h (by simp [Instr.source?, replyFields, timeFields, valuationFields, finishFields, scheduleFields])

/-- Settles O50: each event of a job leaves the channel of the phase running and the other at rest, and drives an output only in its
phase; a stop releases both. -/
theorem dispenserInvariantKept : Obligations.DispenserInvariantKept := fun _ _ hs h =>
  step_kept dispenserInv_reads (by simp)
    (fun hs _ => dispenserInv_reads.kept (State.touches_elapse 1 _) (by simp [timeFields]) hs)
    (fun c s => exec_keeps_dispenser c s) hs h

end Sys2Proof.Machine
end

section
/-! SUPPORT. What the paying job goes through, said once (R149 to R158): it is taken, works on its units, counts one, changes its phase,
and ends on a fault or with its ticket settled. What each of these keeps, every event of the dispenser keeps. -/

namespace Sys2Proof.Machine

/-! ### The state but for the job -/

/-- What the dispenser's events touch beside tickets and the queue. -/
def workFields : List Field := [.now, .bus, .office, .acctPort, .check, .disp]

/-- Two states that differ in what the dispenser's work touches, the paying job among it, and not in the denominations. -/
structure State.SameButJob (s t : State) : Prop where
  touches : s.Touches workFields t
  denoms : t.disp.denoms = s.disp.denoms

namespace State.SameButJob

variable {s t u : State}

theorem refl (s : State) : s.SameButJob s := ⟨.refl _ _, rfl⟩

theorem trans (h : s.SameButJob t) (k : t.SameButJob u) : s.SameButJob u := ⟨h.touches.trans k.touches, k.denoms.trans h.denoms⟩

theorem setDisp {d : Dispenser} (s : State) (h : d.denoms = s.disp.denoms) : s.SameButJob (s.setDisp d) :=
  ⟨(s.touches_setDisp d).mono (by simp [workFields]), h⟩

theorem of_touches {fs : List Field} (h : s.Touches fs t) (hs : fs ⊆ [.now, .bus, .office, .acctPort, .check]) : s.SameButJob t :=
  ⟨h.mono fun f hf => by have := hs hf; simp at this; simp [workFields]; tauto, by
    rw [show t.disp = s.disp from h .disp fun hd => by simpa using hs hd]⟩

theorem tellOffice (n : Notice) (s : State) : s.SameButJob (s.tellOffice n) := of_touches (State.touches_tellOffice n s) (by simp)

theorem reach (time : Nat) (s : State) : s.SameButJob (s.reach time) := of_touches (State.touches_reach time s) (by simp [timeFields])

theorem sealed (s : State) : s.SameButJob s.sealed := of_touches s.touches_sealed (by simp)

theorem setChannel (s : State) (c : Channel) (r : ChannelRecord) : s.SameButJob (s.setDisp (s.disp.setChannel c r)) :=
  setDisp s (by cases c <;> rfl)

theorem decrement (c : Channel) (s : State) : s.SameButJob (s.decrement c) := by
  unfold State.decrement
  dsimp only
  split
  · exact tellOffice _ _
  · split
    · exact (setChannel s _ _).trans (tellOffice _ _)
    · exact setChannel s _ _

theorem strayUnit (c : Channel) (s : State) : s.SameButJob (s.strayUnit c) :=
  ((decrement c s).trans (setChannel _ _ _)).trans (tellOffice _ _)

theorem foundEmpty (c : Channel) (s : State) : s.SameButJob (s.foundEmpty c) := by
  unfold State.foundEmpty
  dsimp only
  split
  · exact setChannel s _ _
  · exact (setChannel s _ _).trans (tellOffice _ _)

theorem endCoinFault (cause : FaultCause) (s : State) : s.SameButJob (s.endCoinFault cause) := by
  unfold State.endCoinFault
  split
  · exact foundEmpty _ _
  · exact setDisp s rfl

theorem loosePulse (found : Bool) (s : State) : s.SameButJob (s.loosePulse found) := by
  unfold State.loosePulse
  split
  · exact refl s
  · exact strayUnit _ _

theorem sampleEmpties (e : Empties) (s : State) : s.SameButJob (s.sampleEmpties e) := setDisp s rfl

theorem noteRuns (s : State) (a : Option JobProgress) :
    s.SameButJob (s.setDisp { s.disp with note := { s.disp.note with state := .running }, job := a }) := setDisp s rfl

theorem noteFault (s : State) : s.SameButJob (s.setDisp { s.disp with note := { s.disp.note with state := .fault } }) :=
  setDisp s rfl

end State.SameButJob

/-! ### What the paying job goes through -/

/-- A ticket's payout fault (R158). -/
def Ticket.faulted (cause : FaultCause) (t : Ticket) : Ticket :=
  { t with state := .payFault, progress := t.progress.map fun p => { p with fault := some cause } }

/-- The job progress of a job as it is taken (R150): in the note phase, or in the coin phase where it has no notes. -/
def PayoutJob.taken (j : PayoutJob) : JobProgress :=
  if 0 < j.notes then j.begin else { j.begin with phase := .coins, target := j.coins }

/-- The job has brought out what it was to pay. -/
def JobProgress.Through (un uc : Nat) (j : JobProgress) : Prop :=
  (j.phase = .notes ∧ j.coinTarget un uc = 0) ∨ (j.phase = .runOn ∧ j.fault = none)

/-- The phase a timer belongs to. -/
def DispenserTimer.phase : DispenserTimer → JobPhase
  | .vendEnd | .noteJam => .notes
  | .coinGap => .coins
  | .runOn => .runOn

/-- What every stage of a paying job keeps. -/
structure JobKept (P : State → Prop) : Prop where
  same : ∀ {s t : State}, s.SameButJob t → t.disp.job = s.disp.job → P s → P t
  aside : ∀ {s : State}, P s → P (s.setJob none)
  working : ∀ (w : Option NoteWork) (n : Nat) {j : JobProgress} {s : State}, P (s.setJob (some j)) →
    P (s.setJob (some { j with work := w, since := n }))
  coins : ∀ (w : Option NoteWork) (n : Nat) {j : JobProgress} {s : State}, P (s.setJob (some j)) → j.phase = .notes →
    P (s.setJob (some { j with phase := .coins, target := j.coinTarget s.disp.un s.disp.uc, work := w, since := n }))
  runOn : ∀ (cause : Option FaultCause) (n : Nat) {j : JobProgress} {s : State}, P (s.setJob (some j)) → j.phase = .coins →
    (cause = none → j.target ≤ j.coins) → P (s.setJob (some { j with phase := .runOn, fault := cause, since := n }))
  note : ∀ {j : JobProgress} {s : State}, P (s.setJob (some j)) → j.phase = .notes →
    P ((s.onProgress j.ticket fun p => { p with notesPaid := p.notesPaid + 1 }).setJob (some { j with notes := j.notes + 1 }))
  coin : ∀ {j : JobProgress} {s : State}, P (s.setJob (some j)) → j.phase ≠ .notes →
    P ((s.onProgress j.ticket fun p => { p with coinsPaid := p.coinsPaid + 1 }).setJob (some { j with coins := j.coins + 1 }))
  fault : ∀ {j : JobProgress} (cause : FaultCause) {t : Ticket} {s : State}, P (s.setJob (some j)) → s.ticket? j.ticket = some t →
    P ((s.setJob none).putTicket (t.faulted cause))
  through : ∀ {j : JobProgress} {t : Ticket} {s : State}, P (s.setJob (some j)) → j.Through s.disp.un s.disp.uc →
    s.ticket? j.ticket = some t → P ((s.setJob none).settle t)
  take : ∀ {j : PayoutJob} {rest : List PayoutJob} {s : State}, P s → s.queue = j :: rest → s.idle = true →
    ∃ t, s.ticket? j.ticket = some t ∧ P ((State.putTicket t.startPaying { s with queue := rest }).setJob (some j.taken))

namespace JobKept

variable {P : State → Prop} {s t : State} {j : JobProgress} (h : JobKept P)

include h

/-- The state may change beside the job. -/
theorem moved (hst : s.SameButJob t) {a : Option JobProgress} (hs : P (s.setJob a)) : P (t.setJob a) :=
  have hback : (s.setJob a).SameButJob s := ⟨State.Touches.of_left fun f => by cases f <;> rfl, rfl⟩
  h.same (hback.trans (hst.trans (.setDisp t rfl))) rfl hs

/-- The job is the one the state shows. -/
theorem shows (hst : s.SameButJob t) {a : Option JobProgress} (hj : t.disp.job = a) (hs : P (s.setJob a)) : P t := by
  subst hj
  exact h.moved hst hs

omit h in
theorem ofJob (hj : s.disp.job = some j) (hs : P s) : P (s.setJob (some j)) := by
  rw [← hj]
  exact hs

theorem jobFault {k : JobProgress} (cause : FaultCause) (hk : k.ticket = j.ticket) (hs : P (s.setJob (some k))) :
    P (s.jobFault j cause) := by
  have hoff : s.SameButJob (s.setDisp { s.disp with noteVend := false, coinRun := false }) := .setDisp s rfl
  have htell : ∀ u, P u → P (State.tellOffice .channelFault (State.tellOffice .payFault u)) := fun u hu =>
    h.same ((State.SameButJob.tellOffice _ u).trans (.tellOffice _ _)) (by simp) hu
  unfold State.jobFault
  dsimp only
  refine htell _ ?_
  split
  · rename_i t ht
    rw [← hk] at ht
    exact h.fault cause (h.moved hoff hs) ht
  · exact h.aside (h.moved hoff hs)

theorem jobComplete {k : JobProgress} (hk : k.ticket = j.ticket) (hs : P (s.setJob (some k)))
    (hj : k.Through s.disp.un s.disp.uc) : P (s.jobComplete j) := by
  have hden : s.disp.coinRest.denoms = s.disp.denoms := by rw [Dispenser.coinRest_eq]
  have hrest : s.SameButJob (s.setDisp { s.disp.coinRest with noteVend := false, coinRun := false }) := .setDisp s hden
  unfold State.jobComplete
  dsimp only
  split
  · rename_i t ht
    rw [← hk] at ht
    refine h.through (h.moved hrest hs) ?_ ht
    unfold Dispenser.un Dispenser.uc at hj ⊢
    rw [hrest.denoms]
    exact hj
  · exact h.aside (h.moved hrest hs)

/-- The coin phase of a job that has entered it. -/
theorem startCoins (hs : P (s.setJob (some { j with phase := .coins }))) : P (s.startCoins j) := by
  unfold State.startCoins
  split
  · exact h.jobFault (k := { j with phase := .coins }) _ rfl (h.moved (.foundEmpty _ s) hs)
  · exact h.shows (t := s.setDisp _) (.setDisp s rfl) rfl (h.working none s.now hs)

theorem endNotes (hs : P (s.setJob (some j))) (hp : j.phase = .notes) : P (s.endNotes j) := by
  have hrest : ∀ j', s.SameButJob (s.setDisp { s.disp with note := s.disp.note.rest, noteVend := false, job := some j' }) :=
    fun _ => .setDisp s rfl
  unfold State.endNotes
  dsimp only
  split
  · exact h.startCoins (h.moved (hrest _) (h.coins (j := j) none j.since hs hp))
  · exact h.jobComplete (k := j) rfl (h.moved (hrest _) hs) (.inl ⟨hp, Nat.eq_zero_of_not_pos ‹_›⟩)

theorem driveVend (hs : P (s.setJob (some j))) : P (s.driveVend j) :=
  h.shows (t := s.driveVend j) (.setDisp s rfl) rfl (h.working (some (.vend s.now .awaited)) j.since hs)

theorem startVend (hs : P (s.setJob (some j))) : P (s.startVend j) := by
  unfold State.startVend
  split
  · exact h.jobFault _ rfl (h.moved (.foundEmpty _ s) hs)
  · split
    · exact h.working (some (.waitClear s.now)) j.since hs
    · exact h.driveVend hs

theorem afterVend (hs : P (s.setJob (some j))) (hp : j.phase = .notes) : P (s.afterVend j) := by
  unfold State.afterVend
  split
  · exact h.startVend hs
  · exact h.endNotes hs hp

/-! ### The events of a job that pays -/

theorem vendEnds (hj : s.disp.job = some j) (hp : j.phase = .notes) (e : Empties) (hs : P s) : P (s.vendEnds e j) := by
  unfold State.vendEnds
  split
  · dsimp only
    have hoff : ∀ m, s.SameButJob ((s.reach m).setDisp { (s.reach m).disp with noteVend := false }) := fun m =>
      (State.SameButJob.reach m s).trans (.setDisp _ rfl)
    split
    · exact h.afterVend (h.moved ((hoff _).trans (.sampleEmpties e _)) (ofJob hj hs)) hp
    · exact h.same (hoff _) rfl hs
  · exact hs

theorem noteJams (hj : s.disp.job = some j) (m : Nat) (hs : P s) : P (s.noteJams j m) :=
  h.jobFault _ rfl (h.moved ((State.SameButJob.reach (m + 1) s).trans (.noteFault _)) (ofJob hj hs))

theorem openRunOn (hs : P (s.setJob (some j))) (hp : j.phase = .coins) {cause : Option FaultCause}
    (hc : cause = none → j.target ≤ j.coins) : P (s.openRunOn j cause) :=
  h.shows (t := s.openRunOn j cause) (.setDisp s rfl) rfl (h.runOn cause s.now hs hp hc)

theorem coinGapEnds (hj : s.disp.job = some j) (hp : j.phase = .coins) (hs : P s) : P (s.coinGapEnds j) :=
  h.openRunOn (h.moved (.reach _ s) (ofJob hj hs)) hp fun e => (nomatch e)

theorem runOnEnds (hj : s.disp.job = some j) (hp : j.phase = .runOn) (hs : P s) : P (s.runOnEnds j) := by
  unfold State.runOnEnds
  dsimp only
  split
  · exact h.jobComplete rfl (h.moved (.reach _ s) (ofJob hj hs)) (.inr ⟨hp, ‹_›⟩)
  · exact h.jobFault _ rfl (h.moved ((State.SameButJob.reach _ s).trans (.endCoinFault _ _)) (ofJob hj hs))

omit h in
theorem timer_phase {d : Dispenser} {k : DispenserTimer} {m : Nat} (hk : j.timer d = some (k, m)) : j.phase = k.phase := by
  unfold JobProgress.timer at hk
  split at hk
  · split at hk
    · cases hk
      assumption
    · obtain ⟨_, _, he⟩ := Option.map_eq_some_iff.1 hk
      cases he
      assumption
  · obtain ⟨_, _, he⟩ := Option.map_eq_some_iff.1 hk
    cases he
    assumption
  · cases hk
  · cases hk
    assumption
  · cases hk
    assumption

theorem timerEnds (hj : s.disp.job = some j) {k : DispenserTimer} {m : Nat} (hk : j.timer s.disp = some (k, m)) (hs : P s) :
    P (s.timerEnds k m j) := by
  have hp := timer_phase hk
  cases k
  · exact h.vendEnds hj hp _ hs
  · exact h.noteJams hj m hs
  · exact h.coinGapEnds hj hp hs
  · exact h.runOnEnds hj hp hs

theorem dispenserTimers (fuel time : Nat) (hs : P s) : P (State.dispenserTimers fuel time s) := by
  induction fuel generalizing s with
  | zero => exact hs
  | succ fuel ih =>
    unfold State.dispenserTimers
    split
    · exact hs
    · split
      · exact hs
      · split
        · exact ih (h.same (.sealed _) rfl (h.timerEnds ‹_› ‹_› hs))
        · exact hs

theorem dispenserElapse (after : Nat) (hs : P s) : P (s.dispenserElapse after) :=
  h.same (.reach _ _) rfl (h.dispenserTimers _ _ hs)

/-- A change at an input of the dispenser, the timers that ended before it having taken effect. -/
theorem inputAt {d : Dispenser} {after : Nat} (hj : d.job = (s.dispenserElapse after).disp.job)
    (hd : d.denoms = (s.dispenserElapse after).disp.denoms) (hs : P s) : P ((s.dispenserElapse after).setDisp d) :=
  h.same (.setDisp _ hd) hj (h.dispenserElapse after hs)

theorem countNote (hs : P (s.setJob (some j))) (hp : j.phase = .notes) : P (s.countNote j) :=
  h.note (h.moved (.decrement _ s) hs) hp

theorem countCoin (hs : P (s.setJob (some j))) (hp : j.phase ≠ .notes) : P (s.countCoin j) :=
  h.coin (h.moved (.decrement _ s) hs) hp

theorem countExit (start since : Nat) (hs : P (s.setJob (some j))) (hp : j.phase = .notes) : P (s.countExit start since j) := by
  have hone := h.countNote (j := { j with work := some (.vend start .gone) }) (h.working (some (.vend start .gone)) j.since hs) hp
  unfold State.countExit
  dsimp only
  split
  · exact h.countNote (j := { j with work := some (.vend start .gone), notes := j.notes + 1 }) hone hp
  · exact hone

theorem takeJob {j : PayoutJob} {rest : List PayoutJob} (hq : s.queue = j :: rest) (hi : s.idle = true) (hs : P s) :
    P (State.takeJob j rest s) := by
  obtain ⟨t, ht, hp⟩ := h.take hs hq hi
  unfold State.takeJob
  extract_lets s₁ s₂
  have hput : s₂ = s₁.putTicket t.startPaying := by
    unfold s₂
    rw [show s₁.ticket? j.ticket = some t from ht]
  change P ((s₁.putTicket t.startPaying).setJob (some j.taken)) at hp
  rw [← hput] at hp
  clear_value s₂
  unfold PayoutJob.taken at hp
  split
  · rename_i hn
    rw [if_pos hn] at hp
    exact h.startVend (h.moved (.noteRuns _ _) hp)
  · rename_i hn
    rw [if_neg hn] at hp
    exact h.startCoins hp

/-! ### The commands -/

theorem exec {c : Instr} (hc : PayoutEvent c) (hx : exec c s = .next t) (hs : P s) : P t := by
  have hret : ∀ {b f}, retainedEvent b f s = .next t → (b = true → P (f s)) → P t := fun hx hf =>
    retainedEvent_elim hx hs fun hb => h.same (.sealed _) rfl (hf hb)
  cases hc with
  | jobTake e =>
    change execJobTake e s = _ at hx
    unfold execJobTake at hx
    split at hx
    · exact done_elim hx hs
    · rename_i j rest hq
      refine hret hx fun hb => ?_
      have hi : s.idle = true := by simp only [Bool.and_eq_true] at hb; exact hb.1.2
      exact h.takeJob (s := s.sampleEmpties e) hq hi (h.same (.setDisp s rfl) rfl hs)
  | noteVendEnd e =>
    change execNoteVendEnd e s = _ at hx
    unfold execNoteVendEnd at hx
    split at hx
    · obtain ⟨hj, hp⟩ := Dispenser.noteJob_some ‹_›
      exact hret hx fun _ => h.vendEnds hj hp e hs
    · exact done_elim hx hs
  | noteExitStart after =>
    change execNoteExitStart after s = _ at hx
    refine hret hx fun _ => ?_
    dsimp only
    generalize hu : (s.dispenserElapse after).setDisp _ = u
    have hin : P u := hu ▸ h.inputAt (s := s) (after := after) rfl rfl hs
    split
    · obtain ⟨hj, hp⟩ := Dispenser.noteJob_some ‹_›
      split
      · exact h.working _ _ (ofJob hj hin)
      · exact hin
    · exact hin
  | noteExitEnd e after =>
    change execNoteExitEnd e after s = _ at hx
    refine hret hx fun _ => ?_
    dsimp only
    generalize hu : (s.dispenserElapse after).setDisp _ = u
    have hin : P u := hu ▸ h.inputAt (s := s) (after := after) rfl rfl hs
    have hloose : P (u.loosePulse s.disp.noteFound) := h.same (.loosePulse _ u) (State.loosePulse_job _ u).1 hin
    split
    · rename_i j hjn
      obtain ⟨hj, hp⟩ := Dispenser.noteJob_some hjn
      split
      · rename_i start since _
        have hcount := h.countExit start since (ofJob hj hin) hp
        obtain ⟨n, hn⟩ := State.countExit_job start since j u
        rw [hn]
        dsimp only
        split
        · exact hcount
        · exact h.afterVend (h.moved (.sampleEmpties e _) (ofJob hn hcount)) hp
      · exact h.driveVend (ofJob ((State.loosePulse_job _ u).1.trans hj) hloose)
      · exact hloose
    · exact hloose
  | noteJamTimeout =>
    change execNoteJamTimeout s = _ at hx
    unfold execNoteJamTimeout at hx
    split at hx
    · obtain ⟨hj, _⟩ := Dispenser.noteJob_some ‹_›
      split at hx
      · exact hret hx fun _ => h.noteJams hj _ hs
      · exact done_elim hx hs
    · exact done_elim hx hs
  | coinExitStart after =>
    change execCoinExitStart after s = _ at hx
    refine hret hx fun _ => ?_
    dsimp only
    generalize hu : (s.dispenserElapse after).setDisp _ = u
    have hin : P u := hu ▸ h.inputAt (s := s) (after := after) rfl rfl hs
    have hstray : P (u.strayUnit .coins) := h.same (.strayUnit _ u) (by rw [State.strayUnit_disp]; rfl) hin
    split
    · rename_i j hj
      split
      · exact hstray
      · rename_i hp
        have hcount := h.countCoin (j := { j with since := u.now }) (h.working j.work u.now (ofJob hj hin)) (by simp [hp])
        split
        · exact h.openRunOn (j := { j with since := u.now, coins := j.coins + 1 }) hcount hp fun _ => ‹_›
        · exact hcount
      · rename_i hp
        exact h.countCoin (ofJob hj hin) (by simp [hp])
    · exact hstray
  | coinGapTimeout =>
    change execCoinGapTimeout s = _ at hx
    unfold execCoinGapTimeout at hx
    split at hx
    · obtain ⟨hj, hp⟩ := Dispenser.coinJob_some ‹_›
      exact hret hx fun _ => h.coinGapEnds hj hp hs
    · exact done_elim hx hs
  | coinEmptyAsserted after =>
    change execCoinEmptyAsserted after s = _ at hx
    refine hret hx fun _ => ?_
    dsimp only
    generalize hu : (s.dispenserElapse after).setDisp _ = u
    have hin : P u := hu ▸ h.inputAt (s := s) (after := after) rfl rfl hs
    split
    · obtain ⟨hj, hp⟩ := Dispenser.coinJob_some ‹_›
      exact h.openRunOn (ofJob hj hin) hp fun e => (nomatch e)
    · exact hin
  | runOnEnd =>
    change execRunOnEnd s = _ at hx
    unfold execRunOnEnd at hx
    split at hx
    · rename_i j hj
      exact hret hx fun hb => h.runOnEnds hj (by simpa using (Bool.and_eq_true_iff.1 hb).2) hs
    · exact done_elim hx hs

end JobKept

end Sys2Proof.Machine
end

section
/-! SUPPORT. The flow of tickets (R38, R41, R128, R135): how one ticket of the table changes, appears or leaves, with the orders that
list tickets by their numbers, and what that keeps of the flow invariant. -/

namespace Sys2Proof.Machine

/-! ### Orders of ticket numbers -/

/-- An order of ticket numbers after a change of the ticket of number `n`: the others stand as they did, and `n` stands in it where
`now` says so. -/
structure OrderMoved (n : Nat) (old new : List Nat) (now : Prop) : Prop where
  once : new.Nodup
  others : ∀ m, m ≠ n → (m ∈ new ↔ m ∈ old)
  this : n ∈ new ↔ now

namespace OrderMoved

variable {n : Nat} {old : List Nat} {now : Prop}

theorem same (h : old.Nodup) (hn : n ∈ old ↔ now) : OrderMoved n old old now := ⟨h, fun _ _ => .rfl, hn⟩

theorem append (h : old.Nodup) (hn : n ∉ old) (hnow : now) : OrderMoved n old (old ++ [n]) now where
  once := List.nodup_append.2 ⟨h, List.nodup_singleton n, fun a ha b hb hab => hn (by simpa [← List.mem_singleton.1 hb, hab] using ha)⟩
  others := fun m hm => by simp [hm]
  this := iff_of_true (by simp) hnow

theorem leave (h : old.Nodup) (hnow : ¬now) : OrderMoved n old (old.filter (· != n)) now where
  once := h.filter _
  others := fun m hm => by simp [hm]
  this := iff_of_false (by simp) hnow

theorem tail (h : (n :: old).Nodup) (hnow : ¬now) : OrderMoved n (n :: old) old now where
  once := (List.nodup_cons.1 h).2
  others := fun m hm => by simp [hm]
  this := iff_of_false (List.nodup_cons.1 h).1 hnow

end OrderMoved

/-! ### Lanes -/

/-- The lanes attached to a ticket. -/
def Ticket.lanes (t : Ticket) : List Nat := t.attachments.map (·.lane)

/-- No lane stands twice in the table exactly where none stands twice in a ticket or in two. -/
theorem nodup_lanes_iff {ts : List Ticket} (hnum : (ts.map (·.number)).Nodup) : (ts.flatMap fun t => t.lanes).Nodup ↔
    (∀ t ∈ ts, t.lanes.Nodup) ∧ ∀ t ∈ ts, ∀ u ∈ ts, t.number ≠ u.number → t.lanes.Disjoint u.lanes := by
  rw [List.nodup_flatMap]
  refine and_congr_right fun _ => ⟨fun h t ht u hu hne => ?_, fun h => ?_⟩
  · have hsym : Std.Symm (Function.onFun List.Disjoint Ticket.lanes) := ⟨fun _ _ (hd : List.Disjoint _ _) => hd.symm⟩
    exact h.forall ht hu fun (e : t = u) => hne (congrArg Ticket.number e)
  · have hne : ts.Pairwise fun t u => t.number ≠ u.number := List.pairwise_map.1 hnum
    exact hne.imp_of_mem fun ht hu hn => h _ ht _ hu hn

/-! ### One ticket changes -/

theorem State.mem_putTicket_iff {v w x : Ticket} {s : State} (hw : w ∈ s.tickets) (hn : v.number = w.number) :
    x ∈ (s.putTicket v).tickets ↔ some v = some x ∨ (x ∈ s.tickets ∧ x.number ≠ w.number) := by
  refine ⟨fun h => (State.mem_putTicket h).imp (fun e => congrArg some e.symm) fun ⟨h, hne⟩ => ⟨h, hn ▸ hne⟩, ?_⟩
  rintro (h | ⟨h, hne⟩)
  · cases h
    exact List.mem_map.2 ⟨w, hw, if_pos hn.symm⟩
  · exact List.mem_map.2 ⟨x, h, if_neg (hn ▸ hne)⟩

/-- Two tickets of one number are the same. -/
theorem FlowInv.unique {s : State} (h : FlowInv s) {t u : Ticket} (ht : t ∈ s.tickets) (hu : u ∈ s.tickets)
    (hn : t.number = u.number) : t = u := List.inj_on_of_nodup_map h.numbers ht hu hn

section

variable {s u : State} (h : FlowInv s) {w : Ticket} (hw : w ∈ s.tickets)

include h hw

theorem FlowInv.state_iff {order : List Nat} {st : TicketState}
    (ho : ∀ n, n ∈ order ↔ ∃ t ∈ s.tickets, t.number = n ∧ t.state = st) : w.number ∈ order ↔ w.state = st := by
  refine (ho _).trans ⟨fun ⟨t, ht, hn, hs⟩ => ?_, fun hs => ⟨w, hw, rfl, hs⟩⟩
  rwa [h.unique ht hw hn] at hs

theorem FlowInv.closing_iff : w.number ∈ s.closingOrder ↔ w.state = .closing := h.state_iff hw h.closing.2

theorem FlowInv.waiting_iff : w.number ∈ s.waiting ↔ w.state = .settled := h.state_iff hw h.waiting.2

theorem FlowInv.queued_iff : w.number ∈ s.queue.map (·.ticket) ↔ w.state = .authorised :=
  h.state_iff hw fun n => by rw [List.mem_map]; exact h.jobs.2 n

theorem FlowInv.closing_same {st : Option TicketState} (hst : st = some .closing ↔ w.state = .closing) :
    OrderMoved w.number s.closingOrder s.closingOrder (st = some .closing) :=
  .same h.closing.1 ((h.closing_iff hw).trans hst.symm)

theorem FlowInv.waiting_same {st : Option TicketState} (hst : st = some .settled ↔ w.state = .settled) :
    OrderMoved w.number s.waiting s.waiting (st = some .settled) :=
  .same h.waiting.1 ((h.waiting_iff hw).trans hst.symm)

theorem FlowInv.queued_same {st : Option TicketState} (hst : st = some .authorised ↔ w.state = .authorised) :
    OrderMoved w.number (s.queue.map (·.ticket)) (s.queue.map (·.ticket)) (st = some .authorised) :=
  .same h.jobs.1 ((h.queued_iff hw).trans hst.symm)

/-- A lane feeds OPEN and CLOSING tickets only (R41). -/
theorem FlowInv.attachments_nil (ho : w.state ≠ .opened) (hc : w.state ≠ .closing) : w.attachments = [] := by
  by_contra hne
  rcases (h.attach w hw).open_or_closing hne with he | he
  · exact ho he
  · exact hc he

end

/-- A ticket that may stand in the table beside the others. -/
structure Ticket.FlowOk (t : Ticket) (s : State) : Prop where
  attach : t.AttachOk
  once : t.lanes.Nodup
  apart : ∀ u ∈ s.tickets, u.number ≠ t.number → t.lanes.Disjoint u.lanes
  record : t.record.isSome = true ↔ t.state = .settled
  notFree : t.state ≠ .free

/-- The flow where the ticket of number `n` has become `v`: replaced, new, or gone where `v` is none. -/
theorem FlowInv.change {s u : State} (h : FlowInv s) {n : Nat} {v : Option Ticket}
    (hmem : ∀ x, x ∈ u.tickets ↔ v = some x ∨ (x ∈ s.tickets ∧ x.number ≠ n)) (hnum : (u.tickets.map (·.number)).Nodup)
    (hv : ∀ x, v = some x → x.number = n ∧ x.FlowOk s)
    (hclosing : OrderMoved n s.closingOrder u.closingOrder (v.map (·.state) = some .closing))
    (hjobs : OrderMoved n (s.queue.map (·.ticket)) (u.queue.map (·.ticket)) (v.map (·.state) = some .authorised))
    (hamounts : ∀ j ∈ u.queue, 0 < j.amount)
    (hwaiting : OrderMoved n s.waiting u.waiting (v.map (·.state) = some .settled))
    (hpaying : ∀ j, u.disp.job = some j → if j.ticket = n then v.map (·.state) = some .paying
      else ∃ k, s.disp.job = some k ∧ k.ticket = j.ticket)
    (hone : v.map (·.state) = some .paying → ∀ t ∈ s.tickets, t.number ≠ n → t.state ≠ .paying) : FlowInv u := by
  have hshow : ∀ st, (∃ t ∈ u.tickets, t.number = n ∧ t.state = st) ↔ v.map (·.state) = some st := fun st => by
    constructor
    · rintro ⟨t, ht, hn, hs⟩
      rcases (hmem t).1 ht with he | ⟨_, hne⟩
      · rw [he, ← hs]
        rfl
      · exact absurd hn hne
    · intro hs
      obtain ⟨t, ht, hst⟩ := Option.map_eq_some_iff.1 hs
      exact ⟨t, (hmem t).2 (.inl ht), (hv t ht).1, hst⟩
  have hother : ∀ m, m ≠ n → ∀ st, (∃ t ∈ u.tickets, t.number = m ∧ t.state = st) ↔
      ∃ t ∈ s.tickets, t.number = m ∧ t.state = st := by
    intro m hm st
    refine exists_congr fun t => ⟨fun ⟨ht, hn, hs⟩ => ⟨?_, hn, hs⟩,
      fun ⟨ht, hn, hs⟩ => ⟨(hmem t).2 (.inr ⟨ht, hn ▸ hm⟩), hn, hs⟩⟩
    rcases (hmem t).1 ht with he | ⟨ht, _⟩
    · exact absurd (hn.symm.trans (hv t he).1) hm
    · exact ht
  have horder : ∀ {old new : List Nat} {st : TicketState}, OrderMoved n old new (v.map (·.state) = some st) →
      (∀ m, m ∈ old ↔ ∃ t ∈ s.tickets, t.number = m ∧ t.state = st) →
      ∀ m, m ∈ new ↔ ∃ t ∈ u.tickets, t.number = m ∧ t.state = st := by
    intro old new st ho hold m
    by_cases hm : m = n
    · subst hm
      exact ho.this.trans (hshow st).symm
    · exact (ho.others m hm).trans ((hold m).trans (hother m hm st).symm)
  have hlanes := (nodup_lanes_iff h.numbers).1 h.oneTicketPerLane
  have hjob := horder hjobs fun m => List.mem_map.trans (h.jobs.2 m)
  refine ⟨hnum, fun x hx => ?_, (nodup_lanes_iff hnum).2 ⟨fun x hx => ?_, fun x hx y hy hne => ?_⟩,
    ⟨hclosing.once, horder hclosing h.closing.2⟩, ⟨hjobs.once, fun m => List.mem_map.symm.trans (hjob m)⟩, hamounts,
    fun j hj => ?_, fun x hx y hy hsx hsy => ?_, ⟨hwaiting.once, horder hwaiting h.waiting.2⟩, fun x hx => ?_, fun x hx => ?_⟩
  · rcases (hmem x).1 hx with he | ⟨hx, _⟩
    · exact (hv x he).2.attach
    · exact h.attach x hx
  · rcases (hmem x).1 hx with he | ⟨hx, _⟩
    · exact (hv x he).2.once
    · exact hlanes.1 x hx
  · rcases (hmem x).1 hx with he | ⟨hx, hxn⟩ <;> rcases (hmem y).1 hy with hf | ⟨hy, hyn⟩
    · rw [he, Option.some.injEq] at hf
      exact absurd (hf ▸ rfl) hne
    · exact (hv x he).2.apart y hy fun e => hne e.symm
    · exact ((hv y hf).2.apart x hx hne).symm
    · exact hlanes.2 x hx y hy hne
  · have hp := hpaying j hj
    split at hp
    · rename_i hn
      rw [hn]
      exact (hshow _).2 hp
    · obtain ⟨k, hk, hkj⟩ := hp
      exact (hother _ ‹_› _).2 (hkj ▸ h.paying k hk)
  · rcases (hmem x).1 hx with he | ⟨hx, hxn⟩ <;> rcases (hmem y).1 hy with hf | ⟨hy, hyn⟩
    · rw [he, Option.some.injEq] at hf
      exact hf
    · exact absurd hsy (hone (by rw [he, ← hsx]; rfl) y hy hyn)
    · exact absurd hsx (hone (by rw [hf, ← hsy]; rfl) x hx hxn)
    · exact h.onePaying x hx y hy hsx hsy
  · rcases (hmem x).1 hx with he | ⟨hx, _⟩
    · exact (hv x he).2.record
    · exact h.records x hx
  · rcases (hmem x).1 hx with he | ⟨hx, _⟩
    · exact (hv x he).2.notFree
    · exact h.notFree x hx

end Sys2Proof.Machine
end

section
/-! SUPPORT. The flow of tickets through the operations of the ticket table (R41 to R50, R58, R118, R128 to R135). -/

namespace Sys2Proof.Machine

/-! ### A ticket replaced in its place -/

theorem OrderMoved.congr {n : Nat} {old new : List Nat} {p q : Prop} (h : OrderMoved n old new p) (hpq : p ↔ q) :
    OrderMoved n old new q := { h with this := h.this.trans hpq }

theorem Ticket.lanes_eq_nil {t : Ticket} : t.lanes = [] ↔ t.attachments = [] := by simp [Ticket.lanes]

/-- What a ticket's attachments may be, said of its lanes (R41). -/
theorem Ticket.attachOk_iff {t : Ticket} : t.AttachOk ↔
    (t.lanes ≠ [] → t.state = .opened ∨ t.state = .closing) ∧ ∀ l ∈ t.lanes, l ≤ 9 ∧ (6 ≤ l → t.state = .opened) := by
  constructor
  · intro h
    refine ⟨fun hn => h.open_or_closing (mt Ticket.lanes_eq_nil.2 hn), fun l hl => ?_⟩
    obtain ⟨e, he, rfl⟩ := List.mem_map.1 hl
    exact ⟨h.lanes e he, h.pulse e he⟩
  · rintro ⟨h, hl⟩
    exact ⟨fun hn => h (mt Ticket.lanes_eq_nil.1 hn), fun e he => (hl _ (List.mem_map_of_mem he)).1,
      fun e he => (hl _ (List.mem_map_of_mem he)).2⟩

theorem Ticket.AttachOk.nil {t : Ticket} (h : t.attachments = []) : t.AttachOk := by
  rw [Ticket.attachOk_iff, Ticket.lanes_eq_nil.2 h]
  exact ⟨fun hn => absurd rfl hn, fun _ hl => absurd hl List.not_mem_nil⟩

/-- A ticket keeps its state and loses lanes at most. -/
theorem Ticket.AttachOk.sublist {v w : Ticket} (h : w.AttachOk) (hl : v.lanes.Sublist w.lanes) (hs : v.state = w.state) :
    v.AttachOk := by
  rw [Ticket.attachOk_iff] at h ⊢
  rw [hs]
  exact ⟨fun hn => h.1 fun e => hn (List.sublist_nil.1 (e ▸ hl)), fun l hm => h.2 l (hl.subset hm)⟩

section

variable {s u : State} (h : FlowInv s) {v w : Ticket} (hw : w ∈ s.tickets) (hn : v.number = w.number)

include h

/-- The flow reads the tickets, three orders and the number of the paying job's ticket. -/
theorem FlowInv.of_eq (ht : u.tickets = s.tickets) (hc : u.closingOrder = s.closingOrder) (hq : u.queue = s.queue)
    (hwt : u.waiting = s.waiting) (hj : ∀ j, u.disp.job = some j → ∃ k, s.disp.job = some k ∧ k.ticket = j.ticket) : FlowInv u where
  numbers := ht ▸ h.numbers
  attach := ht ▸ h.attach
  oneTicketPerLane := ht ▸ h.oneTicketPerLane
  closing := by rw [ht, hc]; exact h.closing
  jobs := by rw [ht, hq]; exact h.jobs
  amounts := hq ▸ h.amounts
  paying := fun j hjob => by
    obtain ⟨k, hk, hkj⟩ := hj j hjob
    rw [ht, ← hkj]
    exact h.paying k hk
  onePaying := ht ▸ h.onePaying
  waiting := by rw [ht, hwt]; exact h.waiting
  records := ht ▸ h.records
  notFree := ht ▸ h.notFree

include hw

/-- The paying job is not of a ticket that is not PAYING. -/
theorem FlowInv.job_apart (hs : w.state ≠ .paying) {j : JobProgress} (hj : s.disp.job = some j) : j.ticket ≠ w.number := fun e => by
  obtain ⟨t, ht, hn, hp⟩ := h.paying j hj
  rw [h.unique ht hw (hn.trans e)] at hp
  exact hs hp

theorem FlowInv.lanes_sublist (hl : v.lanes.Sublist w.lanes) :
    v.lanes.Nodup ∧ ∀ x ∈ s.tickets, x.number ≠ w.number → v.lanes.Disjoint x.lanes := by
  have hlanes := (nodup_lanes_iff h.numbers).1 h.oneTicketPerLane
  exact ⟨(hlanes.1 w hw).sublist hl, fun x hx hne l hv hm => hlanes.2 x hx w hw hne hm (hl.subset hv)⟩

include hn

theorem FlowInv.flowOk (hl : v.lanes.Sublist w.lanes) (ha : v.AttachOk) (hr : v.record.isSome = true ↔ v.state = .settled)
    (hf : v.state ≠ .free) : v.FlowOk s :=
  have ⟨hnd, hd⟩ := h.lanes_sublist hw hl
  ⟨ha, hnd, fun x hx hne => hd x hx (hn ▸ hne), hr, hf⟩

/-- A ticket replaced: the three orders follow its state, and it is PAYING as it was. -/
theorem FlowInv.replaced (ht : u.tickets = (s.putTicket v).tickets) (hv : v.FlowOk s) (hpay : v.state = .paying ↔ w.state = .paying)
    (hjob : u.disp.job = s.disp.job) (hclosing : OrderMoved w.number s.closingOrder u.closingOrder (v.state = .closing))
    (hjobs : OrderMoved w.number (s.queue.map (·.ticket)) (u.queue.map (·.ticket)) (v.state = .authorised))
    (hamounts : ∀ j ∈ u.queue, 0 < j.amount) (hwaiting : OrderMoved w.number s.waiting u.waiting (v.state = .settled)) :
    FlowInv u := by
  have hst : ∀ st, v.state = st ↔ (some v).map (·.state) = some st := fun st => by simp
  refine h.change (n := w.number) (v := some v) (fun x => by rw [ht]; exact State.mem_putTicket_iff hw hn)
    (by rw [ht, State.putTicket_numbers]; exact h.numbers) ?_ (hclosing.congr (hst _)) (hjobs.congr (hst _)) hamounts
    (hwaiting.congr (hst _)) (fun j hj => ?_) fun hp t htm hne hpt => ?_
  · rintro _ ⟨⟩
    exact ⟨hn, hv⟩
  · rw [hjob] at hj
    split
    · rename_i he
      rw [← hst, hpay]
      exact by_contra fun hs => h.job_apart hw hs hj he
    · exact ⟨j, hj, rfl⟩
  · exact hne (congrArg _ (h.onePaying t htm w hw hpt (hpay.1 ((hst _).2 hp))))

/-- A ticket retold in its state, with lanes lost at most. -/
theorem FlowInv.retold (ht : u.tickets = (s.putTicket v).tickets) (hl : v.lanes.Sublist w.lanes) (hs : v.state = w.state)
    (hr : v.record = w.record) (hjob : u.disp.job = s.disp.job) (hc : u.closingOrder = s.closingOrder) (hq : u.queue = s.queue)
    (hwt : u.waiting = s.waiting) : FlowInv u := by
  refine h.replaced hw hn ht (h.flowOk hw hn hl ((h.attach w hw).sublist hl hs) (by rw [hr, hs]; exact h.records w hw)
    (hs ▸ h.notFree w hw)) (by rw [hs]) hjob ?_ ?_ (hq ▸ h.amounts) ?_
  · rw [hc, hs]
    exact .same h.closing.1 (h.closing_iff hw)
  · rw [hq, hs]
    exact .same h.jobs.1 (h.queued_iff hw)
  · rw [hwt, hs]
    exact .same h.waiting.1 (h.waiting_iff hw)

end

/-! ### Operations of the table -/

/-- A ticket that lost lanes or was counted into is valued (R108, R118). -/
theorem FlowInv.valueTicket {s : State} (h : FlowInv s) {v w : Ticket} (hw : w ∈ s.tickets) (hn : v.number = w.number)
    (hr : v.record = w.record) (hs : w.state = .opened ∨ w.state = .closing) (forced : Bool) : FlowInv (s.valueTicket forced v) := by
  have hout : ∀ st, st ≠ .opened → st ≠ .closing → w.state ≠ st := fun st h1 h2 e => by
    rcases hs with hs | hs
    · exact h1 (e.symm.trans hs)
    · exact h2 (e.symm.trans hs)
  have hrec : v.record.isSome = true ↔ TicketState.valued = .settled := by
    rw [hr, h.records w hw]
    exact iff_of_false (hout _ (by decide) (by decide)) (by decide)
  have hfree : TicketState.valued ≠ .free := by decide
  have hok : (s.valuedTicket forced v).FlowOk s :=
    h.flowOk (v := s.valuedTicket forced v) hw hn (List.nil_sublist _) (.nil rfl) hrec hfree
  refine h.replaced (v := s.valuedTicket forced v) hw hn (State.valueTicket_tickets_eq _ _ _) hok
    (iff_of_false (by decide : TicketState.valued ≠ .paying) (hout _ (by decide) (by decide))) (by simp) ?_ ?_ (by simpa using h.amounts) ?_
  · rw [State.valueTicket_closingOrder, hn]
    exact .leave h.closing.1 (by decide : TicketState.valued ≠ .closing)
  · rw [State.valueTicket_queue]
    exact .same h.jobs.1 ((h.queued_iff hw).trans (iff_of_false (hout _ (by decide) (by decide)) (by decide : TicketState.valued ≠ .authorised)))
  · rw [State.valueTicket_waiting]
    exact .same h.waiting.1 ((h.waiting_iff hw).trans (iff_of_false (hout _ (by decide) (by decide)) (by decide : TicketState.valued ≠ .settled)))

/-- A ticket ends (R135): its slot becomes FREE, or it waits in it with its record. -/
theorem FlowInv.finished {s p : State} (h : FlowInv s) {t w : Ticket} {r : LogRecord} (hw : w ∈ s.tickets) (hn : t.number = w.number)
    (hs : t.state = .settled) (ha : t.attachments = []) (hws : w.state ≠ .settled) (ht : p.tickets = s.tickets)
    (hwt : p.waiting = s.waiting) (hjob : ∀ j, p.disp.job = some j → s.disp.job = some j ∧ j.ticket ≠ w.number)
    (hclosing : OrderMoved w.number s.closingOrder p.closingOrder False)
    (hjobs : OrderMoved w.number (s.queue.map (·.ticket)) (p.queue.map (·.ticket)) False) (hamounts : ∀ j ∈ p.queue, 0 < j.amount) :
    FlowInv (p.finish t r) := by
  have hrest := State.touches_finish t r p
  have hq : (p.finish t r).queue = p.queue := hrest .queue (by simp [finishFields])
  have hc : (p.finish t r).closingOrder = p.closingOrder := hrest .closingOrder (by simp [finishFields])
  have hd : (p.finish t r).disp = p.disp := hrest .disp (by simp [finishFields])
  have hpaying : ∀ {st : Option TicketState} j, (p.finish t r).disp.job = some j → if j.ticket = w.number then st = some .paying
      else ∃ k, s.disp.job = some k ∧ k.ticket = j.ticket := fun j hj => by
    rw [hd] at hj
    rw [if_neg (hjob j hj).2]
    exact ⟨j, (hjob j hj).1, rfl⟩
  by_cases hroom : p.log.length < 64
  · have htab : (p.finish t r).tickets = s.tickets.filter fun x => x.number != w.number := by
      rw [State.finish_tickets, if_pos hroom, ht, hn]
    refine h.change (n := w.number) (v := none) (fun x => by simp [htab]) ?_ (fun x hx => (nomatch hx)) ?_ ?_ (hq ▸ hamounts) ?_ hpaying
      fun hp => (nomatch hp)
    · rw [htab]
      exact h.numbers.sublist (List.filter_sublist.map _)
    · rw [hc]
      exact hclosing.congr (by simp)
    · rw [hq]
      exact hjobs.congr (by simp)
    · rw [State.finish_waiting, if_pos hroom, hwt]
      exact .same h.waiting.1 ((h.waiting_iff hw).trans (iff_of_false hws (by simp)))
  · have htab : (p.finish t r).tickets = (s.putTicket { t with record := some r }).tickets := by
      rw [State.finish_tickets, if_neg hroom, ht]
      rfl
    have hok : Ticket.FlowOk { t with record := some r } s :=
      h.flowOk (v := { t with record := some r }) hw hn (by simp [Ticket.lanes, ha]) (.nil ha)
        (iff_of_true rfl hs) (by simp [hs])
    refine h.change (n := w.number) (v := some { t with record := some r }) (fun x => ?_) ?_ ?_ ?_ ?_ (hq ▸ hamounts) ?_ hpaying ?_
    · rw [htab]
      exact State.mem_putTicket_iff (v := { t with record := some r }) hw hn
    · rw [htab, State.putTicket_numbers]
      exact h.numbers
    · rintro _ ⟨⟩
      exact ⟨hn, hok⟩
    · rw [hc]
      exact hclosing.congr (by simp [hs])
    · rw [hq]
      exact hjobs.congr (by simp [hs])
    · rw [State.finish_waiting, if_neg hroom, hwt, hn]
      exact .append h.waiting.1 (mt (h.waiting_iff hw).1 hws) (by simp [hs])
    · simp [hs]

/-- A ticket that no lane feeds and that waits for no payout settles (R134). -/
theorem FlowInv.settled {s p : State} (h : FlowInv s) {t w : Ticket} (hw : w ∈ s.tickets) (hn : t.number = w.number)
    (ha : t.attachments = w.attachments) (hst : w.state = .valued ∨ w.state = .payFault ∨ w.state = .paying)
    (ht : p.tickets = s.tickets) (hwt : p.waiting = s.waiting) (hc : p.closingOrder = s.closingOrder) (hq : p.queue = s.queue)
    (hjob : ∀ j, p.disp.job = some j → s.disp.job = some j ∧ j.ticket ≠ w.number) : FlowInv (p.settle t) := by
  have hout : ∀ st, st ≠ .valued → st ≠ .payFault → st ≠ .paying → w.state ≠ st := by
    rintro st h1 h2 h3 rfl
    rcases hst with hst | hst | hst
    · exact h1 hst
    · exact h2 hst
    · exact h3 hst
  have hnil : w.attachments = [] := h.attachments_nil hw (hout _ (by decide) (by decide) (by decide)) (hout _ (by decide) (by decide) (by decide))
  refine h.finished (t := p.settledForm t) hw hn rfl (ha.trans hnil) (hout _ (by decide) (by decide) (by decide)) ht hwt hjob ?_ ?_ (hq ▸ h.amounts)
  · rw [hc]
    exact .same h.closing.1 ((h.closing_iff hw).trans (iff_of_false (hout _ (by decide) (by decide) (by decide)) id))
  · rw [hq]
    exact .same h.jobs.1 ((h.queued_iff hw).trans (iff_of_false (hout _ (by decide) (by decide) (by decide)) id))

end Sys2Proof.Machine
end

section
/-! SUPPORT. What arrivals and holds leave of a ticket (R52, R55, R71, R97, R102), and the flow of tickets through the stages of a
paying job (R149 to R158) and the phases of a start (R64, R65). -/

namespace Sys2Proof.Machine

/-! ### The course of a ticket -/

/-- What of a ticket its tally, its tags and its holds leave alone: number, state, lanes, record and amounts. -/
def Ticket.course (t : Ticket) : (Nat × TicketState × List Nat × Option LogRecord) × Option Authorisation × Option Progress × Nat :=
  ((t.number, t.state, t.lanes, t.record), t.authorisation, t.progress, t.total)

/-- At most one ticket of the table is told anew, in its course. -/
def State.Retells (s t : State) : Prop :=
  t.tickets = s.tickets ∨ ∃ w ∈ s.tickets, ∃ v, Ticket.course v = Ticket.course w ∧ t.tickets = (s.putTicket v).tickets

theorem Ticket.countArrival_course (lane : Nat) (t : Ticket) : (t.countArrival lane).course = t.course := by
  have hl : (t.countArrival lane).lanes = t.lanes := by
    unfold Ticket.lanes Ticket.countArrival
    rw [List.map_map]
    refine List.map_congr_left fun e _ => ?_
    simp only [Function.comp_apply]
    split <;> rfl
  show ((_, _, (t.countArrival lane).lanes, _), _) = _
  rw [hl]
  rfl

theorem Ticket.placeItems_course (r : ClassRecord) (c : ClassId) (o : Origin) (k : Condition) (n carried : Nat) (t : Ticket) :
    (t.placeItems r c o k n carried).course = t.course := rfl

theorem State.Retells.arrival {s : State} {t : Ticket} (ht : t ∈ s.tickets) (lane : StationLane) (c : ClassId) (o : Origin)
    (k : Condition) (n carried : Nat) (tag : Option Nat) : s.Retells (s.acceptArrival lane c o k n carried tag t) := by
  have hrecord : ∀ g (t : Ticket), (s.recordTag g lane t).1.course = t.course ∧ (s.recordTag g lane t).2.tickets = s.tickets :=
    fun g t => by
      rw [State.recordTag_eq]
      exact ⟨rfl, rfl⟩
  have hwatch : ∀ g (t : Ticket) (p : State), (p.watchTag g t).1.course = t.course ∧ (p.watchTag g t).2.tickets = p.tickets :=
    fun g t p => by
      rw [State.watchTag_eq]
      exact ⟨rfl, rfl⟩
  have hput : ∀ {u : Ticket} {p : State}, u.course = t.course → p.tickets = s.tickets →
      s.Retells (p.putTicket (u.countArrival lane.val)) := fun {u p} hu hp =>
    .inr ⟨t, ht, u.countArrival lane.val, (u.countArrival_course _).trans hu, by simp only [State.putTicket, hp]⟩
  unfold State.acceptArrival
  extract_lets r t₁ t₂ p
  have h2 : t₂.course = t.course := by
    unfold t₂
    split <;> rfl
  cases tag with
  | none => exact hput h2 rfl
  | some g => exact hput ((hwatch g _ _).1.trans ((hrecord g _).1.trans h2)) ((hwatch g _ _).2.trans (hrecord g _).2)

theorem State.Retells.peye (s : State) (i : PulseIx) (blocked : Bool) : s.Retells (s.peye i blocked) := by
  have hput : ∀ {u : State} {v t : Ticket}, t ∈ u.tickets → u.tickets = s.tickets → v.course = t.course → s.Retells (u.putTicket v) :=
    fun {u v t} ht hu hv => .inr ⟨t, hu ▸ ht, v, hv, by simp only [State.putTicket, hu]⟩
  have harrival : ∀ u : State, u.tickets = s.tickets → s.Retells (u.pulseArrival i) := fun u hu => by
    unfold State.pulseArrival
    dsimp only
    split
    · exact .inl hu
    · rename_i t ht
      split
      · exact .inl hu
      · exact hput (State.feeding_some ht).1 hu ((Ticket.countArrival_course _ _).trans (Ticket.placeItems_course _ _ _ _ _ _ _))
  have hedge : ∀ u : State, u.tickets = s.tickets → s.Retells (u.countingEdge i) := fun u hu => by
    unfold State.countingEdge
    dsimp only
    split
    · exact harrival _ hu
    · exact .inl hu
  unfold State.peye
  dsimp only
  split
  · exact .inl rfl
  · split
    · exact hedge _ rfl
    · exact .inl rfl

/-! ### The flow through them -/

theorem flowInv_reads : Reads FlowInv [.tickets, .closingOrder, .queue, .waiting, .disp] := fun s t h hs =>
  hs.of_eq (h .tickets (by simp)) (h .closingOrder (by simp)) (h .queue (by simp)) (h .waiting (by simp)) fun j hj =>
    ⟨j, by rw [← show t.disp = s.disp from h .disp (by simp)]; exact hj, rfl⟩

theorem Ticket.course_fields {v w : Ticket} (h : v.course = w.course) :
    v.number = w.number ∧ v.state = w.state ∧ v.lanes = w.lanes ∧ v.record = w.record := by
  have h1 := congrArg Prod.fst h
  simpa [Ticket.course] using h1

theorem FlowInv.retells {s t : State} (h : FlowInv s) (hr : s.Retells t) (hjob : t.disp.job = s.disp.job)
    (hc : t.closingOrder = s.closingOrder) (hq : t.queue = s.queue) (hw : t.waiting = s.waiting) : FlowInv t := by
  rcases hr with ht | ⟨w, hm, v, hv, ht⟩
  · exact h.of_eq ht hc hq hw fun j hj => ⟨j, hjob ▸ hj, rfl⟩
  · obtain ⟨hn, hs, hl, hrec⟩ := Ticket.course_fields hv
    exact h.retold hm hn ht (hl ▸ List.Sublist.refl _) hs hrec hjob hc hq hw

/-! ### The flow through the stages of a paying job -/

/-- A PAYING ticket comes into payout fault, and no job pays any more. -/
theorem FlowInv.faulted {s u : State} (h : FlowInv s) {v w : Ticket} (hw : w ∈ s.tickets) (hp : w.state = .paying)
    (hn : v.number = w.number) (hs : v.state = .payFault) (ha : v.attachments = w.attachments) (hr : v.record = w.record)
    (ht : u.tickets = (s.putTicket v).tickets) (hjob : u.disp.job = none) (hc : u.closingOrder = s.closingOrder)
    (hq : u.queue = s.queue) (hwt : u.waiting = s.waiting) : FlowInv u := by
  have hst : ∀ st, st ≠ .payFault → ¬(some v).map (·.state) = some st := fun st hne e => by
    simp only [Option.map_some, Option.some.injEq, hs] at e
    exact hne e.symm
  have hnil : w.attachments = [] := h.attachments_nil hw (by simp [hp]) (by simp [hp])
  have hrec := h.records w hw
  have hok : v.FlowOk s := h.flowOk hw hn (by simp [Ticket.lanes, ha]) (.nil (ha.trans hnil))
    (by rw [hr, hrec, hp, hs]; decide) (by simp [hs])
  refine h.change (n := w.number) (v := some v) (fun x => by rw [ht]; exact State.mem_putTicket_iff hw hn)
    (by rw [ht, State.putTicket_numbers]; exact h.numbers) (fun x hx => Option.some.inj hx ▸ ⟨hn, hok⟩) ?_ ?_ (hq ▸ h.amounts) ?_
    (fun j hj => by rw [hjob] at hj; cases hj) fun e => absurd e (hst _ (by decide))
  · rw [hc]
    exact h.closing_same hw (iff_of_false (hst _ (by decide)) (by simp [hp]))
  · rw [hq]
    exact h.queued_same hw (iff_of_false (hst _ (by decide)) (by simp [hp]))
  · rw [hwt]
    exact h.waiting_same hw (iff_of_false (hst _ (by decide)) (by simp [hp]))

/-- The head job is taken: its ticket becomes PAYING (R149). -/
theorem FlowInv.taken {s u : State} (h : FlowInv s) {j : PayoutJob} {rest : List PayoutJob} (hq : s.queue = j :: rest)
    (hi : s.idle = true) {w : Ticket} (hw : w ∈ s.tickets) (hn : w.number = j.ticket) (ht : u.tickets = (s.putTicket w.startPaying).tickets)
    (hjob : ∀ k, u.disp.job = some k → k.ticket = j.ticket) (hc : u.closingOrder = s.closingOrder) (huq : u.queue = rest)
    (hwt : u.waiting = s.waiting) : FlowInv u := by
  have hnone : ∀ t ∈ s.tickets, t.state ≠ .paying := by
    have := (Bool.and_eq_true_iff.1 hi).2
    simpa using this
  have hauth : w.state = .authorised := (h.queued_iff hw).1 (by rw [hq, hn]; simp)
  have hnil : w.attachments = [] := h.attachments_nil hw (by simp [hauth]) (by simp [hauth])
  have hst : ∀ st, st ≠ .paying → ¬(some w.startPaying).map (·.state) = some st := fun st hne e => hne (Option.some.inj e).symm
  have hrec : w.startPaying.record.isSome = true ↔ TicketState.paying = .settled := by
    show w.record.isSome = true ↔ _
    rw [h.records w hw, hauth]
    decide
  have hok : w.startPaying.FlowOk s :=
    h.flowOk (v := w.startPaying) hw rfl (List.Sublist.refl _) (.nil hnil) hrec (by decide : TicketState.paying ≠ .free)
  have hjobs := h.jobs.1
  rw [hq, List.map_cons] at hjobs
  refine h.change (n := w.number) (v := some w.startPaying) (fun x => by rw [ht]; exact State.mem_putTicket_iff (v := w.startPaying) hw rfl)
    (by rw [ht, State.putTicket_numbers]; exact h.numbers) (fun x hx => Option.some.inj hx ▸ ⟨rfl, hok⟩) ?_ ?_ ?_ ?_
    (fun k hk => ?_) fun _ t htm _ => hnone t htm
  · rw [hc]
    exact h.closing_same hw (iff_of_false (hst _ (by decide)) (by simp [hauth]))
  · rw [huq, hq, List.map_cons, hn]
    exact .tail hjobs (hst _ (by decide))
  · rw [huq]
    exact fun k hk => h.amounts k (by rw [hq]; exact List.mem_cons_of_mem _ hk)
  · rw [hwt]
    exact h.waiting_same hw (iff_of_false (hst _ (by decide)) (by simp [hauth]))
  · rw [if_pos ((hjob k hk).trans hn.symm)]
    rfl

theorem PayoutJob.taken_ticket (j : PayoutJob) : j.taken.ticket = j.ticket := by
  unfold PayoutJob.taken
  split <;> rfl

/-- The ticket a paying job works on. -/
theorem FlowInv.payingTicket {s : State} {j : JobProgress} (h : FlowInv (s.setJob (some j))) {t : Ticket}
    (ht : s.ticket? j.ticket = some t) : t ∈ s.tickets ∧ t.state = .paying ∧ t.number = j.ticket := by
  obtain ⟨w, hw, hn, hp⟩ := h.paying j rfl
  have hm := State.ticket?_mem ht
  have he : t = w := h.unique hm hw ((State.ticket?_number ht).trans hn.symm)
  exact ⟨hm, he ▸ hp, State.ticket?_number ht⟩

/-- Numbers and flow: what the stages of a job keep together. -/
def State.InFlow (s : State) : Prop := NumbersInv s ∧ FlowInv s

theorem State.InFlow.setJob {s : State} {j k : JobProgress} (h : State.InFlow (s.setJob (some j))) (hk : k.ticket = j.ticket) :
    State.InFlow (s.setJob (some k)) :=
  ⟨numbersInv_reads.kept (gs := [.disp]) ((State.touches_setDisp _ (s.setJob (some j))) :) (by simp) h.1,
    h.2.of_eq rfl rfl rfl rfl fun i hi => ⟨j, rfl, by cases hi; exact hk.symm⟩⟩

theorem State.InFlow.onProgress {s : State} {j k : JobProgress} (h : State.InFlow (s.setJob (some j))) (hk : k.ticket = j.ticket)
    (f : Progress → Progress) : State.InFlow ((s.onProgress j.ticket f).setJob (some k)) := by
  have hk' := h.setJob hk
  unfold State.onProgress
  split
  · rename_i t ht
    have hm := State.ticket?_mem ht
    exact ⟨hk'.1.put (u := { t with progress := t.progress.map f }) hm rfl,
      hk'.2.retold (v := { t with progress := t.progress.map f }) hm rfl rfl (List.Sublist.refl _) rfl rfl rfl rfl rfl rfl⟩
  · exact hk'

theorem jobKept_inFlow : JobKept State.InFlow where
  same hst hj hs := ⟨numbersInv_reads.kept hst.touches (by simp [workFields]) hs.1,
    hs.2.of_eq (hst.touches .tickets (by simp [workFields])) (hst.touches .closingOrder (by simp [workFields]))
      (hst.touches .queue (by simp [workFields])) (hst.touches .waiting (by simp [workFields]))
      fun j h => ⟨j, hj ▸ h, rfl⟩⟩
  aside hs := ⟨numbersInv_reads.kept (State.touches_setDisp _ _) (by simp) hs.1,
    hs.2.of_eq rfl rfl rfl rfl fun _ h => (nomatch h)⟩
  working _ _ _ _ hs := hs.setJob rfl
  coins _ _ _ _ hs _ := hs.setJob rfl
  runOn _ _ _ _ hs _ _ := hs.setJob rfl
  note {j _} hs _ := State.InFlow.onProgress (k := { j with notes := j.notes + 1 }) hs rfl _
  coin {j _} hs _ := State.InFlow.onProgress (k := { j with coins := j.coins + 1 }) hs rfl _
  fault {j} cause {t s} hs ht := by
    obtain ⟨hm, hp, _⟩ := hs.2.payingTicket ht
    have hnum : NumbersInv (s.setJob none) := numbersInv_reads.kept (State.touches_setDisp _ (s.setJob (some j))) (by simp) hs.1
    exact ⟨hnum.put (u := t.faulted cause) hm rfl,
      hs.2.faulted (v := t.faulted cause) hm hp rfl rfl rfl rfl rfl rfl rfl rfl rfl⟩
  through {j t s} hs _ ht := by
    obtain ⟨hm, hp, hn⟩ := hs.2.payingTicket ht
    have hnum : NumbersInv (s.setJob none) := numbersInv_reads.kept (State.touches_setDisp _ (s.setJob (some j))) (by simp) hs.1
    exact ⟨hnum.settle (w := t) (by rw [hn]; exact ht),
      hs.2.settled hm rfl rfl (.inr (.inr hp)) rfl rfl rfl rfl fun _ e => (nomatch e)⟩
  take {j rest s} hs hq hi := by
    obtain ⟨w, hw, hn, _⟩ := (hs.2.jobs.2 j.ticket).1 ⟨j, by rw [hq]; exact List.mem_cons_self, rfl⟩
    refine ⟨w, hn ▸ State.ticket?_of_mem hs.2.numbers hw, ?_, ?_⟩
    · have hput := hs.1.put (u := w.startPaying) hw rfl
      exact ⟨hput.distinct, hput.inRange, hput.next, hput.room, hput.records⟩
    · exact hs.2.taken hq hi hw hn rfl (fun k hk => by cases hk; exact j.taken_ticket) rfl rfl rfl

end Sys2Proof.Machine
end

section
/-! SUPPORT. The flow of tickets through every command (Sections 3, 5 to 8, 11). -/

namespace Sys2Proof.Machine

/-! ### A lane that feeds no ticket -/

theorem FlowInv.lane_free {s : State} (h : FlowInv s) {lane : Nat} (hf : s.feeding lane = none) : ∀ t ∈ s.tickets, lane ∉ t.lanes := by
  intro t ht hl
  obtain ⟨e, he, hel⟩ := List.mem_map.1 hl
  exact State.feeding_eq_none.1 hf t ht ((h.attach t ht).open_or_closing (List.ne_nil_of_mem he)) e he hel

theorem lanesFit_spec {lanes : List Nat} (h : lanesFit lanes = true) : (∀ l ∈ lanes, l ≤ 9) ∧ lanes.Nodup := by
  simp only [lanesFit, laneFits, Bool.and_eq_true, List.all_eq_true, decide_eq_true_eq] at h
  exact ⟨fun l hl => Nat.le_of_lt_succ (h.1.2 l hl), h.2⟩

/-! ### What the requests do -/

section

variable {s : State} (h : FlowInv s)

include h

theorem FlowInv.opened (hn : NumbersInv s) {a : AccountId} {lanes : List Nat} (hl : lanesFit lanes = true)
    (hf : ∀ l ∈ lanes, s.feeding l = none) (hroom : s.tickets.length < 16) :
    FlowInv { s with tickets := s.tickets ++ [s.newTicket a lanes], nextNumber := nextTicketNumber s.takenNumber } := by
  obtain ⟨hle, hnd⟩ := lanesFit_spec hl
  have hnew : (s.newTicket a lanes).lanes = lanes := by
    simp [State.newTicket, Ticket.lanes, Function.comp_def]
  have hdist : ((s.tickets ++ [s.newTicket a lanes]).map (·.number)).Nodup :=
    (List.nodup_append.1 (hn.opened a lanes hroom).distinct).1
  have hfresh : ∀ t ∈ s.tickets, t.number ≠ s.takenNumber := fun t ht => by
    rw [List.map_append, List.map_singleton] at hdist
    exact (List.nodup_append.1 hdist).2.2 _ (List.mem_map_of_mem ht) _ (List.mem_singleton_self _)
  have hnot : ∀ st, ¬∃ t ∈ s.tickets, t.number = s.takenNumber ∧ t.state = st := fun _ ⟨t, ht, he, _⟩ => hfresh t ht he
  have hopen : ∀ st, st ≠ .opened → ¬(some (s.newTicket a lanes)).map (·.state) = some st := fun st hne e =>
    hne (Option.some.inj e).symm
  have hok : (s.newTicket a lanes).FlowOk s := by
    refine ⟨Ticket.attachOk_iff.2 ⟨fun _ => .inl rfl, fun l hl => ⟨hle l (hnew ▸ hl), fun _ => rfl⟩⟩, by rw [hnew]; exact hnd,
      fun t ht _ l hl hm => ?_, iff_of_false (fun e => (nomatch e)) (fun e => (nomatch e)), fun e => (nomatch e)⟩
    exact h.lane_free (hf l (hnew ▸ hl)) t ht hm
  refine h.change (n := s.takenNumber) (v := some (s.newTicket a lanes)) (fun x => ?_) hdist
    (fun x hx => Option.some.inj hx ▸ ⟨rfl, hok⟩) ?_ ?_ h.amounts ?_ (fun j hj => ?_) fun e => absurd e (hopen _ (by decide))
  · rw [List.mem_append, List.mem_singleton, or_comm, Option.some.injEq, eq_comm]
    exact or_congr_right ⟨fun hx => ⟨hx, hfresh x hx⟩, fun hx => hx.1⟩
  · exact .same h.closing.1 (iff_of_false (fun hm => hnot _ ((h.closing.2 _).1 hm)) (hopen _ (by decide)))
  · exact .same h.jobs.1 (iff_of_false (fun hm => hnot _ ((h.jobs.2 _).1 (List.mem_map.1 hm))) (hopen _ (by decide)))
  · exact .same h.waiting.1 (iff_of_false (fun hm => hnot _ ((h.waiting.2 _).1 hm)) (hopen _ (by decide)))
  · have hp := h.paying j hj
    rw [if_neg fun e => hnot _ (e ▸ hp)]
    exact ⟨j, hj, rfl⟩

theorem FlowInv.attached {t : Ticket} (ht : t ∈ s.tickets) {lane : Nat} (hl : laneFits lane = true) (hm : t.mayAttach lane = true)
    (hf : s.feeding lane = none) :
    FlowInv (s.putTicket { t with attachments := t.attachments ++ [{ lane := lane, taken := 0 }] }) := by
  have hle : lane ≤ 9 := Nat.le_of_lt_succ (of_decide_eq_true hl)
  have hmay : t.state = .opened ∨ (t.state = .closing ∧ lane < 6) := by simpa [Ticket.mayAttach, isStationLane] using hm
  have hfree := h.lane_free hf
  have hlanes := (nodup_lanes_iff h.numbers).1 h.oneTicketPerLane
  have hv : Ticket.lanes { t with attachments := t.attachments ++ [{ lane := lane, taken := 0 }] } = t.lanes ++ [lane] := by
    simp [Ticket.lanes]
  have hold := Ticket.attachOk_iff.1 (h.attach t ht)
  refine h.replaced (v := { t with attachments := t.attachments ++ [{ lane := lane, taken := 0 }] }) ht rfl rfl
    ⟨?_, ?_, ?_, h.records t ht, h.notFree t ht⟩ .rfl rfl
    (.same h.closing.1 (h.closing_iff ht)) (.same h.jobs.1 (h.queued_iff ht)) h.amounts (.same h.waiting.1 (h.waiting_iff ht))
  · rw [Ticket.attachOk_iff, hv]
    refine ⟨fun _ => hmay.imp_right And.left, fun l hl => ?_⟩
    rcases List.mem_append.1 hl with hl | hl
    · exact hold.2 l hl
    · rw [List.mem_singleton.1 hl]
      refine ⟨hle, fun h6 => hmay.resolve_right fun hc => ?_⟩
      omega
  · rw [hv]
    exact List.nodup_append.2 ⟨hlanes.1 t ht, List.nodup_singleton _, fun a ha b hb hab =>
      hfree t ht (by rw [← List.mem_singleton.1 hb, ← hab]; exact ha)⟩
  · intro x hx hne l hl hm
    rw [hv] at hl
    rcases List.mem_append.1 hl with hl | hl
    · exact hlanes.2 x hx t ht hne hm hl
    · exact hfree x hx (List.mem_singleton.1 hl ▸ hm)

theorem FlowInv.detached {t : Ticket} (ht : t ∈ s.tickets) (lane : Nat) : FlowInv (s.detachLane lane t) := by
  have hsub : (t.detach lane).lanes.Sublist t.lanes := List.filter_sublist.map _
  refine State.detachLane_elim (fun hc => ?_) ?_
  · exact h.valueTicket (v := t.detach lane) ht rfl rfl (.inr hc) false
  · exact h.retold (v := t.detach lane) ht rfl rfl hsub rfl rfl rfl rfl rfl rfl

theorem FlowInv.startClosing {t : Ticket} (ht : t ∈ s.tickets) (ho : t.state = .opened) :
    FlowInv (s.startClosing t.dropPulseLanes) := by
  have hsub : (t.dropPulseLanes).lanes.Sublist t.lanes := List.filter_sublist.map _
  have hold := Ticket.attachOk_iff.1 (h.attach t ht)
  have hstation : ∀ l ∈ t.dropPulseLanes.lanes, l < 6 := fun l hl => by
    obtain ⟨e, he, rfl⟩ := List.mem_map.1 hl
    simpa [isStationLane] using (List.mem_filter.1 he).2
  have hattach : Ticket.AttachOk { t.dropPulseLanes with state := .closing, closeDeadline := some (s.now + 1000 * s.closeWait) } :=
    Ticket.attachOk_iff.2 ⟨fun _ => .inr rfl, fun l hl =>
      ⟨(hold.2 l (hsub.subset hl)).1, fun h6 => absurd (hstation l hl) (Nat.not_lt.2 h6)⟩⟩
  refine h.replaced (v := { t.dropPulseLanes with state := .closing, closeDeadline := some (s.now + 1000 * s.closeWait) }) ht rfl rfl
    (h.flowOk (v := { t.dropPulseLanes with state := .closing, closeDeadline := some (s.now + 1000 * s.closeWait) }) ht rfl hsub hattach
      ((h.records t ht).trans (by simp [ho])) (by simp)) (by simp [ho]) rfl ?_ ?_ h.amounts ?_
  · exact .append h.closing.1 (mt (h.closing_iff ht).1 (by simp [ho])) rfl
  · exact .same h.jobs.1 ((h.queued_iff ht).trans (by simp [ho]))
  · exact .same h.waiting.1 ((h.waiting_iff ht).trans (by simp [ho]))

/-- A ticket that no lane feeds changes its state, with its job where it waits for one. -/
theorem FlowInv.restated {u : State} {v t : Ticket} (ht : t ∈ s.tickets) (hn : v.number = t.number)
    (hu : u.tickets = (s.putTicket v).tickets) (ha : v.attachments = []) (hr : v.record = t.record)
    (hout : ∀ st ∈ [t.state, v.state], st ≠ .free ∧ st ≠ .closing ∧ st ≠ .paying ∧ st ≠ .settled)
    (hjob : u.disp.job = s.disp.job) (hc : u.closingOrder = s.closingOrder) (hwt : u.waiting = s.waiting)
    (hjobs : OrderMoved t.number (s.queue.map (·.ticket)) (u.queue.map (·.ticket)) (v.state = .authorised))
    (hamounts : ∀ j ∈ u.queue, 0 < j.amount) : FlowInv u := by
  obtain ⟨⟨_, htc, htp, hts⟩, hvf, hvc, hvp, hvs⟩ := hout t.state (by simp), hout v.state (by simp)
  refine h.replaced ht hn hu (h.flowOk ht hn (by simp [Ticket.lanes, ha]) (.nil ha) ?_ hvf) (iff_of_false hvp htp) hjob ?_ hjobs hamounts ?_
  · rw [hr, h.records t ht]
    exact iff_of_false hts hvs
  · rw [hc]
    exact .same h.closing.1 ((h.closing_iff ht).trans (iff_of_false htc hvc))
  · rw [hwt]
    exact .same h.waiting.1 ((h.waiting_iff ht).trans (iff_of_false hts hvs))

theorem FlowInv.voided {t : Ticket} (ht : t ∈ s.tickets) (hv : t.voidable = true) : FlowInv (s.voidTicket t) := by
  have hst : t.state = .opened ∨ t.state = .closing ∨ t.state = .valued := by simpa [Ticket.voidable, or_assoc] using hv
  have hne : ∀ st, st ≠ .opened → st ≠ .closing → st ≠ .valued → t.state ≠ st := by
    rintro st h1 h2 h3 rfl
    rcases hst with hst | hst | hst
    · exact h1 hst
    · exact h2 hst
    · exact h3 hst
  have hrest := s.touches_restoreTicket t
  have hq : (s.restoreTicket t).queue = s.queue := hrest .queue (by simp)
  refine h.finished ht rfl rfl rfl (hne _ (by decide) (by decide) (by decide)) (hrest .tickets (by simp)) (hrest .waiting (by simp))
    (fun j hj => ?_) ?_ ?_ (fun j hj => h.amounts j (hq ▸ hj))
  · have hj : s.disp.job = some j := by rw [← show (s.restoreTicket t).disp = s.disp from hrest .disp (by simp)]; exact hj
    exact ⟨hj, h.job_apart ht (hne _ (by decide) (by decide) (by decide)) hj⟩
  · have hc : (s.restoreTicket t).closingOrder = s.closingOrder := hrest .closingOrder (by simp)
    show OrderMoved _ _ ((s.restoreTicket t).closingOrder.filter _) _
    rw [hc]
    exact .leave h.closing.1 id
  · show OrderMoved _ _ ((s.restoreTicket t).queue.map _) _
    rw [hq]
    exact .same h.jobs.1 ((h.queued_iff ht).trans (iff_of_false (hne _ (by decide) (by decide) (by decide)) id))

/-- The job of a ticket joins the tail of the queue (R125, R132). -/
theorem FlowInv.queued {u : State} {v t : Ticket} (ht : t ∈ s.tickets) (hn : v.number = t.number)
    (hu : u.tickets = (s.putTicket v).tickets) (hat : v.attachments = t.attachments) (hr : v.record = t.record)
    (hs : t.state = .valued ∨ t.state = .payFault) (hv : v.state = .authorised)
    (hjob : u.disp.job = s.disp.job) (hc : u.closingOrder = s.closingOrder) (hwt : u.waiting = s.waiting) {j : PayoutJob}
    (hq : u.queue = s.queue ++ [j]) (hj : j.ticket = t.number) (hpos : 0 < j.amount) : FlowInv u := by
  have hnil : t.attachments = [] := h.attachments_nil ht (by rcases hs with hs | hs <;> simp [hs]) (by rcases hs with hs | hs <;> simp [hs])
  refine h.restated ht hn hu (hat.trans hnil) hr ?_ hjob hc hwt ?_ fun k hk => ?_
  · rcases hs with hs | hs <;> simp [hs, hv]
  · rw [hq, List.map_append, List.map_singleton, hj]
    exact .append h.jobs.1 (mt (h.queued_iff ht).1 (by rcases hs with hs | hs <;> simp [hs])) hv
  · rw [hq] at hk
    rcases List.mem_append.1 hk with hk | hk
    · exact h.amounts k hk
    · rw [List.mem_singleton.1 hk]
      exact hpos

theorem FlowInv.authorised {t : Ticket} (ht : t ∈ s.tickets) (hv : t.state = .valued) (a : Authorisation) :
    FlowInv (s.authorised t a) := by
  have hshape := State.paidIn_shape t a s
  have htab : (s.paidIn t a).tickets = s.tickets := by rw [hshape]
  have hc : (s.paidIn t a).closingOrder = s.closingOrder := by rw [hshape]
  have hq : (s.paidIn t a).queue = s.queue := by rw [hshape]
  have hw : (s.paidIn t a).waiting = s.waiting := by rw [hshape]
  have hd : (s.paidIn t a).disp = s.disp := by rw [hshape]
  unfold State.authorised
  dsimp only
  split
  · exact h.settled (p := s.paidIn t a) (t := { t with authorisation := some a }) ht rfl rfl (.inl hv) htab hw hc hq fun j hj =>
      ⟨hd ▸ hj, h.job_apart ht (by simp [hv]) (hd ▸ hj)⟩
  · exact h.queued (v := { t with authorisation := some a, state := .authorised })
      (j := { ticket := t.number, amount := a.cash, notes := a.notes, coins := a.coins }) ht rfl (congrArg (List.map _) htab) rfl rfl
      (.inl hv) rfl (congrArg _ hd) hc hw (congrArg (· ++ _) hq) rfl (Nat.pos_of_ne_zero ‹_›)

/-- A revoked ticket leaves the payout queue (R129). -/
theorem FlowInv.revoked {u : State} {v t : Ticket} (ht : t ∈ s.tickets) (hn : v.number = t.number)
    (hu : u.tickets = (s.putTicket v).tickets) (hat : v.attachments = t.attachments) (hr : v.record = t.record)
    (hs : t.state = .authorised) (hv : v.state = .valued ∨ v.state = .payFault) (hjob : u.disp.job = s.disp.job)
    (hc : u.closingOrder = s.closingOrder) (hwt : u.waiting = s.waiting) (hq : u.queue = (s.dropJob t.number).queue) : FlowInv u := by
  have hnil : t.attachments = [] := h.attachments_nil ht (by simp [hs]) (by simp [hs])
  have hfilter : (s.dropJob t.number).queue.map (·.ticket) = (s.queue.map (·.ticket)).filter (· != t.number) := by
    rw [List.filter_map]
    rfl
  refine h.restated ht hn hu (hat.trans hnil) hr ?_ hjob hc hwt ?_ fun k hk => ?_
  · rcases hv with hv | hv <;> simp [hs, hv]
  · rw [hq, hfilter]
    exact .leave h.jobs.1 (by rcases hv with hv | hv <;> simp [hv])
  · rw [hq] at hk
    exact h.amounts k (List.mem_filter.1 hk).1

/-- The oldest waiting ticket leaves the table (R139). -/
theorem FlowInv.left {u : State} {t : Ticket} {rest : List Nat} (hm : t ∈ s.tickets) (hw : s.waiting = t.number :: rest)
    (hu : u.tickets = s.tickets.filter fun x => x.number != t.number) (hc : u.closingOrder = s.closingOrder)
    (hq : u.queue = s.queue) (hwt : u.waiting = rest) (hd : u.disp = s.disp) : FlowInv u := by
  have hst : t.state = .settled := (h.waiting_iff hm).1 (by rw [hw]; exact List.mem_cons_self)
  have hwait := h.waiting.1
  rw [hw] at hwait
  refine h.change (n := t.number) (v := none) (fun x => by simp [hu]) ?_ (fun x hx => (nomatch hx)) ?_ ?_ (hq ▸ h.amounts) ?_
    (fun j hj => ?_) fun e => (nomatch e)
  · rw [hu]
    exact h.numbers.sublist (List.filter_sublist.map _)
  · rw [hc]
    exact h.closing_same hm (by simp [hst])
  · rw [hq]
    exact h.queued_same hm (by simp [hst])
  · rw [hwt, hw]
    exact .tail hwait (by simp)
  · rw [hd] at hj
    rw [if_neg (h.job_apart hm (by simp [hst]) hj)]
    exact ⟨j, hj, rfl⟩

theorem FlowInv.admitWaiting : FlowInv s.admitWaiting := by
  refine State.admitWaiting_elim (fun _ => h) (fun n rest hw hnone => ?_) fun n rest t r hw ht _ => ?_
  · obtain ⟨t, ht, hn, hs⟩ := (h.waiting.2 n).1 (by rw [hw]; exact List.mem_cons_self)
    have hrec := (h.records t ht).2 hs
    rw [hnone t (hn ▸ State.ticket?_of_mem h.numbers ht)] at hrec
    cases hrec
  · have hn := State.ticket?_number ht
    subst hn
    exact h.left (State.ticket?_mem ht) hw (by simp [State.dropTicket]) (by simp [State.dropTicket]) (by simp [State.dropTicket])
      (by simp [State.dropTicket]) (by simp [State.dropTicket])

/-- A number that names no ticket stands in no closing order. -/
theorem FlowInv.leaveClosing {n : Nat} (hnone : s.ticket? n = none) : FlowInv (s.leaveClosing n) := by
  have hout : n ∉ s.closingOrder := fun hm => by
    obtain ⟨t, ht, hn, _⟩ := (h.closing.2 n).1 hm
    exact State.ticket?_eq_none.1 hnone t ht hn
  have hsame : s.leaveClosing n = s := by
    have hf : s.closingOrder.filter (· != n) = s.closingOrder := List.filter_eq_self.2 fun m hm => by
      rw [bne_iff_ne]
      rintro rfl
      exact hout hm
    simp only [State.leaveClosing, hf]
  rw [hsame]
  exact h

end

/-! ### The phases of a start -/

theorem warmKept_flow : WarmKept fun s => FlowInv s ∧ s.disp.job = none where
  loss s _ hs := by
    rw [State.lossPhase_shape]
    exact ⟨hs.1.of_eq rfl rfl rfl rfl fun j hj => ⟨j, hj, rfl⟩, hs.2⟩
  change e rest s _ _ hs := by
    rw [State.applyChange_shape]
    exact ⟨hs.1.of_eq rfl rfl rfl rfl fun j hj => ⟨j, hj, rfl⟩, hs.2⟩
  close n u s _ hn hu hs := by
    have hm := State.ticket?_mem hu
    have hc : u.state = .closing := (hs.1.closing_iff hm).1 (State.ticket?_number hu ▸ hn)
    exact ⟨hs.1.valueTicket (v := { u with attachments := [] }) hm rfl rfl (.inr hc) true, by simpa using hs.2⟩
  leave n s _ hn hs := ⟨hs.1.leaveClosing hn, hs.2⟩
  fault s _ hs := State.restartFault_elim (P := fun u => FlowInv u ∧ u.disp.job = none) (fun _ => hs) fun t ht hp =>
    ⟨hs.1.faulted (v := t.restartFaulted) ht hp rfl rfl rfl rfl rfl hs.2 rfl rfl rfl, hs.2⟩

theorem FlowInv.reset : FlowInv State.reset where
  numbers := .nil
  attach := fun _ h => (nomatch h)
  oneTicketPerLane := .nil
  closing := ⟨.nil, fun _ => ⟨fun h => (nomatch h), fun ⟨_, h, _⟩ => (nomatch h)⟩⟩
  jobs := ⟨.nil, fun _ => ⟨fun ⟨_, h, _⟩ => (nomatch h), fun ⟨_, h, _⟩ => (nomatch h)⟩⟩
  amounts := fun _ h => (nomatch h)
  paying := fun _ h => (nomatch h)
  onePaying := fun _ h => (nomatch h)
  waiting := ⟨.nil, fun _ => ⟨fun h => (nomatch h), fun ⟨_, h, _⟩ => (nomatch h)⟩⟩
  records := fun _ h => (nomatch h)
  notFree := fun _ h => (nomatch h)

/-! ### Every command -/

theorem exec_keeps_flow (c : Instr) (s : State) {t : State} (hn : NumbersInv s) (hs : FlowInv s) (h : exec c s = .next t)
    (hv : t.marker = .valid) : FlowInv t := by
  have hI := flowInv_reads
  have hmem : ∀ {n u}, s.ticket? n = some u → u ∈ s.tickets := State.ticket?_mem
  have hreq : ∀ {src i n block}, request src i n block s = .next t → FlowInv (block s).state → FlowInv t :=
    hI.request (by simp [replyFields]) hs
  have hret : ∀ {b f}, retainedEvent b f s = .next t → (b = true → FlowInv (f s)) → FlowInv t :=
    fun h hf => retainedEvent_elim h hs fun hb => hI.kept (State.touches_sealed _) (by simp) (hf hb)
  have hdisp : ∀ {d : Dispenser}, d.job = s.disp.job → FlowInv (s.setDisp d) := fun hd =>
    hs.of_eq rfl rfl rfl rfl fun j hj => ⟨j, hd ▸ hj, rfl⟩
  have hpayout : PayoutEvent c → FlowInv t := fun hc => (jobKept_inFlow.exec hc h ⟨hn, hs⟩).2
  have happly : ∀ {u : Ticket}, u ∈ s.tickets → u.state = .payFault → ∀ {j : JobProgress}, s.disp.job = some j →
      s.disp.job = some j ∧ j.ticket ≠ u.number := fun hu hp _ hj => ⟨hj, hs.job_apart hu (by simp [hp]) hj⟩
  cases c
  case openTicket => exact hreq h (openTicket_elim hs fun _ hl hf hroom => hs.opened hn hl hf hroom)
  case attachLane => exact hreq h (attachLane_elim hs fun u hu hl hm hf _ => hs.attached (hmem hu) hl hm hf)
  case detachLane => exact hreq h (detachLane_elim hs fun u hu _ => hs.detached (hmem hu) _)
  case laneDone =>
    exact hreq h (onGrantedLane_elim hs fun l => laneDone_elim hs fun u hu => hs.detached (State.feeding_some hu).1 _)
  case closeTicket =>
    exact hreq h (closeTicket_elim hs (fun u hu ho => hs.startClosing (hmem hu) ho) fun u hu ho =>
      hs.valueTicket (v := u.dropPulseLanes) (hmem hu) rfl rfl (.inl ho) false)
  case reopen =>
    refine hreq h (reopen_elim hs fun u hu hval => ?_)
    have hr := s.touches_restoreTicket u
    have hrt : (s.restoreTicket u).tickets = s.tickets := hr .tickets (by simp)
    refine hs.restated (v := u.reopened) (hmem hu) rfl (congrArg (List.map _) hrt) rfl rfl ?_ (congrArg Dispenser.job (hr .disp (by simp)))
      (hr .closingOrder (by simp)) (hr .waiting (by simp)) ?_ ?_
    · intro st hst
      rcases List.mem_cons.1 hst with rfl | hst
      · simp [hval]
      · rw [List.mem_singleton.1 hst]
        simp [Ticket.reopened]
    · show OrderMoved _ _ ((s.restoreTicket u).queue.map _) _
      rw [show (s.restoreTicket u).queue = s.queue from hr .queue (by simp)]
      exact .same hs.jobs.1 ((hs.queued_iff (hmem hu)).trans (by simp [hval, Ticket.reopened]))
    · show ∀ j ∈ (s.restoreTicket u).queue, _
      rw [show (s.restoreTicket u).queue = s.queue from hr .queue (by simp)]
      exact hs.amounts
  case void => exact hreq h (voidTicket_elim hs fun u hu hvoid => hs.voided (hmem hu) hvoid)
  case release =>
    exact hreq h (release_elim hs fun u rs hu _ =>
      hs.retells (.inr ⟨u, hmem hu, { u with holds := dropHolds rs u.holds }, rfl, rfl⟩) rfl rfl rfl rfl)
  case authorise => exact hreq h (authorise_elim hs fun _ u hu hval _ _ _ _ _ => hs.authorised (hmem hu) hval _)
  case revoke src n =>
    refine hreq h (revoke_elim hs (fun u hu ha _ _ => ?_) fun u hu ha _ => ?_)
    · have hq := State.ticket?_number hu
      subst hq
      exact hs.revoked (v := { u with state := .valued, authorisation := none }) (hmem hu) rfl rfl rfl rfl ha (.inl rfl) rfl rfl rfl rfl
    · have hq := State.ticket?_number hu
      subst hq
      exact hs.revoked (v := { u with state := .payFault }) (hmem hu) rfl rfl rfl rfl ha (.inr rfl) rfl rfl rfl rfl
  case resolveRetry src n =>
    refine hreq h (resolveRetry_elim hs (fun u hu hp _ => ?_) fun u hu hp hr _ => ?_)
    · exact hs.settled (hmem hu) rfl rfl (.inr (.inl hp)) rfl rfl rfl rfl fun j hj => happly (hmem hu) hp hj
    · exact hs.queued (v := Ticket.withProgress (fun q => { q with retries := q.retries + 1 }) { u with state := .authorised }) (hmem hu)
        rfl rfl rfl rfl (.inr hp) rfl rfl rfl rfl rfl (State.ticket?_number hu).symm (Nat.pos_of_ne_zero hr)
  case resolveConvert =>
    exact hreq h (resolveConvert_elim hs fun u hu hp _ _ =>
      hs.settled (t := u.withProgress _) (hmem hu) rfl rfl (.inr (.inl hp)) rfl rfl rfl rfl fun j hj => happly (hmem hu) hp hj)
  case resolveManual =>
    exact hreq h (resolveManual_elim hs fun u hu hp =>
      hs.settled (t := u.withProgress _) (hmem hu) rfl rfl (.inr (.inl hp)) rfl rfl rfl rfl fun j hj => happly (hmem hu) hp hj)
  case takeLog =>
    refine hreq h (takeLog_elim hs fun r rest _ => FlowInv.admitWaiting (s := { s with log := rest }) ?_)
    exact hs.of_eq rfl rfl rfl rfl fun j hj => ⟨j, hj, rfl⟩
  case assignStrays =>
    exact hreq h (assignStrays_elim hs fun i u hu _ _ _ _ =>
      hs.retells (.inr ⟨u, hmem hu, Ticket.placeItems _ _ _ _ _ _ u, rfl, rfl⟩) rfl rfl rfl rfl)
  case arrive _ _ _ _ n carried tag =>
    refine hreq h (onGrantedLane_elim hs fun l => arrive_elim hs (fun u e hu => ?_) fun u cl o k hu _ _ _ _ => ?_)
    · have hput : ∀ v : Ticket, v.course = u.course → FlowInv (s.putTicket v) := fun v hc =>
        hs.retells (.inr ⟨u, (State.feeding_some hu).1, v, hc, rfl⟩) rfl rfl rfl rfl
      exact State.refuseDuplicate_elim (hput _ rfl) (hI.kept (State.touches_tellOffice _ _) (by simp) (hput (Ticket.hold _ _) rfl))
    · have ha := s.touches_acceptArrival l cl o k n carried tag u
      exact hs.retells (.arrival (State.feeding_some hu).1 _ _ _ _ _ _ _) (congrArg Dispenser.job (ha .disp (by simp)))
        (ha .closingOrder (by simp)) (ha .queue (by simp)) (ha .waiting (by simp))
  case setDispenser => exact hreq h (setDispenser_elim hs fun _ _ => hdisp rfl)
  case refill => exact hreq h (refill_elim hs fun c _ _ => hdisp (by cases c <;> rfl))
  case clearChannel => exact hreq h (clearChannel_elim hs fun c _ => hdisp (by cases c <;> rfl))
  case closeWaitExpiry n =>
    change execCloseWaitExpiry n s = _ at h
    unfold execCloseWaitExpiry at h
    split at h
    · rename_i u hu
      refine hret h fun hb => ?_
      have hc : u.state = .closing := by simpa using (Bool.and_eq_true_iff.1 hb).2
      have hr : FlowInv (s.reach (u.closeDeadline.getD s.now)) :=
        hI.kept (State.touches_reach _ s) (by simp [timeFields]) hs
      exact hr.valueTicket (v := { u with attachments := [] }) (hmem hu) rfl rfl (.inr hc) true
    · exact done_elim h hs
  case peyeTransition i blocked after =>
    change execPeyeTransition i blocked after s = _ at h
    refine hret h fun _ => ?_
    have he : FlowInv (s.laneElapse i after) := hI.kept (s.touches_laneElapse i after) (by simp [timeFields]) hs
    have hp := State.touches_peye i blocked (s.laneElapse i after)
    exact he.retells (.peye _ i blocked) (congrArg Dispenser.job (hp .disp (by simp))) (hp .closingOrder (by simp)) (hp .queue (by simp))
      (hp .waiting (by simp))
  case powerStop cause =>
    change execPowerStop cause s = _ at h
    unfold execPowerStop at h
    split at h
    · cases h
      exact hs.of_eq rfl rfl rfl rfl fun j hj => ⟨j, hj, rfl⟩
    · exact event_elim h hs fun _ => hs.of_eq rfl rfl rfl rfl fun j hj => ⟨j, hj, rfl⟩
  case inputsSettled v after =>
    change execInputsSettled v after s = _ at h
    refine hret h fun _ => hI.kept (State.touches_arbitrate _) (by simp) ?_
    exact hs.of_eq rfl rfl rfl rfl fun j hj => ⟨j, hj, rfl⟩
  case warmStart =>
    have hblocks : FlowInv s.warmBlocks ∧ s.warmBlocks.disp.job = none :=
      ⟨hs.of_eq rfl rfl rfl rfl fun j hj => (nomatch hj), rfl⟩
    exact warmKept_flow.exec h hs (fun _ _ => hblocks) (fun u _ hu => hI.kept u.touches_sealed (by simp) hu.1)
      fun cause u _ hu => hI.kept (State.touches_sealed _) (by simp) (hu.1.of_eq rfl rfl rfl rfl fun j hj => ⟨j, hj, rfl⟩)
  case coldStart found cut =>
    change execColdStart found cut s = _ at h
    refine event_elim (P := fun u => u.marker = .valid → FlowInv u) h (fun _ => hs) (fun _ hm => ?_) hv
    cases cut with
    | none => exact FlowInv.reset.of_eq rfl rfl rfl rfl fun j hj => ⟨j, hj, rfl⟩
    | some cause => cases hm
  case jobTake => exact hpayout (.jobTake _)
  case noteVendEnd => exact hpayout (.noteVendEnd _)
  case noteExitStart => exact hpayout (.noteExitStart _)
  case noteExitEnd => exact hpayout (.noteExitEnd _ _)
  case noteJamTimeout => exact hpayout .noteJamTimeout
  case coinExitStart => exact hpayout (.coinExitStart _)
  case coinGapTimeout => exact hpayout .coinGapTimeout
  case coinEmptyAsserted => exact hpayout (.coinEmptyAsserted _)
  case runOnEnd => exact hpayout .runOnEnd
  all_goals exact hI.exec hs h (by simp [Instr.source?, replyFields, timeFields, scheduleFields])

/-- A marker that is VALID after a command was VALID before it, unless a cold start has set it (Table 11-3). -/
theorem exec_marker {c : Instr} {s t : State} (h : exec c s = .next t) (hv : t.marker = .valid) :
    s.marker = .valid ∨ t = s.coldStart := by
  have hsame : Field.marker ∉ fieldsOf c → s.marker = .valid ∨ t = s.coldStart := fun hm =>
    .inl ((exec_touches h .marker hm).symm.trans hv)
  cases c
  case backupLow =>
    change execBackupLow s = _ at h
    exact event_elim (P := fun u => u.marker = .valid → s.marker = .valid ∨ u = s.coldStart) h .inl (fun _ e => (nomatch e)) hv
  case warmStart found cut =>
    change execWarmStart found cut s = _ at h
    exact retainedEvent_elim (P := fun u => u.marker = .valid → s.marker = .valid ∨ u = s.coldStart) h .inl
      (fun hc _ => .inl ((State.startsWarm_iff found s).1 (Bool.and_eq_true_iff.1 hc).2).1) hv
  case coldStart found cut =>
    change execColdStart found cut s = _ at h
    refine event_elim (P := fun u => u.marker = .valid → s.marker = .valid ∨ u = s.coldStart) h .inl (fun _ e => ?_) hv
    cases cut with
    | none => exact .inr rfl
    | some cause => cases e
  all_goals exact hsame (by simp [Instr.source?, replyFields, timeFields, valuationFields, finishFields, scheduleFields, payoutFields])

/-- Settles O32: each command moves one ticket, with the orders that its state puts it in; the tickets that close, wait and pay are
those the orders name. -/
theorem flowInvariantKept : Obligations.FlowInvariantKept := fun s t hn hs h hv =>
  step_elim (P := fun u => u.marker = .valid → FlowInv u) h hs
    (fun _ hm => flowInv_reads.kept (State.touches_elapse 1 s) (by simp [timeFields]) (hs hm))
    (fun c rest hx hm => by
      have hnum : NumbersInv { s with pending := rest } := ⟨hn.distinct, hn.inRange, hn.next, hn.room, hn.records⟩
      rcases exec_marker hx hm with hms | rfl
      · exact exec_keeps_flow c _ hnum ((hs hms).of_eq rfl rfl rfl rfl fun j hj => ⟨j, hj, rfl⟩) hx hm
      · exact FlowInv.reset.of_eq rfl rfl rfl rfl fun j hj => ⟨j, hj, rfl⟩) hv

end Sys2Proof.Machine
end

section
/-! SUPPORT. The amounts of tickets, jobs and records (R124, R128, R131, R134, R150, R157), said of a ticket and of a job by
themselves. -/

namespace Sys2Proof.Machine

/-! ### The plan (R124) -/

/-- Whole units and what remains of an amount in notes and coins. -/
theorem notes_coins_le (c un uc : Nat) : c / un * un + (c - c / un * un) / uc * uc ≤ c := by
  have h1 := Nat.div_mul_le_self c un
  have h2 := Nat.div_mul_le_self (c - c / un * un) uc
  omega

/-- The coins that are left of an amount made of whole units, over some of its notes, bring it out. -/
theorem coins_cover {a un uc n pn pc : Nat} (hdvd : uc ∣ un) (ha : pn * un + pc * uc = a) :
    (a - n * un) / uc * uc = a - n * un := by
  refine Nat.div_mul_cancel (Nat.dvd_sub ?_ (hdvd.mul_left n))
  rw [← ha]
  exact (hdvd.mul_left pn).add (Dvd.intro_left pc rfl)

theorem cashRequest_le {m : Means} {total x : Nat} (h : m = .split → x ≤ total) : cashRequest m total x ≤ total := by
  cases m
  · exact Nat.zero_le _
  · exact le_rfl
  · exact h rfl

theorem plan_addsUp {m : Means} {total x : Nat} (h : m = .split → x ≤ total) (un uc : Nat) : (plan m total x un uc).addsUp total := by
  have hc := cashRequest_le h
  have hle := notes_coins_le (cashRequest m total x) un uc
  simp only [plan, Authorisation.addsUp]
  omega

/-- Settles O37, by the division of the cash request into notes, coins and a residue below one coin. -/
theorem planAddsUp : Obligations.PlanAddsUp := by
  intro m total x un uc hx hden
  dsimp only
  refine ⟨rfl, by cases m <;> rfl, plan_addsUp hx un uc, ?_, fun hm => ?_⟩
  · rintro rfl
    simp [plan, cashRequest]
  · obtain ⟨hpos, hdvd, _⟩ := hden hm
    refine ⟨rfl, rfl, rfl, rfl, ?_, ?_⟩
    · have hmod := Nat.mod_lt (cashRequest m total x - cashRequest m total x / un * un) hpos
      have hsplit := Nat.div_add_mod' (cashRequest m total x - cashRequest m total x / un * un) uc
      have hle := Nat.div_mul_le_self (cashRequest m total x) un
      simp only [plan]
      omega
    · exact (hdvd.mul_left _).add (Dvd.intro_left _ rfl)

/-! ### A ticket -/

theorem Dispenser.un_congr {d e : Dispenser} (h : e.denoms = d.denoms) : e.un = d.un ∧ e.uc = d.uc := by
  simp only [Dispenser.un, Dispenser.uc, h, and_self]

/-- The coins divide the notes; before the denominations are set both are 0 (Table 8-2). -/
def Dispenser.Divides (d : Dispenser) : Prop := d.uc ∣ d.un

theorem DispenserInv.divides {s : State} (h : DispenserInv s) : s.disp.Divides := by
  unfold Dispenser.Divides Dispenser.un Dispenser.uc
  cases hd : s.disp.denoms with
  | none => exact dvd_rfl
  | some x => exact (h.denoms x.1 x.2 hd).2.2.2.2

theorem Ticket.paidValue_congr {d e : Dispenser} (h : e.denoms = d.denoms) (t : Ticket) : t.paidValue e = t.paidValue d := by
  obtain ⟨h1, h2⟩ := Dispenser.un_congr h
  simp only [Ticket.paidValue, h1, h2]

theorem Ticket.MoneyOk.congr {d e : Dispenser} {t : Ticket} (h : t.MoneyOk d) (hd : e.denoms = d.denoms) : t.MoneyOk e := by
  obtain ⟨h1, h2⟩ := Dispenser.un_congr hd
  exact ⟨h.before, by rw [h1, h2]; exact h.authorised, by rw [hd]; exact h.denoms, h.open_, h.begun, h.record⟩

/-- Two tickets alike in what the amounts depend on. -/
structure Ticket.SameAmounts (v w : Ticket) : Prop where
  authorisation : v.authorisation = w.authorisation
  progress : v.progress = w.progress
  total : v.total = w.total

theorem Ticket.SameAmounts.cash {v w : Ticket} (h : v.SameAmounts w) : v.cash = w.cash := by simp only [Ticket.cash, h.authorisation]

theorem Ticket.SameAmounts.paidValue {v w : Ticket} (h : v.SameAmounts w) (d : Dispenser) : v.paidValue d = w.paidValue d := by
  simp only [Ticket.paidValue, h.progress]

theorem Ticket.course_amounts {v w : Ticket} (h : v.course = w.course) : v.SameAmounts w := by
  obtain ⟨ha, hp, ht⟩ : v.authorisation = w.authorisation ∧ v.progress = w.progress ∧ v.total = w.total := by
    simpa [Ticket.course] using congrArg Prod.snd h
  exact ⟨ha, hp, ht⟩

theorem Ticket.MoneyOk.retold {d : Dispenser} {v w : Ticket} (h : w.MoneyOk d) (hc : v.course = w.course) : v.MoneyOk d := by
  obtain ⟨_, hs, _, hr⟩ := Ticket.course_fields hc
  have ha := Ticket.course_amounts hc
  refine ⟨?_, ?_, ?_, ?_, ?_, ?_⟩
  · rw [hs, ha.authorisation, ha.progress]; exact h.before
  · unfold Ticket.cashOpen; rw [hs, ha.authorisation, ha.total]; exact h.authorised
  · unfold Ticket.cashOpen; rw [hs]; exact h.denoms
  · unfold Ticket.cashOpen; rw [hs, ha.progress]; exact h.open_
  · rw [hs, ha.progress]; exact h.begun
  · rw [hr]; exact h.record

/-- A ticket that takes nothing from any account yet (Table 3-1). -/
theorem Ticket.MoneyOk.early {d : Dispenser} {t : Ticket} (hs : t.state = .opened ∨ t.state = .closing ∨ t.state = .valued)
    (ha : t.authorisation = none) (hp : t.progress = none) (hr : ∀ r, t.record = some r → r.outcome = .paid → r.addsUp) :
    t.MoneyOk d := by
  have hopen : ¬t.cashOpen := by
    rintro (h | h | h) <;> simp [h] at hs
  exact ⟨fun _ => ⟨ha, hp⟩, fun h => absurd h hopen, fun h => absurd h hopen, fun h => absurd h hopen,
    fun h => absurd (.inr h) hopen, hr⟩

/-- A ticket that has ended (R135). -/
theorem Ticket.MoneyOk.ended {d : Dispenser} {t : Ticket} (hs : t.state = .settled)
    (hr : ∀ r, t.record = some r → r.outcome = .paid → r.addsUp) : t.MoneyOk d := by
  have hopen : ¬t.cashOpen := by
    rintro (h | h | h) <;> simp [hs] at h
  exact ⟨fun h => by simp [hs] at h, fun h => absurd h hopen, fun h => absurd h hopen, fun h => absurd h hopen,
    fun h => absurd (.inr h) hopen, hr⟩

/-- A PAID record adds up where what is paid, converted and settled by hand covers the planned cash (R131, R134). -/
theorem paidRecord_addsUp {t : Ticket} {a : Authorisation} {customer paid : Nat} {settled : Stamp} (ha : t.authorisation = some a)
    (hsum : a.addsUp t.total)
    (hcash : (match t.progress with | some p => p.converted + p.manual | none => 0) + paid = t.cash + (paid - t.cash)) :
    (paidRecord t customer paid settled).addsUp := by
  have hc : t.cash = a.cash := by simp only [Ticket.cash, ha]
  rw [hc] at hcash
  unfold LogRecord.addsUp paidRecord
  cases hp : t.progress with
  | none =>
    simp only [hp] at hcash
    simp only [ha, hc]
    simp only [Authorisation.addsUp] at hsum
    omega
  | some p =>
    simp only [hp] at hcash
    simp only [ha, hc]
    simp only [Authorisation.addsUp] at hsum
    omega

/-! ### Jobs -/

/-- The figures of a paying job (R150, R153, R157). -/
structure JobProgress.MoneyOk (d : Dispenser) (j : JobProgress) : Prop where
  planned : j.plannedNotes * d.un + j.plannedCoins * d.uc = j.amount
  target : j.phase ≠ .notes → j.amount ≤ j.notes * d.un + j.target * d.uc
  reached : j.phase = .runOn → j.fault = none → j.target ≤ j.coins

theorem JobProgress.MoneyOk.congr {d e : Dispenser} {j : JobProgress} (h : j.MoneyOk d) (hd : e.denoms = d.denoms) : j.MoneyOk e := by
  obtain ⟨h1, h2⟩ := Dispenser.un_congr hd
  exact ⟨by rw [h1, h2]; exact h.planned, by rw [h1, h2]; exact h.target, h.reached⟩

/-- A paying job has counted what its ticket has been paid beyond what stood paid when the job was taken. -/
def JobProgress.Counts (d : Dispenser) (j : JobProgress) (t : Ticket) : Prop :=
  j.amount + t.paidValue d = t.cash + j.notes * d.un + j.coins * d.uc

/-- A waiting job is a whole number of its units. -/
def PayoutJob.Whole (d : Dispenser) (j : PayoutJob) : Prop := j.notes * d.un + j.coins * d.uc = j.amount

/-- A waiting job is what its ticket is still to be paid. -/
def PayoutJob.Covers (d : Dispenser) (j : PayoutJob) (t : Ticket) : Prop := j.amount + t.paidValue d = t.cash

theorem MoneyInv.payingOk {s : State} (h : MoneyInv s) {j : JobProgress} (hj : s.disp.job = some j) : j.MoneyOk s.disp :=
  ⟨(h.paying j hj).1, h.target j hj, h.reached j hj⟩

/-- A job that is through has brought out its amount. -/
theorem JobProgress.MoneyOk.through {d : Dispenser} {j : JobProgress} (h : j.MoneyOk d) (hd : d.Divides)
    (ht : j.Through d.un d.uc) : j.amount ≤ j.notes * d.un + j.coins * d.uc := by
  rcases ht with ⟨_, ht⟩ | ⟨hp, hf⟩
  · have hc := coins_cover (n := j.notes) hd h.planned
    unfold JobProgress.coinTarget at ht
    rw [ht, Nat.zero_mul] at hc
    omega
  · have htarget := h.target (by simp [hp])
    have hmul := Nat.mul_le_mul_right d.uc (h.reached hp hf)
    omega

/-! ### One ticket changes -/

/-- The amounts where the ticket of number `n` has become `v`: replaced, new, or gone where `v` is none. -/
theorem MoneyInv.change {s u : State} (h : MoneyInv s) {n : Nat} {v : Option Ticket}
    (hmem : ∀ x ∈ u.tickets, v = some x ∨ (x ∈ s.tickets ∧ x.number ≠ n)) (hden : u.disp.denoms = s.disp.denoms)
    (hn : ∀ x, v = some x → x.number = n) (hv : ∀ x, v = some x → x.MoneyOk s.disp)
    (hqueue : ∀ j ∈ u.queue, (j ∈ s.queue ∧ j.ticket ≠ n) ∨
      (j.ticket = n ∧ j.Whole s.disp ∧ ∀ x, v = some x → j.Covers s.disp x))
    (hjob : ∀ j, u.disp.job = some j → (s.disp.job = some j ∧ j.ticket ≠ n) ∨
      (j.ticket = n ∧ j.MoneyOk s.disp ∧ ∀ x, v = some x → j.Counts s.disp x))
    (hlog : ∀ r ∈ u.log, r ∈ s.log ∨ (r.outcome = .paid → r.addsUp)) : MoneyInv u := by
  obtain ⟨hun, huc⟩ := Dispenser.un_congr hden
  have hother : ∀ {m : Nat} {x : Ticket}, m ≠ n → x ∈ u.tickets → x.number = m → x ∈ s.tickets := fun hm hx hxm =>
    (hmem _ hx).elim (fun e => absurd ((hn _ e).symm.trans hxm).symm hm) And.left
  have hthis : ∀ {x : Ticket}, x ∈ u.tickets → x.number = n → v = some x := fun hx hxn =>
    (hmem _ hx).resolve_right fun ⟨_, hne⟩ => hne hxn
  have hok : ∀ j, u.disp.job = some j → j.MoneyOk s.disp ∧ ∀ t ∈ u.tickets, t.number = j.ticket → j.Counts s.disp t := fun j hj => by
    rcases hjob j hj with ⟨hs, hne⟩ | ⟨he, hm, hc⟩
    · exact ⟨h.payingOk hs, fun t ht hnt => (h.paying j hs).2 t (hother hne ht hnt) hnt⟩
    · exact ⟨hm, fun t ht hnt => hc t (hthis ht (hnt.trans he))⟩
  refine ⟨fun x hx => ?_, fun j hj => ?_, fun j hj => ?_, fun j hj => ?_, fun j hj => (hok j hj).1.reached, fun r hr => ?_⟩
  · rcases hmem x hx with e | ⟨hx, _⟩
    · exact (hv x e).congr hden
    · exact (h.tickets x hx).congr hden
  · rw [hun, huc]
    simp only [Ticket.paidValue_congr hden]
    rcases hqueue j hj with ⟨hs, hne⟩ | ⟨he, hw, hc⟩
    · exact ⟨(h.jobs j hs).1, fun t ht hnt => (h.jobs j hs).2 t (hother hne ht hnt) hnt⟩
    · exact ⟨hw, fun t ht hnt => hc t (hthis ht (hnt.trans he))⟩
  · rw [hun, huc]
    simp only [Ticket.paidValue_congr hden]
    exact ⟨(hok j hj).1.planned, (hok j hj).2⟩
  · rw [hun, huc]
    exact (hok j hj).1.target
  · exact (hlog r hr).elim (h.log r) id

end Sys2Proof.Machine
end

section
/-! SUPPORT. The amounts through the operations of the ticket table and the stages of a paying job (R118, R124, R131, R134, R150 to
R158). -/

namespace Sys2Proof.Machine

section

variable {s u : State} (h : MoneyInv s)

include h

/-- The amounts read the tickets, the queue, the log, the denominations and the paying job. -/
theorem MoneyInv.of_eq (ht : u.tickets = s.tickets) (hq : u.queue = s.queue) (hl : u.log = s.log)
    (hd : u.disp.denoms = s.disp.denoms) (hj : ∀ j, u.disp.job = some j → s.disp.job = some j) : MoneyInv u := by
  obtain ⟨hun, huc⟩ := Dispenser.un_congr hd
  refine ⟨fun t hm => (h.tickets t (ht ▸ hm)).congr hd, ?_, fun j hjob => ?_, fun j hjob => ?_,
    fun j hjob => h.reached j (hj j hjob), hl ▸ h.log⟩
  · rw [ht, hq, hun, huc]
    simp only [Ticket.paidValue_congr hd]
    exact h.jobs
  · rw [ht, hun, huc]
    simp only [Ticket.paidValue_congr hd]
    exact h.paying j (hj j hjob)
  · rw [hun, huc]
    exact h.target j (hj j hjob)

/-- The paying job goes on with other figures. -/
theorem MoneyInv.working (ht : u.tickets = s.tickets) (hq : u.queue = s.queue) (hl : u.log = s.log)
    (hd : u.disp.denoms = s.disp.denoms) {j k : JobProgress} (hj : s.disp.job = some j) (hu : u.disp.job = some k)
    (hk : k.MoneyOk s.disp) (hsame : (k.ticket, k.amount, k.notes, k.coins) = (j.ticket, j.amount, j.notes, j.coins)) : MoneyInv u := by
  obtain ⟨hun, huc⟩ := Dispenser.un_congr hd
  simp only [Prod.mk.injEq] at hsame
  obtain ⟨hticket, hamount, hnotes, hcoins⟩ := hsame
  refine ⟨fun t hm => (h.tickets t (ht ▸ hm)).congr hd, ?_, fun i hi => ?_, fun i hi => ?_, fun i hi => ?_, hl ▸ h.log⟩
  · rw [ht, hq, hun, huc]
    simp only [Ticket.paidValue_congr hd]
    exact h.jobs
  all_goals
    rw [hu] at hi
    cases hi
  · rw [ht, hun, huc]
    simp only [Ticket.paidValue_congr hd]
    refine ⟨hk.planned, fun t hm hn => ?_⟩
    rw [hamount, hnotes, hcoins]
    exact (h.paying j hj).2 t hm (hn.trans hticket)
  · rw [hun, huc]
    exact hk.target
  · exact hk.reached

theorem MoneyInv.retells (hr : s.Retells u) (hq : u.queue = s.queue) (hl : u.log = s.log) (hd : u.disp = s.disp) :
    MoneyInv u := by
  rcases hr with ht | ⟨w, hw, v, hc, ht⟩
  · exact h.of_eq ht hq hl (by rw [hd]) fun j hj => hd ▸ hj
  · obtain ⟨hn, _⟩ := Ticket.course_fields hc
    have ha := Ticket.course_amounts hc
    have hother : ∀ {m : Nat}, m ≠ w.number → ∀ x ∈ u.tickets, x.number = m → x ∈ s.tickets := fun hm x hx hxm => by
      rw [ht] at hx
      rcases State.mem_putTicket hx with rfl | ⟨hx, _⟩
      · exact absurd (hxm.symm.trans hn) hm
      · exact hx
    refine h.change (n := w.number) (v := some v) (fun x hx => ?_) (by rw [hd]) (fun x hx => Option.some.inj hx ▸ hn)
      (fun x hx => Option.some.inj hx ▸ (h.tickets w hw).retold hc) (fun j hj => ?_) (fun j hj => ?_) fun r hr => .inl (hl ▸ hr)
    · rw [ht] at hx
      exact (State.mem_putTicket hx).imp (fun e => congrArg some e.symm) fun ⟨hx, hne⟩ => ⟨hx, hn ▸ hne⟩
    · rw [hq] at hj
      by_cases he : j.ticket = w.number
      · refine .inr ⟨he, (h.jobs j hj).1, fun x hx => ?_⟩
        cases hx
        unfold PayoutJob.Covers
        rw [ha.cash, ha.paidValue]
        exact (h.jobs j hj).2 w hw he.symm
      · exact .inl ⟨hj, he⟩
    · rw [hd] at hj
      by_cases he : j.ticket = w.number
      · refine .inr ⟨he, h.payingOk hj, fun x hx => ?_⟩
        cases hx
        unfold JobProgress.Counts
        rw [ha.cash, ha.paidValue]
        exact (h.paying j hj).2 w hw he.symm
      · exact .inl ⟨hj, he⟩

end

/-! ### Tickets whose payout stands apart -/

section

variable {s u : State} (h : MoneyInv s) (hf : FlowInv s) {v w : Ticket} (hw : w ∈ s.tickets)

include hf hw

/-- No job waits for a ticket that is not AUTHORISED. -/
theorem FlowInv.queue_apart (hs : w.state ≠ .authorised) {j : PayoutJob} (hj : j ∈ s.queue) : j.ticket ≠ w.number := fun e =>
  hs ((hf.queued_iff hw).1 (e ▸ List.mem_map_of_mem hj))

include h

/-- A ticket without a job changes, and so does the log. -/
theorem MoneyInv.moved {v : Option Ticket} (hs : w.state ≠ .authorised ∧ w.state ≠ .paying)
    (hmem : ∀ x ∈ u.tickets, v = some x ∨ (x ∈ s.tickets ∧ x.number ≠ w.number)) (hn : ∀ x, v = some x → x.number = w.number)
    (hv : ∀ x, v = some x → x.MoneyOk s.disp) (hq : u.queue = s.queue) (hd : u.disp = s.disp)
    (hlog : ∀ r ∈ u.log, r ∈ s.log ∨ (r.outcome = .paid → r.addsUp)) : MoneyInv u :=
  h.change hmem (by rw [hd]) hn hv (fun j hj => by rw [hq] at hj; exact .inl ⟨hj, hf.queue_apart hw hs.1 hj⟩)
    (fun j hj => by rw [hd] at hj; exact .inl ⟨hj, hf.job_apart hw hs.2 hj⟩) hlog

/-- A ticket that has taken nothing from an account is replaced by one that has not. -/
theorem MoneyInv.early (hn : v.number = w.number) (ht : u.tickets = (s.putTicket v).tickets)
    (hs : w.state = .opened ∨ w.state = .closing ∨ w.state = .valued) (hvs : v.state = .opened ∨ v.state = .closing ∨ v.state = .valued)
    (hva : v.authorisation = w.authorisation) (hvp : v.progress = w.progress) (hvr : v.record = w.record) (hq : u.queue = s.queue)
    (hd : u.disp = s.disp) (hl : u.log = s.log) : MoneyInv u := by
  obtain ⟨ha, hp⟩ := (h.tickets w hw).before hs
  refine h.moved hf hw (v := some v) ⟨fun e => by simp [e] at hs, fun e => by simp [e] at hs⟩ (fun x hx => ?_)
    (fun x hx => Option.some.inj hx ▸ hn) (fun x hx => Option.some.inj hx ▸ ?_) hq hd fun r hr => .inl (hl ▸ hr)
  · rw [ht] at hx
    exact (State.mem_putTicket hx).imp (fun e => congrArg some e.symm) fun ⟨hx, hne⟩ => ⟨hx, hn ▸ hne⟩
  · exact .early hvs (hva.trans ha) (hvp.trans hp) (hvr ▸ (h.tickets w hw).record)

theorem MoneyInv.valueTicket (hn : v.number = w.number) (hs : w.state = .opened ∨ w.state = .closing)
    (hva : v.authorisation = w.authorisation) (hvp : v.progress = w.progress) (hvr : v.record = w.record) (forced : Bool) :
    MoneyInv (s.valueTicket forced v) :=
  h.early hf hw (v := s.valuedTicket forced v) hn (State.valueTicket_tickets_eq _ _ _) (hs.imp_right .inl) (.inr (.inr rfl)) hva hvp hvr
    (by simp) (by simp) (by simp)

/-- A PAYING ticket comes into payout fault, and no job pays any more (R65, R158). -/
theorem MoneyInv.faulted (hp : w.state = .paying) (cause : FaultCause) (ht : u.tickets = (s.putTicket (w.faulted cause)).tickets)
    (hq : u.queue = s.queue) (hl : u.log = s.log) (hd : u.disp.denoms = s.disp.denoms) (hjob : u.disp.job = none) : MoneyInv u := by
  have hok := h.tickets w hw
  have hvok : (w.faulted cause).MoneyOk s.disp :=
    { before := fun e => by simp [Ticket.faulted] at e
      authorised := fun _ => hok.authorised (.inr (.inl hp))
      denoms := fun _ => hok.denoms (.inr (.inl hp))
      open_ := fun _ p hp' => by
        obtain ⟨q, hq, rfl⟩ := Option.map_eq_some_iff.1 hp'
        exact hok.open_ (.inr (.inl hp)) q hq
      begun := fun _ => by simpa [Ticket.faulted] using hok.begun (.inl hp)
      record := hok.record }
  refine h.change (n := w.number) (v := some (w.faulted cause)) (fun x hx => ?_) hd (fun x hx => Option.some.inj hx ▸ rfl)
    (fun x hx => Option.some.inj hx ▸ hvok) (fun i hi => ?_) (fun i hi => by rw [hjob] at hi; cases hi) fun r hr => .inl (hl ▸ hr)
  · rw [ht] at hx
    exact (State.mem_putTicket hx).imp_left fun e => congrArg some e.symm
  · rw [hq] at hi
    exact .inl ⟨hi, hf.queue_apart hw (by simp [hp]) hi⟩

end

/-- A ticket that ends, its record adding up where it is PAID (R135). -/
theorem MoneyInv.finished {s p : State} (h : MoneyInv s) (hf : FlowInv s) {t w : Ticket} {r : LogRecord} (hw : w ∈ s.tickets)
    (hn : t.number = w.number) (hs : t.state = .settled) (hr : r.outcome = .paid → r.addsUp) (ht : p.tickets = s.tickets)
    (hq : p.queue = s.queue) (hl : p.log = s.log) (hd : p.disp.denoms = s.disp.denoms)
    (hws : w.state ≠ .authorised) (hjob : ∀ j, p.disp.job = some j → s.disp.job = some j ∧ j.ticket ≠ w.number) :
    MoneyInv (p.finish t r) := by
  have hrest := State.touches_finish t r p
  have hdisp : (p.finish t r).disp = p.disp := hrest .disp (by simp [finishFields])
  have hqueue : (p.finish t r).queue = p.queue := hrest .queue (by simp [finishFields])
  have hlog : ∀ q ∈ (p.finish t r).log, q ∈ s.log ∨ (q.outcome = .paid → q.addsUp) := fun q hm => by
    rw [State.finish_log, hl] at hm
    split at hm
    · rcases List.mem_append.1 hm with hm | hm
      · exact .inl hm
      · rw [List.mem_singleton.1 hm]
        exact .inr hr
    · exact .inl hm
  have hwait : Ticket.MoneyOk s.disp { t with record := some r } :=
    .ended hs fun q hq => by cases hq; exact hr
  refine h.change (n := w.number) (v := some { t with record := some r }) (fun x hx => ?_) (by rw [hdisp, hd])
    (fun x hx => Option.some.inj hx ▸ hn) (fun x hx => Option.some.inj hx ▸ hwait) (fun j hj => ?_)
    (fun j hj => .inl (hjob j (hdisp ▸ hj))) hlog
  · rcases State.mem_finish hx with rfl | ⟨hx, hne⟩
    · exact .inl rfl
    · exact .inr ⟨ht ▸ hx, hn ▸ hne⟩
  · rw [hqueue, hq] at hj
    exact .inl ⟨hj, hf.queue_apart hw hws hj⟩

/-- What a settlement's amounts need: the planned cash is paid, converted and settled by hand, and the rest is overpay (R134). -/
def Ticket.Settles (d : Dispenser) (t : Ticket) : Prop :=
  (∃ a, t.authorisation = some a ∧ a.addsUp t.total) ∧
    (match t.progress with | some p => p.converted + p.manual | none => 0) + t.paidValue d = t.cash + (t.paidValue d - t.cash)

theorem MoneyInv.settled {s p : State} (h : MoneyInv s) (hf : FlowInv s) {t w : Ticket} (hw : w ∈ s.tickets) (hn : t.number = w.number)
    (ht : p.tickets = s.tickets) (hq : p.queue = s.queue) (hl : p.log = s.log) (hd : p.disp.denoms = s.disp.denoms)
    (hws : w.state ≠ .authorised) (hjob : ∀ j, p.disp.job = some j → s.disp.job = some j ∧ j.ticket ≠ w.number)
    (hs : t.Settles p.disp) : MoneyInv (p.settle t) := by
  obtain ⟨⟨a, ha, hsum⟩, hcash⟩ := hs
  refine h.finished hf (t := p.settledForm t) hw hn rfl (fun _ => ?_) ht hq hl hd hws hjob
  refine paidRecord_addsUp (t := p.settledForm t) (a := a) ha hsum (Eq.trans ?_ hcash)
  cases hp : t.progress <;> simp [State.settledForm, hp]

/-! ### The stages of a paying job -/

/-- Numbers, flow and amounts: what the stages of a job keep together. -/
def State.InMoney (s : State) : Prop := s.InFlow ∧ s.disp.Divides ∧ MoneyInv s

theorem State.InMoney.divides_congr {d e : Dispenser} (h : d.Divides) (he : e.denoms = d.denoms) : e.Divides := by
  obtain ⟨h1, h2⟩ := Dispenser.un_congr he
  unfold Dispenser.Divides
  rwa [h1, h2]

namespace State.InMoney

variable {s : State} {j k : JobProgress}

theorem payingOk (h : InMoney (s.setJob (some j))) : j.MoneyOk s.disp := (h.2.2.payingOk rfl).congr rfl

/-- The paying job goes on with other figures. -/
theorem setJob (h : InMoney (s.setJob (some j))) (hk : k.MoneyOk s.disp)
    (hsame : (k.ticket, k.amount, k.notes, k.coins) = (j.ticket, j.amount, j.notes, j.coins)) : InMoney (s.setJob (some k)) :=
  ⟨h.1.setJob (congrArg Prod.fst hsame), h.2.1, h.2.2.working rfl rfl rfl rfl rfl rfl (hk.congr rfl) hsame⟩

/-- The ticket of the paying job, with what stands of it (R128). -/
theorem ticket (h : InMoney (s.setJob (some j))) : ∃ t ∈ s.tickets, s.ticket? j.ticket = some t ∧ t.state = .paying ∧
    t.number = j.ticket ∧ t.MoneyOk s.disp ∧ j.Counts s.disp t := by
  obtain ⟨⟨_, hf⟩, _, hm⟩ := h
  obtain ⟨t, ht, hn, hp⟩ := hf.paying j rfl
  exact ⟨t, ht, hn ▸ State.ticket?_of_mem hf.numbers ht, hp, hn, (hm.tickets t ht).congr rfl, (hm.paying j rfl).2 t ht hn⟩

/-- A unit of the paying job is counted, in its ticket and in the job (R150, R154). -/
theorem counted (h : InMoney (s.setJob (some j))) (hticket : k.ticket = j.ticket) {f : Progress → Progress}
    (hf : ∀ p, (f p).converted = p.converted ∧ (f p).manual = p.manual) (hk : k.MoneyOk s.disp)
    (hcount : ∀ t : Ticket, t.progress.isSome = true → j.Counts s.disp t → k.Counts s.disp { t with progress := t.progress.map f }) :
    InMoney ((s.onProgress j.ticket f).setJob (some k)) := by
  obtain ⟨t, ht, hnamed, hp, hn, hok, hc⟩ := h.ticket
  have hprog : t.progress.isSome = true := hok.begun (.inl hp)
  have hden : ((s.onProgress j.ticket f).setJob (some k)).disp.denoms = s.disp.denoms := by rw [State.onProgress_shape]; rfl
  have hflow := h.1.onProgress hticket f
  refine ⟨hflow, divides_congr (d := s.disp) h.2.1 hden, ?_⟩
  have hput : s.onProgress j.ticket f = s.putTicket { t with progress := t.progress.map f } := by
    unfold State.onProgress
    rw [hnamed]
  rw [hput]
  have hvok : Ticket.MoneyOk s.disp { t with progress := t.progress.map f } :=
    { before := fun e => by simp [hp] at e
      authorised := hok.authorised
      denoms := hok.denoms
      open_ := fun hopen p hp => by
        obtain ⟨q, hq, rfl⟩ := Option.map_eq_some_iff.1 hp
        obtain ⟨h1, h2⟩ := hf q
        rw [h1, h2]
        exact hok.open_ hopen q hq
      begun := fun _ => by simpa using hprog
      record := hok.record }
  refine h.2.2.change (n := j.ticket) (v := some { t with progress := t.progress.map f }) (fun x hx => ?_) rfl
    (fun x hx => Option.some.inj hx ▸ hn) (fun x hx => Option.some.inj hx ▸ hvok.congr rfl) (fun i hi => ?_) (fun i hi => ?_) fun r hr => .inl hr
  · have hmem := State.mem_putTicket (u := { t with progress := t.progress.map f }) (s := s) hx
    exact hmem.imp (fun e => congrArg some e.symm) fun ⟨hx, hne⟩ => ⟨hx, hn ▸ hne⟩
  · exact .inl ⟨hi, hn ▸ h.1.2.queue_apart ht (by simp [hp]) hi⟩
  · cases hi
    exact .inr ⟨hticket, hk.congr rfl, fun x hx => Option.some.inj hx ▸ hcount t hprog hc⟩

end State.InMoney

theorem jobKept_inMoney : JobKept State.InMoney where
  same hst hj hs := ⟨jobKept_inFlow.same hst hj hs.1, State.InMoney.divides_congr hs.2.1 hst.denoms,
    hs.2.2.of_eq (hst.touches .tickets (by simp [workFields])) (hst.touches .queue (by simp [workFields]))
      (hst.touches .log (by simp [workFields])) hst.denoms fun _ h => hj ▸ h⟩
  aside hs := ⟨jobKept_inFlow.aside hs.1, hs.2.1, hs.2.2.of_eq rfl rfl rfl rfl fun _ h => (nomatch h)⟩
  working w n {j s} hs := State.InMoney.setJob (k := { j with work := w, since := n }) hs
    ⟨hs.payingOk.planned, hs.payingOk.target, hs.payingOk.reached⟩ rfl
  coins w n {j s} hs hp := by
    refine State.InMoney.setJob (j := j) hs ⟨hs.payingOk.planned, fun _ => ?_, fun e => (nomatch e)⟩ rfl
    have hd : s.disp.Divides := hs.2.1
    have hc := coins_cover (n := j.notes) hd hs.payingOk.planned
    change j.amount ≤ j.notes * s.disp.un + (j.amount - j.notes * s.disp.un) / s.disp.uc * s.disp.uc
    omega
  runOn cause n {j s} hs hp hc := by
    refine State.InMoney.setJob (j := j) hs ⟨hs.payingOk.planned, fun _ => hs.payingOk.target (by simp [hp]), fun _ => hc⟩ rfl
  note {j s} hs hp := by
    refine State.InMoney.counted (k := { j with notes := j.notes + 1 }) hs rfl (fun _ => ⟨rfl, rfl⟩)
      ⟨hs.payingOk.planned, fun e => absurd hp e, fun e => by simp [hp] at e⟩ fun t hprog hc => ?_
    obtain ⟨p, hprog⟩ := Option.isSome_iff_exists.1 hprog
    simp only [JobProgress.Counts, Ticket.paidValue, Ticket.cash, hprog, Option.map_some] at hc ⊢
    rw [Nat.add_mul, Nat.add_mul, Nat.one_mul]
    omega
  coin {j s} hs hp := by
    refine State.InMoney.counted (k := { j with coins := j.coins + 1 }) hs rfl (fun _ => ⟨rfl, rfl⟩)
      ⟨hs.payingOk.planned, fun e => hs.payingOk.target e, fun e hf => Nat.le_succ_of_le (hs.payingOk.reached e hf)⟩ fun t hprog hc => ?_
    obtain ⟨p, hprog⟩ := Option.isSome_iff_exists.1 hprog
    simp only [JobProgress.Counts, Ticket.paidValue, Ticket.cash, hprog, Option.map_some] at hc ⊢
    rw [Nat.add_mul, Nat.add_mul, Nat.one_mul]
    omega
  fault {j} cause {t s} hs ht := by
    obtain ⟨hw, hp, _⟩ := hs.1.2.payingTicket ht
    exact ⟨jobKept_inFlow.fault cause hs.1 ht, hs.2.1, hs.2.2.faulted hs.1.2 hw hp cause rfl rfl rfl rfl rfl⟩
  through {j t s} hs hthrough ht := by
    obtain ⟨w, hw, hnamed, hp, hn, hok, hc⟩ := hs.ticket
    rw [ht, Option.some.injEq] at hnamed
    subst hnamed
    have hden : ((s.setJob none).settle t).disp.denoms = s.disp.denoms := by rw [State.settle_shape]; rfl
    refine ⟨jobKept_inFlow.through hs.1 hthrough ht, State.InMoney.divides_congr (d := s.disp) hs.2.1 hden, ?_⟩
    refine hs.2.2.settled hs.1.2 hw rfl rfl rfl rfl rfl (by simp [hp]) (fun _ e => (nomatch e)) ?_
    obtain ⟨a, ha, hsum, _⟩ := hok.authorised (.inr (.inl hp))
    obtain ⟨p, hprog⟩ := Option.isSome_iff_exists.1 (hok.begun (.inl hp))
    obtain ⟨hconv, hman⟩ := hok.open_ (.inr (.inl hp)) p hprog
    refine ⟨⟨a, ha, hsum⟩, ?_⟩
    have hpaid := hs.payingOk.through hs.2.1 hthrough
    have hcounts : j.amount + t.paidValue s.disp = t.cash + j.notes * s.disp.un + j.coins * s.disp.uc := hc
    change (match t.progress with | some p => p.converted + p.manual | none => 0) + t.paidValue s.disp = t.cash + (t.paidValue s.disp - t.cash)
    rw [hprog]
    dsimp only
    omega
  take {j rest s} hs hq hi := by
    obtain ⟨w, hnamed, hflow⟩ := jobKept_inFlow.take hs.1 hq hi
    refine ⟨w, hnamed, hflow, hs.2.1, ?_⟩
    have hw := State.ticket?_mem hnamed
    have hn := State.ticket?_number hnamed
    have hj : j ∈ s.queue := by rw [hq]; exact List.mem_cons_self
    have hauth : w.state = .authorised := (hs.1.2.queued_iff hw).1 (hn ▸ List.mem_map_of_mem hj)
    have hok := hs.2.2.tickets w hw
    obtain ⟨hwhole, hcover⟩ := hs.2.2.jobs j hj
    have hpaid : w.startPaying.paidValue s.disp = w.paidValue s.disp := by
      simp only [Ticket.startPaying, Ticket.paidValue]
      cases w.progress with
      | none => simp [Progress.zero]
      | some p => rfl
    have hcash : w.startPaying.cash = w.cash := rfl
    have hvok : w.startPaying.MoneyOk s.disp :=
      { before := fun e => by simp [Ticket.startPaying] at e
        authorised := fun _ => hok.authorised (.inl hauth)
        denoms := fun _ => hok.denoms (.inl hauth)
        open_ := fun _ p hp => by
          cases hprog : w.progress with
          | none =>
            simp only [Ticket.startPaying, hprog] at hp
            cases hp
            exact ⟨rfl, rfl⟩
          | some q =>
            simp only [Ticket.startPaying, hprog] at hp
            cases hp
            exact hok.open_ (.inl hauth) q hprog
        begun := fun _ => rfl
        record := hok.record }
    have htaken : j.taken.MoneyOk s.disp ∧ j.taken.amount = j.amount ∧ j.taken.notes = 0 ∧ j.taken.coins = 0 := by
      unfold PayoutJob.taken
      split
      · exact ⟨⟨hwhole, fun e => absurd rfl e, fun e => (nomatch e)⟩, rfl, rfl, rfl⟩
      · rename_i hz
        refine ⟨⟨hwhole, fun _ => ?_, fun e => (nomatch e)⟩, rfl, rfl, rfl⟩
        have hz : j.notes = 0 := Nat.eq_zero_of_not_pos hz
        rw [hz] at hwhole
        exact le_of_eq hwhole.symm
    have hjobs := hs.1.2.jobs.1
    rw [hq, List.map_cons, List.nodup_cons] at hjobs
    refine hs.2.2.change (n := j.ticket) (v := some w.startPaying) (fun x hx => ?_) rfl (fun x hx => Option.some.inj hx ▸ hn)
      (fun x hx => Option.some.inj hx ▸ hvok) (fun i hi => ?_) (fun i hi => ?_) fun r hr => .inl hr
    · have hmem := State.mem_putTicket (u := w.startPaying) (s := s) hx
      exact hmem.imp (fun e => congrArg some e.symm) fun ⟨hx, hne⟩ => ⟨hx, fun e => hne (e.trans hn.symm)⟩
    · exact .inl ⟨by rw [hq]; exact List.mem_cons_of_mem _ hi, fun e => hjobs.1 (e ▸ List.mem_map_of_mem hi)⟩
    · cases hi
      obtain ⟨htok, hamount, hnotes, hcoins⟩ := htaken
      refine .inr ⟨j.taken_ticket, htok, fun x hx => Option.some.inj hx ▸ ?_⟩
      unfold JobProgress.Counts
      rw [hamount, hnotes, hcoins, hpaid, hcash, Nat.zero_mul, Nat.zero_mul]
      exact hcover w hw hn

end Sys2Proof.Machine
end

section
/-! SUPPORT. The amounts through every command (Sections 3, 5 to 8, 11). -/

namespace Sys2Proof.Machine

theorem moneyInv_reads : Reads MoneyInv [.tickets, .queue, .log, .disp] := fun s t h hs => by
  have hd : t.disp = s.disp := h .disp (by simp)
  exact hs.of_eq (h .tickets (by simp)) (h .queue (by simp)) (h .log (by simp)) (by rw [hd]) fun j hj => hd ▸ hj

/-- A remainder in whole notes and coins is paid in them. -/
theorem remainder_whole {r un uc : Nat} (hr : uc ∣ r) (hd : uc ∣ un) : r / un * un + (r - r / un * un) / uc * uc = r := by
  have hle := Nat.div_mul_le_self r un
  rw [Nat.div_mul_cancel (Nat.dvd_sub hr (hd.mul_left _))]
  omega

section

variable {s u : State} (h : MoneyInv s) (hf : FlowInv s) {t : Ticket} (ht : t ∈ s.tickets)

include h hf

theorem MoneyInv.opened (hn : NumbersInv s) {a : AccountId} {lanes : List Nat} (hroom : s.tickets.length < 16) :
    MoneyInv { s with tickets := s.tickets ++ [s.newTicket a lanes], nextNumber := nextTicketNumber s.takenNumber } := by
  have hdist : ((s.tickets ++ [s.newTicket a lanes]).map (·.number)).Nodup :=
    (List.nodup_append.1 (hn.opened a lanes hroom).distinct).1
  have hfresh : ∀ t ∈ s.tickets, t.number ≠ s.takenNumber := fun t ht => by
    rw [List.map_append, List.map_singleton] at hdist
    exact (List.nodup_append.1 hdist).2.2 _ (List.mem_map_of_mem ht) _ (List.mem_singleton_self _)
  refine h.change (n := s.takenNumber) (v := some (s.newTicket a lanes)) (fun x hx => ?_) rfl (fun x hx => Option.some.inj hx ▸ rfl)
    (fun x hx => Option.some.inj hx ▸ .early (.inl rfl) rfl rfl fun _ e => (nomatch e)) (fun j hj => .inl ⟨hj, fun e => ?_⟩)
    (fun j hj => .inl ⟨hj, fun e => ?_⟩) fun r hr => .inl hr
  · rcases List.mem_append.1 hx with hx | hx
    · exact .inr ⟨hx, hfresh x hx⟩
    · exact .inl (congrArg some (List.mem_singleton.1 hx).symm)
  · obtain ⟨t, ht, hnum, _⟩ := (hf.jobs.2 j.ticket).1 ⟨j, hj, rfl⟩
    exact hfresh t ht (hnum.trans e)
  · obtain ⟨t, ht, hnum, _⟩ := hf.paying j hj
    exact hfresh t ht (hnum.trans e)

include ht

theorem MoneyInv.detached (hs : t.state = .opened ∨ t.state = .closing) (lane : Nat) : MoneyInv (s.detachLane lane t) := by
  refine State.detachLane_elim (fun hc => ?_) ?_
  · exact h.valueTicket hf ht (v := t.detach lane) rfl (.inr hc) rfl rfl rfl false
  · exact h.early hf ht (v := t.detach lane) rfl rfl (hs.imp_right .inl) (hs.imp_right .inl) rfl rfl rfl rfl rfl rfl

theorem MoneyInv.voided (hv : t.voidable = true) : MoneyInv (s.voidTicket t) := by
  have hst : t.state = .opened ∨ t.state = .closing ∨ t.state = .valued := by simpa [Ticket.voidable, or_assoc] using hv
  have hrest := s.touches_restoreTicket t
  have hd : (s.restoreTicket t).disp = s.disp := hrest .disp (by simp)
  refine h.finished hf ht rfl rfl (fun e => (nomatch e)) (hrest .tickets (by simp)) (hrest .queue (by simp)) (hrest .log (by simp))
    (congrArg Dispenser.denoms hd) (fun e => by simp [e] at hst) fun j hj => ?_
  have hj : s.disp.job = some j := by rw [← hd]; exact hj
  exact ⟨hj, hf.job_apart ht (fun e => by simp [e] at hst) hj⟩

/-- A job joins the tail of the queue for what its ticket is still to be paid (R125, R132). -/
theorem MoneyInv.queued {v : Ticket} (hn : v.number = t.number) (hu : u.tickets = (s.putTicket v).tickets)
    (hs : t.state = .valued ∨ t.state = .payFault) (hv : v.MoneyOk s.disp) (hd : u.disp = s.disp) (hl : u.log = s.log) {j : PayoutJob}
    (hq : u.queue = s.queue ++ [j]) (hj : j.ticket = t.number) (hw : j.Whole s.disp) (hc : j.Covers s.disp v) : MoneyInv u := by
  refine h.change (n := t.number) (v := some v) (fun x hx => ?_) (by rw [hd]) (fun x hx => Option.some.inj hx ▸ hn)
    (fun x hx => Option.some.inj hx ▸ hv) (fun k hk => ?_) (fun k hk => ?_) fun r hr => .inl (hl ▸ hr)
  · rw [hu] at hx
    exact (State.mem_putTicket hx).imp (fun e => congrArg some e.symm) fun ⟨hx, hne⟩ => ⟨hx, hn ▸ hne⟩
  · rw [hq] at hk
    rcases List.mem_append.1 hk with hk | hk
    · exact .inl ⟨hk, hf.queue_apart ht (by rcases hs with e | e <;> simp [e]) hk⟩
    · rw [List.mem_singleton.1 hk]
      exact .inr ⟨hj, hw, fun x hx => Option.some.inj hx ▸ hc⟩
  · rw [hd] at hk
    exact .inl ⟨hk, hf.job_apart ht (by rcases hs with e | e <;> simp [e]) hk⟩

theorem MoneyInv.authorised (hv : t.state = .valued) {m : Means} {amount : Nat} (hm : m = .split → amount ≤ t.total)
    (hden : m ≠ .credit → s.disp.denoms.isSome = true) :
    MoneyInv (s.authorised t (plan m t.total amount s.disp.un s.disp.uc)) := by
  have hsum := plan_addsUp hm s.disp.un s.disp.uc
  have hcash : (plan m t.total amount s.disp.un s.disp.uc).cash =
      (plan m t.total amount s.disp.un s.disp.uc).notes * s.disp.un + (plan m t.total amount s.disp.un s.disp.uc).coins * s.disp.uc := rfl
  have hcredit : m = .credit → (plan m t.total amount s.disp.un s.disp.uc).cash = 0 := by
    rintro rfl
    simp [plan, cashRequest]
  generalize plan m t.total amount s.disp.un s.disp.uc = a at hsum hcash hcredit
  obtain ⟨_, hprog⟩ := (h.tickets t ht).before (.inr (.inr hv))
  have hshape := State.paidIn_shape t a s
  have htab : (s.paidIn t a).tickets = s.tickets := by rw [hshape]
  have hq : (s.paidIn t a).queue = s.queue := by rw [hshape]
  have hl : (s.paidIn t a).log = s.log := by rw [hshape]
  have hd : (s.paidIn t a).disp = s.disp := by rw [hshape]
  unfold State.authorised
  dsimp only
  split
  · rename_i hz
    refine h.settled (p := s.paidIn t a) (t := { t with authorisation := some a }) hf ht rfl htab hq hl (by rw [hd]) (by simp [hv])
      (fun j hj => ⟨hd ▸ hj, hf.job_apart ht (by simp [hv]) (hd ▸ hj)⟩) ⟨⟨a, rfl, hsum⟩, ?_⟩
    simp [Ticket.paidValue, Ticket.cash, hprog, hz]
  · rename_i hz
    have hok : Ticket.MoneyOk s.disp { t with authorisation := some a, state := .authorised } :=
      { before := fun e => by simp at e
        authorised := fun _ => ⟨a, rfl, hsum, hcash⟩
        denoms := fun _ => hden fun hm => hz (hcredit hm)
        open_ := fun _ p hp => by
          rw [show t.progress = some p from hp] at hprog
          cases hprog
        begun := fun e => by simp at e
        record := (h.tickets t ht).record }
    exact h.queued hf ht (v := { t with authorisation := some a, state := .authorised })
      (j := { ticket := t.number, amount := a.cash, notes := a.notes, coins := a.coins }) rfl (congrArg (List.map _) htab) (.inl hv) hok hd hl
      (congrArg (· ++ _) hq) rfl hcash.symm (by simp [PayoutJob.Covers, Ticket.paidValue, Ticket.cash, hprog])

/-- A revoked ticket leaves the queue (R129). -/
theorem MoneyInv.revoked {v : Ticket} (hn : v.number = t.number) (hu : u.tickets = (s.putTicket v).tickets)
    (hs : t.state = .authorised) (hv : v.MoneyOk s.disp) (hd : u.disp = s.disp) (hl : u.log = s.log)
    (hq : u.queue = (s.dropJob t.number).queue) : MoneyInv u := by
  refine h.change (n := t.number) (v := some v) (fun x hx => ?_) (by rw [hd]) (fun x hx => Option.some.inj hx ▸ hn)
    (fun x hx => Option.some.inj hx ▸ hv) (fun k hk => ?_) (fun k hk => ?_) fun r hr => .inl (hl ▸ hr)
  · rw [hu] at hx
    exact (State.mem_putTicket hx).imp (fun e => congrArg some e.symm) fun ⟨hx, hne⟩ => ⟨hx, hn ▸ hne⟩
  · rw [hq] at hk
    obtain ⟨hk, hne⟩ := List.mem_filter.1 hk
    exact .inl ⟨hk, by simpa using hne⟩
  · rw [hd] at hk
    exact .inl ⟨hk, hf.job_apart ht (by simp [hs]) hk⟩

omit hf in
/-- What stands of a ticket in payout fault (R131). -/
theorem MoneyInv.payFault (hs : t.state = .payFault) : ∃ a p, t.authorisation = some a ∧ t.progress = some p ∧ a.addsUp t.total ∧
    a.cash = a.notes * s.disp.un + a.coins * s.disp.uc ∧ p.converted = 0 ∧ p.manual = 0 := by
  have hok := h.tickets t ht
  obtain ⟨a, ha, hsum, hcash⟩ := hok.authorised (.inr (.inr hs))
  obtain ⟨p, hp⟩ := Option.isSome_iff_exists.1 (hok.begun (.inr hs))
  obtain ⟨hconv, hman⟩ := hok.open_ (.inr (.inr hs)) p hp
  exact ⟨a, p, ha, hp, hsum, hcash, hconv, hman⟩

theorem MoneyInv.retried (hdiv : s.disp.Divides) (hs : t.state = .payFault) (hr : t.remainder s.disp ≠ 0) :
    MoneyInv (s.retried t.number t) := by
  obtain ⟨a, p, ha, hp, hsum, hcash, hconv, hman⟩ := h.payFault ht hs
  have hc : t.cash = a.cash := by simp [Ticket.cash, ha]
  have hpaid : t.paidValue s.disp = p.notesPaid * s.disp.un + p.coinsPaid * s.disp.uc := by simp [Ticket.paidValue, hp]
  have hdvd : s.disp.uc ∣ t.remainder s.disp := by
    unfold Ticket.remainder
    rw [hc, hcash, hpaid]
    exact Nat.dvd_sub ((hdiv.mul_left _).add (Nat.dvd_mul_left _ _)) ((hdiv.mul_left _).add (Nat.dvd_mul_left _ _))
  have hok : Ticket.MoneyOk s.disp (Ticket.withProgress (fun q => { q with retries := q.retries + 1 }) { t with state := .authorised }) :=
    { before := fun e => by simp [Ticket.withProgress] at e
      authorised := fun _ => ⟨a, ha, hsum, hcash⟩
      denoms := fun _ => (h.tickets t ht).denoms (.inr (.inr hs))
      open_ := fun _ q hq => by
        simp only [Ticket.withProgress, hp, Option.map_some, Option.some.injEq] at hq
        subst hq
        exact ⟨hconv, hman⟩
      begun := fun e => by simp [Ticket.withProgress] at e
      record := (h.tickets t ht).record }
  refine h.queued hf ht (v := Ticket.withProgress (fun q => { q with retries := q.retries + 1 }) { t with state := .authorised })
    rfl rfl (.inr hs) hok rfl rfl rfl rfl (remainder_whole hdvd hdiv) ?_
  unfold Ticket.remainder at hr
  have hsame : Ticket.paidValue s.disp (Ticket.withProgress (fun q => { q with retries := q.retries + 1 }) { t with state := .authorised }) =
      t.paidValue s.disp := by simp [Ticket.paidValue, Ticket.withProgress, hp]
  unfold PayoutJob.Covers
  rw [hsame]
  show t.cash - t.paidValue s.disp + t.paidValue s.disp = t.cash
  omega

/-- A ticket in payout fault settles, its remainder converted or paid by hand (R131 to R133). -/
theorem MoneyInv.resolved {p : State} (hs : t.state = .payFault) (hp : p.tickets = s.tickets) (hq : p.queue = s.queue) (hl : p.log = s.log)
    (hd : p.disp = s.disp) {f : Progress → Progress}
    (hfp : ∀ q, q.converted = 0 → q.manual = 0 → (f q).notesPaid = q.notesPaid ∧ (f q).coinsPaid = q.coinsPaid ∧
      (f q).converted + (f q).manual = t.remainder s.disp) : MoneyInv (p.settle (t.withProgress f)) := by
  obtain ⟨a, q, ha, hprog, hsum, hcash, hconv, hman⟩ := h.payFault ht hs
  obtain ⟨hnotes, hcoins, hmore⟩ := hfp q hconv hman
  have hpaid : (t.withProgress f).paidValue p.disp = t.paidValue s.disp := by
    simp [Ticket.paidValue, Ticket.withProgress, hprog, hnotes, hcoins, hd]
  refine h.settled (t := t.withProgress f) hf ht rfl hp hq hl (by rw [hd]) (by simp [hs])
    (fun j hj => ⟨hd ▸ hj, hf.job_apart ht (by simp [hs]) (hd ▸ hj)⟩) ⟨⟨a, ha, hsum⟩, ?_⟩
  rw [hpaid]
  have hc : (t.withProgress f).cash = t.cash := rfl
  rw [hc]
  simp only [Ticket.withProgress, hprog, Option.map_some, hmore, Ticket.remainder]
  omega

end

theorem MoneyInv.admitWaiting {s : State} (h : MoneyInv s) (hf : FlowInv s) : MoneyInv s.admitWaiting := by
  refine State.admitWaiting_elim (fun _ => h) (fun n rest _ _ => h.of_eq rfl rfl rfl rfl fun _ hj => hj) fun n rest t r hw ht hr => ?_
  have hm := State.ticket?_mem ht
  have hn := State.ticket?_number ht
  have hst : t.state = .settled := (hf.records t hm).1 (by simp [hr])
  refine h.moved hf hm (v := none) (by simp [hst]) (fun x hx => ?_) (fun x hx => (nomatch hx)) (fun x hx => (nomatch hx)) (by simp [State.dropTicket])
    (by simp [State.dropTicket]) fun q hq => ?_
  · rw [State.enterLog_tickets] at hx
    exact .inr (hn ▸ State.mem_dropTicket.1 hx)
  · rw [State.enterLog_log] at hq
    rcases List.mem_append.1 hq with hq | hq
    · exact .inl hq
    · rw [List.mem_singleton.1 hq]
      exact .inr ((h.tickets t hm).record r hr)

/-- With no cash open the denominations may change (R144). -/
theorem MoneyInv.setDenoms {s : State} (h : MoneyInv s) (hf : FlowInv s) (hc : s.cashOpen = false) {d : Dispenser}
    (hj : d.job = s.disp.job) : MoneyInv (s.setDisp d) := by
  obtain ⟨hq, hclosed⟩ : s.queue = [] ∧ ∀ t ∈ s.tickets, t.state ≠ .paying ∧ t.state ≠ .payFault := by
    simpa [State.cashOpen] using hc
  have hnone : ∀ j, d.job ≠ some j := fun j hjob => by
    obtain ⟨t, ht, _, hp⟩ := hf.paying j (hj ▸ hjob)
    exact (hclosed t ht).1 hp
  have hopen : ∀ t ∈ s.tickets, ¬t.cashOpen := fun t ht e => by
    rcases e with e | e | e
    · have := (hf.queued_iff ht).2 e
      rw [hq] at this
      exact absurd this List.not_mem_nil
    · exact (hclosed t ht).1 e
    · exact (hclosed t ht).2 e
  refine ⟨fun t ht => ⟨(h.tickets t ht).before, fun e => absurd e (hopen t ht), fun e => absurd e (hopen t ht), (h.tickets t ht).open_,
    (h.tickets t ht).begun, (h.tickets t ht).record⟩, fun j hjq => ?_, fun j hjob => absurd hjob (hnone j),
    fun j hjob => absurd hjob (hnone j), fun j hjob => absurd hjob (hnone j), h.log⟩
  rw [show (s.setDisp d).queue = [] from hq] at hjq
  exact absurd hjq List.not_mem_nil

theorem warmKept_money : WarmKept fun s => (FlowInv s ∧ s.disp.job = none) ∧ MoneyInv s where
  loss s hv hs := ⟨warmKept_flow.loss s hv hs.1, by
    rw [State.lossPhase_shape]
    exact hs.2.of_eq rfl rfl rfl rfl fun _ hj => hj⟩
  change e rest s hv he hs := ⟨warmKept_flow.change e rest s hv he hs.1, by
    rw [State.applyChange_shape]
    exact hs.2.of_eq rfl rfl rfl rfl fun _ hj => hj⟩
  close n u s hv hn hu hs := by
    have hm := State.ticket?_mem hu
    have hc : u.state = .closing := (hs.1.1.closing_iff hm).1 (State.ticket?_number hu ▸ hn)
    exact ⟨warmKept_flow.close n u s hv hn hu hs.1, hs.2.valueTicket hs.1.1 hm (v := { u with attachments := [] }) rfl (.inr hc) rfl rfl rfl true⟩
  leave n s hv hn hs := ⟨warmKept_flow.leave n s hv hn hs.1, hs.2.of_eq rfl rfl rfl rfl fun _ hj => hj⟩
  fault s hv hs := ⟨warmKept_flow.fault s hv hs.1, State.restartFault_elim (P := MoneyInv) (fun _ => hs.2) fun t ht hp =>
    hs.2.faulted hs.1.1 ht hp .restart rfl rfl rfl rfl hs.1.2⟩

theorem MoneyInv.reset : MoneyInv State.reset where
  tickets := fun _ h => (nomatch h)
  jobs := fun _ h => (nomatch h)
  paying := fun _ h => (nomatch h)
  target := fun _ h => (nomatch h)
  reached := fun _ h => (nomatch h)
  log := fun _ h => (nomatch h)

/-! ### Every command -/

theorem exec_keeps_money (c : Instr) (s : State) {t : State} (hi : s.InMoney) (h : exec c s = .next t) (hv : t.marker = .valid) :
    MoneyInv t := by
  obtain ⟨⟨hn, hf⟩, hdiv, hs⟩ := hi
  have hI := moneyInv_reads
  have hmem : ∀ {n u}, s.ticket? n = some u → u ∈ s.tickets := State.ticket?_mem
  have hreq : ∀ {src i n block}, request src i n block s = .next t → MoneyInv (block s).state → MoneyInv t :=
    hI.request (by simp [replyFields]) hs
  have hret : ∀ {b f}, retainedEvent b f s = .next t → (b = true → MoneyInv (f s)) → MoneyInv t :=
    fun h hf => retainedEvent_elim h hs fun hb => hI.kept (State.touches_sealed _) (by simp) (hf hb)
  have hpayout : PayoutEvent c → MoneyInv t := fun hc => (jobKept_inMoney.exec hc h ⟨⟨hn, hf⟩, hdiv, hs⟩).2.2
  have hfed : ∀ {l u}, s.feeding l = some u → u ∈ s.tickets ∧ (u.state = .opened ∨ u.state = .closing) := fun hu =>
    ⟨(State.feeding_some hu).1, (State.feeding_some hu).2.1⟩
  have hstops : ∀ {u : State}, u.tickets = s.tickets → u.queue = s.queue → u.log = s.log → u.disp.denoms = s.disp.denoms →
      (∀ j, u.disp.job = some j → s.disp.job = some j) → MoneyInv u := fun h1 h2 h3 h4 h5 => hs.of_eq h1 h2 h3 h4 h5
  cases c
  case openTicket => exact hreq h (openTicket_elim hs fun _ _ _ hroom => hs.opened hf hn hroom)
  case attachLane src n lane =>
    refine hreq h (attachLane_elim hs fun u hu _ hm _ _ => ?_)
    have hst : u.state = .opened ∨ u.state = .closing := by
      have : u.state = .opened ∨ (u.state = .closing ∧ isStationLane lane = true) := by simpa [Ticket.mayAttach] using hm
      exact this.imp_right And.left
    exact hs.early hf (hmem hu) (v := { u with attachments := u.attachments ++ [{ lane := lane, taken := 0 }] }) rfl rfl
      (hst.imp_right .inl) (hst.imp_right .inl) rfl rfl rfl rfl rfl rfl
  case detachLane =>
    exact hreq h (detachLane_elim hs fun u hu ha => hs.detached hf (hmem hu) (Ticket.takesArrivals_iff.1 ha) _)
  case laneDone =>
    exact hreq h (onGrantedLane_elim hs fun l => laneDone_elim hs fun u hu => hs.detached hf (hfed hu).1 (hfed hu).2 _)
  case closeTicket =>
    refine hreq h (closeTicket_elim hs (fun u hu ho => ?_) fun u hu ho => ?_)
    · exact hs.early hf (hmem hu) (v := { u.dropPulseLanes with state := .closing, closeDeadline := some (s.now + 1000 * s.closeWait) })
        rfl rfl (.inl ho) (.inr (.inl rfl)) rfl rfl rfl rfl rfl rfl
    · exact hs.valueTicket hf (hmem hu) (v := u.dropPulseLanes) rfl (.inl ho) rfl rfl rfl false
  case reopen =>
    refine hreq h (reopen_elim hs fun u hu hval => ?_)
    have hr := s.touches_restoreTicket u
    exact hs.early hf (hmem hu) (v := u.reopened) rfl (congrArg (List.map _) (hr .tickets (by simp))) (.inr (.inr hval)) (.inl rfl) rfl rfl
      rfl (hr .queue (by simp)) (hr .disp (by simp)) (hr .log (by simp))
  case void => exact hreq h (voidTicket_elim hs fun u hu hvoid => hs.voided hf (hmem hu) hvoid)
  case release =>
    exact hreq h (release_elim hs fun u rs hu _ =>
      hs.retells (.inr ⟨u, hmem hu, { u with holds := dropHolds rs u.holds }, rfl, rfl⟩) rfl rfl rfl)
  case authorise =>
    exact hreq h (authorise_elim hs fun m u hu hval _ hm hden _ _ => hs.authorised hf (hmem hu) hval (fun e => (hm e).2) hden)
  case revoke src n =>
    refine hreq h (revoke_elim hs (fun u hu ha hp _ => ?_) fun u hu ha hp => ?_)
    · have hq := State.ticket?_number hu
      subst hq
      exact hs.revoked hf (hmem hu) (v := { u with state := .valued, authorisation := none }) rfl rfl ha
        (.early (.inr (.inr rfl)) rfl hp (hs.tickets u (hmem hu)).record) rfl rfl rfl
    · have hq := State.ticket?_number hu
      subst hq
      have hok := hs.tickets u (hmem hu)
      have hvok : Ticket.MoneyOk s.disp { u with state := .payFault } :=
        { before := fun e => by simp at e
          authorised := fun _ => hok.authorised (.inl ha)
          denoms := fun _ => hok.denoms (.inl ha)
          open_ := fun _ => hok.open_ (.inl ha)
          begun := fun _ => hp
          record := hok.record }
      exact hs.revoked hf (hmem hu) (v := { u with state := .payFault }) rfl rfl ha hvok rfl rfl rfl
  case resolveRetry src n =>
    refine hreq h (resolveRetry_elim hs (fun u hu hp hz => ?_) fun u hu hp hr _ => ?_)
    · have hid : u.withProgress id = u := by simp [Ticket.withProgress]
      rw [← hid]
      exact hs.resolved hf (hmem hu) hp rfl rfl rfl rfl fun q hc hm => ⟨rfl, rfl, by rw [hz, id, hc, hm]⟩
    · have hq := State.ticket?_number hu
      subst hq
      exact hs.retried hf (hmem hu) hdiv hp hr
  case resolveConvert =>
    exact hreq h (resolveConvert_elim hs fun u hu hp _ _ =>
      hs.resolved (p := s.setAccount _ _) (f := fun q => { q with converted := u.remainder s.disp }) hf (hmem hu) hp rfl rfl rfl rfl
        fun q _ hm => ⟨rfl, rfl, by simp [hm]⟩)
  case resolveManual =>
    exact hreq h (resolveManual_elim hs fun u hu hp =>
      hs.resolved (f := fun q => { q with manual := u.remainder s.disp }) hf (hmem hu) hp rfl rfl rfl rfl
        fun q hc _ => ⟨rfl, rfl, by simp [hc]⟩)
  case takeLog =>
    refine hreq h (takeLog_elim hs fun r rest hl => ?_)
    have hlog : MoneyInv { s with log := rest } :=
      ⟨hs.tickets, hs.jobs, hs.paying, hs.target, hs.reached, fun q hq => hs.log q (by rw [hl]; exact List.mem_cons_of_mem _ hq)⟩
    exact hlog.admitWaiting (hf.of_eq rfl rfl rfl rfl fun j hj => ⟨j, hj, rfl⟩)
  case assignStrays =>
    exact hreq h (assignStrays_elim hs fun i u hu _ _ _ _ =>
      hs.retells (.inr ⟨u, hmem hu, Ticket.placeItems _ _ _ _ _ _ u, rfl, rfl⟩) rfl rfl rfl)
  case arrive _ _ _ _ n carried tag =>
    refine hreq h (onGrantedLane_elim hs fun l => arrive_elim hs (fun u e hu => ?_) fun u cl o k hu _ _ _ _ => ?_)
    · have hput : ∀ v : Ticket, v.course = u.course → MoneyInv (s.putTicket v) := fun v hc =>
        hs.retells (.inr ⟨u, (hfed hu).1, v, hc, rfl⟩) rfl rfl rfl
      exact State.refuseDuplicate_elim (hput _ rfl) (hI.kept (State.touches_tellOffice _ _) (by simp) (hput (Ticket.hold _ _) rfl))
    · have ha := s.touches_acceptArrival l cl o k n carried tag u
      exact hs.retells (.arrival (hfed hu).1 _ _ _ _ _ _ _) (ha .queue (by simp)) (ha .log (by simp)) (ha .disp (by simp))
  case setDispenser => exact hreq h (setDispenser_elim hs fun _ hc => hs.setDenoms hf hc rfl)
  case refill =>
    exact hreq h (refill_elim hs fun c _ _ => hstops rfl rfl rfl (by cases c <;> rfl) fun j hj => by cases c <;> exact hj)
  case clearChannel =>
    exact hreq h (clearChannel_elim hs fun c _ => hstops rfl rfl rfl (by cases c <;> rfl) fun j hj => by cases c <;> exact hj)
  case closeWaitExpiry n =>
    change execCloseWaitExpiry n s = _ at h
    unfold execCloseWaitExpiry at h
    split at h
    · rename_i u hu
      refine hret h fun hb => ?_
      have hc : u.state = .closing := by simpa using (Bool.and_eq_true_iff.1 hb).2
      have hr : MoneyInv (s.reach (u.closeDeadline.getD s.now)) := hI.kept (State.touches_reach _ s) (by simp [timeFields]) hs
      have hrf : FlowInv (s.reach (u.closeDeadline.getD s.now)) :=
        flowInv_reads.kept (State.touches_reach _ s) (by simp [timeFields]) hf
      exact hr.valueTicket hrf (v := { u with attachments := [] }) (hmem hu) rfl (.inr hc) rfl rfl rfl true
    · exact done_elim h hs
  case peyeTransition i blocked after =>
    change execPeyeTransition i blocked after s = _ at h
    refine hret h fun _ => ?_
    have he : MoneyInv (s.laneElapse i after) := hI.kept (s.touches_laneElapse i after) (by simp [timeFields]) hs
    have hp := State.touches_peye i blocked (s.laneElapse i after)
    exact he.retells (.peye _ i blocked) (hp .queue (by simp)) (hp .log (by simp)) (hp .disp (by simp))
  case powerStop cause =>
    change execPowerStop cause s = _ at h
    unfold execPowerStop at h
    split at h
    · cases h
      exact hstops rfl rfl rfl rfl fun _ hj => hj
    · exact event_elim h hs fun _ => hstops rfl rfl rfl rfl fun _ hj => hj
  case inputsSettled v after =>
    change execInputsSettled v after s = _ at h
    exact hret h fun _ => hI.kept (State.touches_arbitrate _) (by simp) (hstops rfl rfl rfl rfl fun _ hj => hj)
  case warmStart =>
    have hblocks : (FlowInv s.warmBlocks ∧ s.warmBlocks.disp.job = none) ∧ MoneyInv s.warmBlocks :=
      ⟨⟨hf.of_eq rfl rfl rfl rfl fun j hj => (nomatch hj), rfl⟩, hstops rfl rfl rfl rfl fun j hj => (nomatch hj)⟩
    exact warmKept_money.exec h hs (fun _ _ => hblocks) (fun u _ hu => hI.kept u.touches_sealed (by simp) hu.2)
      fun cause u _ hu => hI.kept (State.touches_sealed _) (by simp) (hu.2.of_eq rfl rfl rfl rfl fun _ hj => hj)
  case coldStart found cut =>
    change execColdStart found cut s = _ at h
    refine event_elim (P := fun u => u.marker = .valid → MoneyInv u) h (fun _ => hs) (fun _ hm => ?_) hv
    cases cut with
    | none => exact MoneyInv.reset.of_eq rfl rfl rfl rfl fun _ hj => hj
    | some cause => cases hm
  case jobTake => exact hpayout (.jobTake _)
  case noteVendEnd => exact hpayout (.noteVendEnd _)
  case noteExitStart => exact hpayout (.noteExitStart _)
  case noteExitEnd => exact hpayout (.noteExitEnd _ _)
  case noteJamTimeout => exact hpayout .noteJamTimeout
  case coinExitStart => exact hpayout (.coinExitStart _)
  case coinGapTimeout => exact hpayout .coinGapTimeout
  case coinEmptyAsserted => exact hpayout (.coinEmptyAsserted _)
  case runOnEnd => exact hpayout .runOnEnd
  all_goals exact hI.exec hs h (by simp [Instr.source?, replyFields, timeFields, scheduleFields])

/-- Settles O43: each command moves one ticket with its job, and the settlement, the plan and the counts of the dispenser each keep
their sum. -/
theorem moneyInvariantKept : Obligations.MoneyInvariantKept := fun s t hd hn hs h hv =>
  step_elim (P := fun u => u.marker = .valid → MoneyInv u) h (fun hm => (hs hm).2)
    (fun _ hm => moneyInv_reads.kept (State.touches_elapse 1 s) (by simp [timeFields]) (hs hm).2)
    (fun c rest hx hm => by
      rcases exec_marker hx hm with hms | rfl
      · obtain ⟨hf, hmoney⟩ := hs hms
        exact exec_keeps_money c { s with pending := rest } ⟨⟨⟨hn.distinct, hn.inRange, hn.next, hn.room, hn.records⟩,
          hf.of_eq rfl rfl rfl rfl fun j hj => ⟨j, hj, rfl⟩⟩, hd.divides, hmoney.of_eq rfl rfl rfl rfl fun _ hj => hj⟩ hx hm
      · exact MoneyInv.reset.of_eq rfl rfl rfl rfl fun _ hj => hj) hv

end Sys2Proof.Machine
end

section
/-! SUPPORT. What a command answers (0.2): a request its block or a refusal, an event its effect where its condition holds; and what
a request line of a port or of a grant takes (R164, R169, R178 to R181). -/

namespace Sys2Proof.Machine

/-! ### Events -/

/-- The commands that concern a stop: the crystal and the backup supply, the supply's fall, and the starts (R192). -/
inductive MeetsStop : Instr → Prop
  | clockAdvance : MeetsStop .clockAdvance
  | backupLow : MeetsStop .backupLow
  | backupCrystalStop (k) : MeetsStop (.backupCrystalStop k)
  | powerStop (k) : MeetsStop (.powerStop k)
  | warmStart (f k) : MeetsStop (.warmStart f k)
  | coldStart (f k) : MeetsStop (.coldStart f k)

/-- A command is an event whose condition needs a running part, unless it concerns a stop or has no effect in a stopped part. -/
def IsEvent (c : Instr) (s : State) : Prop :=
  ∃ b f, exec c s = event b f s ∧ (b = true → s.on = true ∨ MeetsStop c ∨ (s.on = false → f s = s))

namespace IsEvent

variable {c : Instr} {s : State}

theorem next (h : IsEvent c s) : ∃ t, exec c s = .next t := by
  obtain ⟨b, f, hx, _⟩ := h
  exact ⟨_, hx⟩

/-- In a stopped part it changes nothing. -/
theorem stopped (h : IsEvent c s) (hoff : s.on = false) (hc : ¬MeetsStop c) : exec c s = .next s := by
  obtain ⟨b, f, hx, hb⟩ := h
  rw [hx]
  cases b with
  | false => exact event_not rfl _ _
  | true =>
    rcases hb rfl with hon | hm | hf
    · rw [hoff] at hon
      cases hon
    · exact absurd hm hc
    · rw [event_of rfl, hf hoff]

theorem of_done (h : exec c s = done s) : IsEvent c s := ⟨false, id, h, fun e => (nomatch e)⟩

theorem of_event {b : Bool} {f : State → State} (h : exec c s = event b f s) (hb : b = true → s.on = true) : IsEvent c s :=
  ⟨b, f, h, fun e => .inl (hb e)⟩

theorem of_retained {b : Bool} {f : State → State} (h : exec c s = retainedEvent b f s) (hb : b = true → s.on = true) : IsEvent c s :=
  ⟨b, _, h, fun e => .inl (hb e)⟩

theorem of_stop {b : Bool} {f : State → State} (h : exec c s = event b f s) (hc : MeetsStop c) : IsEvent c s :=
  ⟨b, f, h, fun _ => .inr (.inl hc)⟩

end IsEvent

theorem unknownRequest_isEvent (link : Link) (name : List Byte) (s : State) : IsEvent (.unknownRequest link name) s := by
  simp only [IsEvent, exec, execUnknownRequest]
  refine ⟨_, _, rfl, fun _ => .inr (.inr fun hoff => ?_)⟩
  cases link
  · simp [unknownOnPort, hoff]
  · simp [unknownOnPort, hoff]
  · simp only [unknownInGrant, hoff]
    split <;> rfl

/-- Every command that is no request is an event. -/
theorem exec_isEvent {c : Instr} (hc : c.source? = none) (s : State) : IsEvent c s := by
  have hand : ∀ {b d : Bool}, (b && d) = true → b = true := fun h => (Bool.and_eq_true_iff.1 h).1
  have hand3 : ∀ {b d e : Bool}, (b && d && e) = true → b = true := fun h => hand (hand h)
  have hset : ∀ {b : Bool}, (s.settled && b) = true → s.on = true := fun h => PayoutKept.settled_on (hand h)
  cases c <;> cases hc
  case unknownRequest link name => exact unknownRequest_isEvent link name s
  case closeWaitExpiry n =>
    cases hn : s.ticket? n with
    | none => exact .of_done (by simp only [exec, execCloseWaitExpiry, hn])
    | some t => exact .of_retained (by simp only [exec, execCloseWaitExpiry, hn]; rfl) hand
  case clockAdvance =>
    by_cases hon : s.on = true
    · exact .of_stop (by simp only [exec, execClockAdvance, hon, if_true]; rfl) .clockAdvance
    · exact .of_stop (by simp only [exec, execClockAdvance, hon]; rfl) .clockAdvance
  case crystalLoss => exact .of_event (by simp only [exec, execCrystalLoss]; rfl) hand
  case crystalReturn => exact .of_event (by simp only [exec, execCrystalReturn]; rfl) hand
  case backupCrystalStop => exact .of_stop (by simp only [exec, execBackupCrystalStop]; rfl) (.backupCrystalStop _)
  case backupLow => exact .of_stop (by simp only [exec, execBackupLow]; rfl) .backupLow
  case powerStop cause =>
    by_cases hon : s.on = true
    · exact .of_stop (b := true) (f := State.halt cause) (by simp only [exec, execPowerStop, hon, if_true]; rfl) (.powerStop _)
    · exact .of_stop (by simp only [exec, execPowerStop, hon]; rfl) (.powerStop _)
  case warmStart => exact .of_stop (by simp only [exec, execWarmStart]; rfl) (.warmStart _ _)
  case coldStart => exact .of_stop (by simp only [exec, execColdStart]; rfl) (.coldStart _ _)
  case portLineError => exact .of_event (by simp only [exec, execPortLineError]; rfl) hand
  case portGapTimeout => exact .of_event (by simp only [exec, execPortGapTimeout]; rfl) hand
  case portIdleRecover => exact .of_event (by simp only [exec, execPortIdleRecover]; rfl) hand
  case portOverrun => exact .of_event (by simp only [exec, execPortOverrun]; rfl) hand3
  case portReplyEnd => exact .of_event (by simp only [exec, execPortReplyEnd]; rfl) hand
  case requestFrameStart => exact .of_event (by simp only [exec, execRequestFrameStart]; rfl) hand
  case lreqChange => exact .of_retained (by simp only [exec, execLreqChange]; rfl) hset
  case frameStart after =>
    simp only [IsEvent, exec, execFrameStart]
    split
    · exact ⟨_, _, rfl, fun h => .inl (hand3 h)⟩
    · exact ⟨false, id, rfl, fun e => (nomatch e)⟩
  case grantMiss =>
    simp only [IsEvent, exec, execGrantMiss]
    split
    · exact ⟨_, _, rfl, fun h => .inl h⟩
    · exact ⟨false, id, rfl, fun e => (nomatch e)⟩
  case laneFrameError kind after =>
    simp only [IsEvent, exec, execLaneFrameError]
    split
    · exact ⟨_, _, rfl, fun h => .inl (hand3 (hand (hand h)))⟩
    · exact ⟨_, _, rfl, fun h => .inl (hand3 h)⟩
    · exact ⟨false, id, rfl, fun e => (nomatch e)⟩
  case laneCharTimeout after =>
    simp only [IsEvent, exec, execLaneCharTimeout]
    split
    · exact ⟨_, _, rfl, fun h => .inl h⟩
    · exact ⟨false, id, rfl, fun e => (nomatch e)⟩
  case laneReplyEnd after =>
    simp only [IsEvent, exec, execLaneReplyEnd]
    split
    · exact ⟨_, _, rfl, fun h => .inl h⟩
    · exact ⟨false, id, rfl, fun e => (nomatch e)⟩
  case peyeTransition => exact .of_retained (by simp only [exec, execPeyeTransition]; rfl) hset
  case stall i =>
    cases hd : s.pulse[i].stallDue with
    | none => exact .of_done (by simp only [exec, execStall, hd])
    | some due => exact .of_retained (by simp only [exec, execStall, hd]; rfl) id
  case jobTake e =>
    cases hq : s.queue with
    | nil => exact .of_done (by simp only [exec, execJobTake, hq])
    | cons j rest => exact .of_retained (by simp only [exec, execJobTake, hq]; rfl) fun h => hset (b := s.idle) (hand h)
  case noteVendEnd e =>
    cases hj : s.disp.noteJob with
    | none => exact .of_done (by simp only [exec, execNoteVendEnd, hj])
    | some j => exact .of_retained (by simp only [exec, execNoteVendEnd, hj]; rfl) hand
  case noteExitStart => exact .of_retained (by simp only [exec, execNoteExitStart]; rfl) hset
  case noteExitEnd => exact .of_retained (by simp only [exec, execNoteExitEnd]; rfl) hset
  case noteJamTimeout =>
    cases hj : s.disp.noteJob with
    | none => exact .of_done (by simp only [exec, execNoteJamTimeout, hj])
    | some j =>
      cases hw : j.work.bind (NoteWork.limit s.disp.jamTime) with
      | none => exact .of_done (by simp only [exec, execNoteJamTimeout, hj, hw])
      | some m => exact .of_retained (by simp only [exec, execNoteJamTimeout, hj, hw]; rfl) id
  case coinExitStart => exact .of_retained (by simp only [exec, execCoinExitStart]; rfl) hset
  case coinGapTimeout =>
    cases hj : s.disp.coinJob with
    | none => exact .of_done (by simp only [exec, execCoinGapTimeout, hj])
    | some j => exact .of_retained (by simp only [exec, execCoinGapTimeout, hj]; rfl) id
  case coinEmptyAsserted => exact .of_retained (by simp only [exec, execCoinEmptyAsserted]; rfl) hset
  case runOnEnd =>
    cases hj : s.disp.job with
    | none => exact .of_done (by simp only [exec, execRunOnEnd, hj])
    | some j => exact .of_retained (by simp only [exec, execRunOnEnd, hj]; rfl) hand
  case inputsSettled => exact .of_retained (by simp only [exec, execInputsSettled]; rfl) hand

/-- Every command answers a next state. -/
theorem exec_next (c : Instr) (s : State) : ∃ t, exec c s = .next t := by
  cases hc : c.source? with
  | none => exact (exec_isEvent hc s).next
  | some src =>
    obtain ⟨n, bs, block, _, hx, _⟩ := exec_isRequest hc
    exact ⟨_, (hx s).trans (request_isNext _ _ _ _ _)⟩

/-- Settles O2: an event ends in `done` and a request in its answer, and no command touches the queue. -/
theorem everyCommandAnswersANextState : Obligations.EveryCommandAnswersANextState := fun c s => by
  obtain ⟨t, ht⟩ := exec_next c s
  refine ⟨t, ht, exec_touches ht .pending ?_⟩
  cases c <;>
    simp [Instr.source?, replyFields, timeFields, valuationFields, finishFields, scheduleFields, payoutFields, warmFields]

/-- Settles O1, by the definition of a step and of what passing time does to the lane bus. -/
theorem stepRunsTheFrontCommandOrIdles : Obligations.StepRunsTheFrontCommandOrIdles := by
  refine ⟨fun c rest s h => ?_, fun s h => ?_, fun ms t s => ⟨fun h => ?_, fun hpos hg => ?_, rfl⟩⟩
  · simp only [step, h]
  · simp only [step, h, State.idleTick]
    exact ⟨fun hon => by rw [if_pos hon], fun hoff => by rw [if_neg (by simp [hoff])]⟩
  · have hpass : s.bus.pass ms = s.bus := by
      rcases h with rfl | ⟨l, r, hg⟩
      · simp [LaneBus.pass]
      · have hreply : s.bus.replying = true := by simp [LaneBus.replying, hg]
        simp [LaneBus.pass, hreply]
    simp only [State.elapse, hpass]
  · have hreply : s.bus.replying = false := by
      unfold LaneBus.replying
      split
      · exact absurd ‹_› (hg _ _)
      · rfl
    have hpass : s.bus.pass ms = { s.bus with lbusDe := false } := by simp [LaneBus.pass, hreply, Nat.pos_iff_ne_zero.1 hpos]
    simp only [State.elapse, hpass]

/-! ### What is not taken -/

/-- Settles O3: a request is taken by a port that is RECEIVING and in a grant's reception alone, and an event of a running part has
no effect in a stopped one. -/
theorem whatIsNotTakenChangesNothing : Obligations.WhatIsNotTakenChangesNothing := by
  have hrequest : ∀ (c : Instr) (src : Source) (s : State), c.source? = some src →
      (∀ p : Port, src.link = p.link → s.on = false ∨ (s.port p).receiver ≠ .receiving → exec c s = .next s) ∧
      (src.link = .laneBus → s.on = false ∨ (∀ l, s.bus.grant ≠ some { lane := l, phase := .reception }) → exec c s = .next s) := by
    intro c src s hc
    obtain ⟨n, _, block, _, hx, _⟩ := exec_isRequest hc
    rw [hx]
    exact ⟨fun p hl hr => request_notReceiving hr src hl c n block, fun hl hr => request_notHeard hr src hl c n block⟩
  refine ⟨hrequest, fun c s hoff h1 h2 h3 h4 h5 h6 => ?_⟩
  cases hc : c.source? with
  | none =>
    refine (exec_isEvent hc s).stopped hoff fun hm => ?_
    cases hm with
    | clockAdvance => exact h1 rfl
    | backupLow => exact h2 rfl
    | backupCrystalStop k => exact h3 k rfl
    | powerStop k => exact h4 k rfl
    | warmStart f k => exact h5 f k rfl
    | coldStart f k => exact h6 f k rfl
  | some src =>
    obtain ⟨hport, hlane⟩ := hrequest c src s hc
    obtain ⟨link, fits⟩ := src
    cases link
    · exact hport .office rfl (.inl hoff)
    · exact hport .accounts rfl (.inl hoff)
    · exact hlane rfl (.inl hoff)

/-! ### What is refused before its block -/

/-- Settles O4: the permission, the station's requests and the field bytes are looked at before the block is. -/
theorem requestsRefusedBeforeTheirBlock : Obligations.RequestsRefusedBeforeTheirBlock := by
  refine ⟨fun c n bs fits s hp => ⟨fun p hc hr => ?_, fun l hc hh => ?_⟩, fun name s hname => ⟨fun p hr => ?_, fun l hh => ?_⟩⟩
  · obtain ⟨m, bs', block, hp', hx, _⟩ := exec_isRequest hc
    rw [hp] at hp'
    cases hp'
    rw [hx, request_onPort hr]
    refine ⟨fun hn => ?_, fun hn hf => ?_⟩
    · rw [if_pos (by simpa using mt (permitted_iff p n).1 hn)]
      rfl
    · rw [if_neg (by simpa using (permitted_iff p n).2 hn), if_pos (by simp [hf])]
      rfl
  · obtain ⟨m, bs', block, hp', hx, _⟩ := exec_isRequest hc
    rw [hp] at hp'
    cases hp'
    rw [hx, request_inGrant hh]
    refine ⟨fun hn => ?_, fun hn hf => ?_⟩
    · rw [if_pos (by simpa using mt (ofStation_iff n).1 hn)]
      rfl
    · rw [if_neg (by simpa using (ofStation_iff n).2 hn), if_pos (by simp [hf])]
      rfl
  · have hnone := (ReqName.ofChars_eq_none name).2 hname
    obtain ⟨hon, hrec⟩ := hr
    show execUnknownRequest p.link name s = _
    rw [execUnknownRequest, event_of (by simp [hnone])]
    have htaken : unknownOnPort p (.unknownRequest p.link name) name s =
        State.replyOn p (.unknownRequest p.link name) name (refuse .unknownRequest s) := by simp [unknownOnPort, hon, hrec]
    cases p <;> exact congrArg _ htaken
  · have hnone := (ReqName.ofChars_eq_none name).2 hname
    obtain ⟨hon, hg⟩ := hh
    show execUnknownRequest .laneBus name s = _
    rw [execUnknownRequest, event_of (by simp [hnone])]
    simp only [unknownInGrant, hg, hon, if_true]
    rfl

/-! ### Reception on a port (R178 to R180) -/

/-- Settles O5, event by event. -/
theorem portReceptionEvents : Obligations.PortReceptionEvents := by
  intro p kind after s hon
  have hin : ∀ {r}, (s.port p).receiver = r → (s.on && (s.port p).receiver == r) = true := fun h => by simp [hon, h]
  refine ⟨fun h => ?_, fun h => ⟨?_, ?_⟩, fun h => ?_, fun h => ⟨fun hm => ?_, ?_⟩⟩
  · show execRequestFrameStart p after s = _
    exact event_of (hin h) _ s
  · show execPortLineError p kind after s = _
    exact event_of (hin h) _ s
  · show execPortGapTimeout p after s = _
    exact event_of (hin h) _ s
  · show execPortIdleRecover p after s = _
    exact event_of (hin h) _ s
  · show execPortOverrun p after s = _
    exact event_of (by rw [hin h, hm]; rfl) _ s
  · show execPortReplyEnd p after s = _
    exact event_of (hin h) _ s

/-! ### The state after reset -/

/-- Settles O9, each invariant by its own lemma. -/
theorem invariantsHoldAtReset : Obligations.InvariantsHoldAtReset := by
  have hports : PortsInv State.reset := by
    constructor
    all_goals
      exact ⟨by decide, by decide, by decide, by decide, by decide, by decide, by decide⟩
  exact ⟨.sealed _, .reset, hports, .reset, .reset, fun _ h => (nomatch h), .reset, .reset, .reset, .reset, .reset, .reset⟩

end Sys2Proof.Machine
end

section
/-! SUPPORT. The statements about closing, voiding and finishing a ticket and about the watch list (Sections 3, 4.6, 7.5): the
records and the list said once, then each request's answer, put through its port. -/

namespace Sys2Proof.Machine

/-! ### The watch list (R88) -/

theorem insertByRank_perm (rank : Nat → Nat) (x : Nat) : ∀ ys : List Nat, (insertByRank rank x ys).Perm (x :: ys)
  | [] => .refl _
  | y :: ys => by
    rw [insertByRank]
    split
    · exact .refl _
    · exact ((insertByRank_perm rank x ys).cons y).trans (.swap x y ys)

/-- The order of a rank leaves out no tag and repeats none. -/
theorem orderByRank_perm (rank : Nat → Nat) : ∀ xs : List Nat, (orderByRank rank xs).Perm xs
  | [] => .refl _
  | x :: xs => (insertByRank_perm rank x _).trans ((orderByRank_perm rank xs).cons x)

theorem watchAdd_listed {tag : Nat} {s : State} (h : tag ∈ s.watch) : watchAdd tag s = watchReply s :=
  if_pos (List.contains_iff_mem.2 h)

theorem watchAdd_new {tag : Nat} {s : State} (h : tag ∉ s.watch) : watchAdd tag s =
    if 8 ≤ s.watch.length then refuse .listFull s else watchReply { s with watch := s.watch ++ [tag] } :=
  if_neg (mt List.contains_iff_mem.1 h)

theorem watchRemove_eq (tag : Nat) (s : State) : watchRemove tag s =
    if tag ∈ s.watch then watchReply { s with watch := s.watch.filter (· != tag) } else refuse .wrongState s := by
  simp only [watchRemove, List.contains_iff_mem]

/-- Settles O29: what each request leaves in the list, whose order in the reply is some order of it. -/
theorem watchListRequests : Obligations.WatchListRequests := by
  intro tag s hp add remove list takes
  have shows : ∀ {i : Instr} {block : State → Answer} {after : List Nat}, exec i s = request Port.office.sent i .wtch block s →
      block s = watchReply { s with watch := after } → takes i after := fun {i block after} hi hb =>
    ⟨_, s.draws + 1, orderByRank_perm (Config.watchRank s.draws) after, hi.trans (request_answers hp rfl i hb)⟩
  refine ⟨fun h => ⟨shows rfl (watchAdd_listed h), shows rfl ?_⟩, fun h => ⟨fun hroom => shows rfl ?_, fun hfull => ?_, ?_⟩,
    shows rfl rfl⟩
  · exact (watchRemove_eq tag s).trans (if_pos h)
  · exact (watchAdd_new h).trans (if_neg (Nat.not_le.2 hroom))
  · exact request_answers hp rfl add ((watchAdd_new h).trans (if_pos hfull))
  · exact request_answers hp rfl remove ((watchRemove_eq tag s).trans (if_neg h))

/-! ### Records of the settled log (R136) -/

theorem anySuspect_eq (opened settled : Stamp) (valued : Option Stamp) :
    anySuspect opened settled valued = (opened.suspect || settled.suspect || valued.any (·.suspect)) := by
  cases valued <;> rfl

theorem Ticket.paidValue_eq (d : Dispenser) (t : Ticket) : t.paidValue d =
    (t.progress.map fun p => p.notesPaid * (d.denoms.map (·.1)).getD 0 + p.coinsPaid * (d.denoms.map (·.2)).getD 0).getD 0 := by
  rw [Ticket.paidValue, Dispenser.un_eq, Dispenser.uc_eq]
  cases t.progress <;> rfl

/-- A ticket that was never valued has each line's value at 0. -/
theorem voidedRecord_lines (t : Ticket) (customer : Nat) (settled : Stamp) : (voidedRecord t customer settled).lines =
    List.zipWith voidedLine t.lines ((t.figures.map fun f => f.lines.map (·.value)).getD (t.lines.map fun _ => 0)) := by
  unfold voidedRecord
  cases t.figures with
  | none =>
    show t.lines.map _ = List.zipWith _ _ (t.lines.map _)
    rw [List.zipWith_map_right, List.zipWith_self]
  | some f =>
    show List.zipWith _ _ _ = List.zipWith _ _ (f.lines.map _)
    rw [List.zipWith_map_right]

/-! ### Where a finished ticket goes (R135, R137) -/

theorem State.finish_enters {s : State} (h : s.log.length < 64) (t : Ticket) (r : LogRecord) :
    s.finish t r = State.enterLog r (State.dropTicket t.number (s.dropTags t.number)) := if_pos h

theorem State.finish_waits {s : State} (h : 64 ≤ s.log.length) (t : Ticket) (r : LogRecord) : s.finish t r =
    { (s.dropTags t.number).putTicket { t with record := some r } with waiting := s.waiting ++ [t.number] } :=
  if_neg (Nat.not_lt.2 h)

/-- Settles O39: the PAID record field by field, then the three lengths the log may have. -/
theorem settlementAndTheSettledLog : Obligations.SettlementAndTheSettledLog := by
  refine ⟨fun t f a s hf ha => ?_, fun t r s => ⟨fun hroom => ?_, fun hlast => ?_, fun hfull => ?_⟩⟩
  · intro un uc paid now
    have hpaid : t.paidValue s.disp = paid := Ticket.paidValue_eq s.disp t
    rw [State.settle, hpaid, show t.cash = a.cash by rw [Ticket.cash, ha]]
    congr 1
    simp only [paidRecord, anySuspect_eq, Ticket.total, Ticket.cash, hf, ha]
    cases t.progress <;> rfl
  · rw [State.finish_enters (by omega), State.enterLog_eq]
    have hlen : ¬s.log.length + 1 = 64 := by omega
    rw [State.dropTicket_log, State.dropTags_log, if_neg hlen, if_neg hlen]
    rfl
  · rw [State.finish_enters (by omega), State.enterLog_eq]
    have hlen : s.log.length + 1 = 64 := by omega
    rw [State.dropTicket_log, State.dropTags_log, if_pos hlen, if_pos hlen]
    rfl
  · exact State.finish_waits hfull t r

/-! ### Close Ticket and the close wait (R46, R47, R50) -/

section
variable {n : Nat} {t : Ticket} {s : State}

theorem dropPulseLanes_eq (t : Ticket) :
    t.dropPulseLanes = { t with attachments := t.attachments.filter fun e => e.lane < 6 } := rfl

theorem Ticket.dropPulseLanes_hasStation : t.dropPulseLanes.hasStation = true ↔
    t.attachments.filter (fun e => decide (e.lane < 6)) ≠ [] := by
  simp [Ticket.hasStation_iff, dropPulseLanes_eq, List.filter_eq_nil_iff]

theorem closeTicket_opened (ht : s.ticket? n = some t) (hst : t.state = .opened) : closeTicket n s =
    if t.dropPulseLanes.hasStation then okay (.closed n .closing none) (s.startClosing t.dropPulseLanes)
    else okay (.closed n .valued (some (s.valuedTicket false t.dropPulseLanes).total)) (s.valueTicket false t.dropPulseLanes) :=
  onTicket_inState ht _ hst

/-- The close wait's expiry at the deadline the ticket holds (R50). -/
theorem exec_closeWaitExpiry {d : Nat} (ht : s.ticket? n = some t) (hon : s.on = true) (hst : t.state = .closing)
    (hd : t.closeDeadline = some d) : exec (.closeWaitExpiry n) s =
      .next ((s.reach d).valueTicket true { t with attachments := [] }).sealed := by
  show execCloseWaitExpiry n s = _
  rw [execCloseWaitExpiry, ht]
  dsimp only
  rw [retainedEvent_of (by simp [hon, hst]), hd]
  rfl

end

/-- Settles O20: what the ticket keeps decides between the close wait and the valuation. -/
theorem closeTicketAndExpiry : Obligations.CloseTicketAndExpiry := by
  intro n t s ht
  refine ⟨fun hp => ?_, fun d hon hst hd => exec_closeWaitExpiry ht hon hst hd⟩
  intro i kept
  refine ⟨fun hst => ?_, fun hst hkept => ?_, fun hst hkept => ?_⟩
  · exact request_answers hp rfl i (onTicket_notInState ht _ hst)
  · obtain rfl := State.ticket?_number ht
    exact request_answers hp rfl i ((closeTicket_opened ht hst).trans (if_pos (Ticket.dropPulseLanes_hasStation.2 hkept)))
  · have hok := (closeTicket_opened ht hst).trans (if_neg (mt Ticket.dropPulseLanes_hasStation.1 (not_not.2 hkept)))
    rw [dropPulseLanes_eq, show (t.attachments.filter fun e => decide (e.lane < 6)) = [] from hkept] at hok
    rw [Nat.min_comm]
    exact request_answers hp rfl i hok

/-! ### Void (R58) -/

/-- Settles O24: the states it is refused in, then the record and the slot it leaves. -/
theorem voidEndsATicket : Obligations.VoidEndsATicket := by
  intro n t s hp ht i now rec_ u
  refine ⟨fun hst => ?_, fun hst => ?_⟩
  · refine request_answers hp rfl i (onTicket_wrongState ht (mt Ticket.voidable_iff.1 ?_) _)
    rintro (h | h | h) <;> simp [h] at hst
  · obtain rfl := State.ticket?_number ht
    have hrec : voidedRecord u s.accounts[t.account].customer now = rec_ := by
      have hlines := voidedRecord_lines u s.accounts[t.account].customer now
      simp only [voidedRecord, anySuspect_eq, Ticket.total_eq] at hlines ⊢
      rw [hlines]
      rfl
    have hvoid : s.voidTicket t = ({ s.restoreTicket t with
        closingOrder := s.closingOrder.filter (· != t.number) } : State).finish u rec_ := by
      rw [← hrec]
      show (State.leaveClosing t.number (s.restoreTicket t)).finish u _ = _
      rw [State.restoreTicket_eq]
      rfl
    have hslot : (s.voidTicket t).slotState t.number = if s.log.length < 64 then .free else .settled := by
      rw [hvoid, State.restoreTicket_eq]
      exact State.finish_slotState (t := u) ht rfl
    have hok := onTicket_taken ht (Ticket.voidable_iff.2 hst)
      (fun t => okay (.ticketState t.number ((s.voidTicket t).slotState t.number)) (s.voidTicket t))
    rw [hslot, hvoid] at hok
    refine request_answers hp rfl i (Eq.trans ?_ hok)
    simp only [voidTicket, onTicket, ht]

end Sys2Proof.Machine
end

section
/-! SUPPORT. Pulse lanes (Section 5), said once: what an edge places, the checks of Assign Strays and of Set Lane, and the
statements about these two requests. -/

namespace Sys2Proof.Machine

theorem pulseNumber_eq (i : PulseIx) : pulseNumber i = 6 + i.val := Nat.add_comm _ _

theorem pulseOf_lane (i : PulseIx) : pulseOf (6 + i.val) = some i := by
  rw [← pulseNumber_eq]; exact pulseOf_pulseNumber i

/-! ### What an edge, or a count of strays, places (R98, R102) -/

/-- The line as it stands after `n` own good items from a pulse lane, with the bottles of that many crates in mode FULL. A class
whose record has no slots unless it is a CRATE has no allowance to exceed. -/
def PulseLane.fills (r : ClassRecord) (n : Nat) (l : Line) (p : PulseLane) : Line :=
  { l with good := l.good + n, bottles := l.bottles + (if p.mode = .full then n * r.slots else 0) }

theorem allowance_eq {r : ClassRecord} (h : r.kind ≠ .crate → r.slots = 0) (n : Nat) : allowance r n = n * r.slots := by
  unfold allowance
  split
  · rfl
  · rw [h ‹_›, Nat.mul_zero]

theorem PulseLane.bottlesFor_eq (r : ClassRecord) (n : Nat) (p : PulseLane) :
    p.bottlesFor r n = if p.mode = .full then n * r.slots else 0 := by
  unfold PulseLane.bottlesFor; cases p.mode <;> rfl

theorem Ticket.placeItems_pulse {r : ClassRecord} (h : r.kind ≠ .crate → r.slots = 0) (p : PulseLane) (c : ClassId) (n : Nat)
    (t : Ticket) : t.placeItems r c .own .good n (p.bottlesFor r n) =
      { t with lines := putLine (p.fills r n (t.lineFor c)) t.lines } := by
  have hle : p.bottlesFor r n ≤ allowance r n := by
    rw [PulseLane.bottlesFor_eq, allowance_eq h]; split <;> simp
  rw [Ticket.placeItems_eq, Nat.min_eq_left hle, decide_eq_false fun hc => Nat.not_lt.2 hle hc.2, PulseLane.bottlesFor_eq]
  rfl

/-! ### Assign Strays (R102) -/

section
variable {i : PulseIx} {n : Nat} {t : Ticket} {s : State}

theorem assignStrays_badValue {lane : Nat} (h : lane < 6 ∨ 9 < lane) (n : Nat) (s : State) :
    assignStrays lane n s = refuse .badValue s := by
  rw [assignStrays, pulseOf_eq_none.2 h]

theorem assignStrays_wrongState (ht : s.ticket? n = some t) (hst : t.state ≠ .opened) (i : PulseIx) :
    assignStrays (6 + i.val) n s = refuse .wrongState s := by
  rw [assignStrays, pulseOf_lane]
  exact onTicket_notInState ht _ hst

/-- The checks of R102 past the ticket's state, and the effect. -/
theorem assignStrays_opened (ht : s.ticket? n = some t) (hst : t.state = .opened) (i : PulseIx) :
    assignStrays (6 + i.val) n s =
      if s.pulse[i].strays = 0 then okay (.assigned n .opened 0 (t.lineFor s.pulse[i].cls).total) s
      else if t.linesFull s.pulse[i].cls then refuse .linesFull s
      else if t.cellFull s.pulse[i].cls .own .good s.pulse[i].strays then refuse .cellFull s
      else okay (.assigned n .opened s.pulse[i].strays ((t.lineFor s.pulse[i].cls).total + s.pulse[i].strays))
        ((s.setPulse i { s.pulse[i] with strays := 0 }).putTicket
          (t.placeItems s.classes[s.pulse[i].cls] s.pulse[i].cls .own .good s.pulse[i].strays
            (s.pulse[i].bottlesFor s.classes[s.pulse[i].cls] s.pulse[i].strays))) := by
  rw [assignStrays, pulseOf_lane]
  exact onTicket_inState ht _ hst

end

/-- Settles O34: the lane number, the ticket, and then the checks in their order. -/
theorem assignStraysMovesTheCount : Obligations.AssignStraysMovesTheCount := by
  intro i n s hp r p c refusedWith
  refine ⟨fun h => request_answers hp rfl r (assignStrays_unknown h i), fun t ht => ?_,
    fun lane h => request_answers hp rfl _ (assignStrays_badValue h n s)⟩
  intro old line
  refine ⟨fun hst => request_answers hp rfl r (assignStrays_wrongState ht hst i), fun hst => ?_⟩
  have hall := assignStrays_opened ht hst i
  have hstray : 0 < p.strays → assignStrays (6 + i.val) n s = _ := fun h => hall.trans (if_neg (Nat.pos_iff_ne_zero.1 h))
  have hline : 0 < p.strays → line → assignStrays (6 + i.val) n s = _ := fun h hl =>
    (hstray h).trans (if_neg (Ticket.not_linesFull_iff.2 hl))
  refine ⟨fun h => ?_, fun h hl => ?_, fun h hl hfull => ?_, fun h hl hroom hslots => ?_⟩
  · exact request_answers hp rfl r (hall.trans (if_pos h))
  · exact request_answers hp rfl r ((hstray h).trans (if_pos (not_not.1 (mt Ticket.not_linesFull_iff.1 hl))))
  · exact request_answers hp rfl r ((hline h hl).trans (if_pos (Ticket.cellFull_iff.2 hfull)))
  · have hok := (hline h hl).trans (if_neg (mt Ticket.cellFull_iff.1 (Nat.not_lt.2 hroom)))
    rw [Ticket.placeItems_pulse hslots] at hok
    exact request_answers hp rfl r hok

/-! ### Set Lane of a pulse lane (R104, R105) -/

section
variable {i : PulseIx} {s : State}

/-- Step 1 of R104, for codes that name their values. -/
theorem pulseFields_named (en : Bool) (c : ClassId) (e : Edge) (sp st : Nat) (m : BottleMode) :
    pulseFields (if en then 1 else 0) c.val e.code sp st m.code =
      if 20 ≤ sp ∧ sp ≤ 2000 ∧ 1 ≤ st ∧ st ≤ 60 then
        some { enabled := en, cls := c, edge := e, spacing := sp, stallTime := st, mode := m }
      else none := by
  have hflag : flagOf (if en then 1 else 0) = some en := flagOf_flagCode en
  rw [pulseFields, hflag, classOf_val, Edge.ofCode_code, BottleMode.ofCode_code]
  simp only [Bool.and_eq_true, inRange_iff, and_assoc]

/-- Step 1 of R104, for values out of range. -/
theorem pulseFields_bad {en c e sp st m : Nat}
    (h : 1 < en ∨ 15 < c ∨ 1 < e ∨ sp < 20 ∨ 2000 < sp ∨ st < 1 ∨ 60 < st ∨ 1 < m) :
    pulseFields en c e sp st m = none := by
  unfold pulseFields
  split
  next b cls edge mode hb hc he hm =>
    have hen : ¬1 < en := fun hlt => by rw [flagOf_eq_none.2 hlt] at hb; cases hb
    have hcls : ¬15 < c := fun hlt => by rw [classOf_eq_none.2 hlt] at hc; cases hc
    have hedge : ¬1 < e := fun hlt => by rw [Edge.ofCode_eq_none.2 hlt] at he; cases he
    have hmode : ¬1 < m := fun hlt => by rw [BottleMode.ofCode_eq_none.2 hlt] at hm; cases hm
    rw [if_neg]
    rw [Bool.and_eq_true, inRange_iff, inRange_iff]
    omega
  next => rfl

theorem PulseLane.unbinds_iff {f : PulseFields} {p : PulseLane} :
    p.unbinds f = true ↔ p.enabled = true ∧ (f.enabled = false ∨ f.cls ≠ p.cls) := by
  simp [PulseLane.unbinds]

theorem setLanePulse_none {en c e sp st m : Nat} (h : pulseFields en c e sp st m = none) (i : PulseIx) (s : State) :
    setLanePulse i en c e sp st m s = refuse .badValue s := by rw [setLanePulse, h]

/-- Steps 2 to 4 of R104, and what a Set Lane that passes them stores. -/
theorem setLanePulse_fields {en c e sp st m : Nat} {f : PulseFields} (h : pulseFields en c e sp st m = some f) (i : PulseIx)
    (s : State) : setLanePulse i en c e sp st m s =
      if f.enabled = true ∧ s.classes[f.cls].state = .unused then refuse .unknownClass s
      else if s.pulse[i].unbinds f = true ∧ (¬s.laneFree (6 + i.val) ∨ 0 < s.pulse[i].strays) then refuse .busy s
      else okay (.pulse (s.pulse[i].configured f s.now))
        (if s.pulse[i].newlyStalled f s.now then (s.setPulse i (s.pulse[i].configured f s.now)).tellOffice .stalled
          else s.setPulse i (s.pulse[i].configured f s.now)) := by
  rw [setLanePulse, h]
  simp only [Bool.and_eq_true, beq_iff_eq, State.feeding_isSome, pulseNumber_eq, bne_iff_ne, Nat.pos_iff_ne_zero,
    and_or_left, ite_or]

/-- A blocked period that the new stall time finds too long (R105). -/
theorem PulseLane.newlyStalled_iff {f : PulseFields} {now : Nat} {p : PulseLane} : p.newlyStalled f now = true ↔
    (p.enabled = true ∧ f.enabled = true) ∧
      f.stallTime ≠ p.stallTime ∧ p.stalled = false ∧ ∃ t, p.blockedSince = some t ∧ 1000 * f.stallTime < now - t := by
  have hover : (p.write f).overdue now = true ↔ ∃ t, p.blockedSince = some t ∧ 1000 * f.stallTime < now - t := by
    show (match p.blockedSince with | some t => decide (1000 * f.stallTime < now - t) | none => false) = true ↔ _
    cases p.blockedSince <;> simp
  simp only [PulseLane.newlyStalled, Bool.and_eq_true, bne_iff_ne, Bool.not_eq_true', hover, and_assoc]

theorem PulseLane.newlyStalled_off {f : PulseFields} {now : Nat} {p : PulseLane} (h : p.enabled = false ∨ f.enabled = false) :
    p.newlyStalled f now = false := by
  rcases h with h | h <;> simp [PulseLane.newlyStalled, h]

end

/-- Settles O35: the four checks, and then the record by whether the lane was and is enabled. -/
theorem setLaneConfiguresAPulseLane : Obligations.SetLaneConfiguresAPulseLane := by
  refine ⟨fun i en c e sp st m s hp => ?_, fun i en c e sp st m s hp => ?_⟩
  · intro r hbad
    exact request_answers hp rfl r (setLanePulse_none (pulseFields_bad hbad) i s)
  intro r p q unbinds refusedWith takes ranges
  refine ⟨fun hbad => ?_, fun hr hen hu => ?_, fun hr hcls => ?_⟩
  · exact request_answers hp rfl r (setLanePulse_none ((pulseFields_named en c e sp st m).trans (if_neg hbad)) i s)
  · exact request_answers hp rfl r
      ((setLanePulse_fields ((pulseFields_named en c e sp st m).trans (if_pos hr)) i s).trans (if_pos ⟨hen, hu⟩))
  let f : PulseFields := { enabled := en, cls := c, edge := e, spacing := sp, stallTime := st, mode := m }
  have hchecked : setLanePulse i (if en then 1 else 0) c.val e.code sp st m.code s = _ :=
    (setLanePulse_fields ((pulseFields_named en c e sp st m).trans (if_pos hr)) i s).trans
      (if_neg fun ⟨hen, hu⟩ => hcls hen hu)
  refine ⟨fun hub hbusy => ?_, fun hfree => ?_⟩
  · exact request_answers hp rfl r (hchecked.trans (if_pos ⟨PulseLane.unbinds_iff.2 hub, hbusy⟩))
  have hstored := hchecked.trans (if_neg fun ⟨hub, hbusy⟩ => hfree.elim (· (PulseLane.unbinds_iff.1 hub))
    fun ⟨hlane, hstrays⟩ => hbusy.elim (· hlane) (Nat.pos_iff_ne_zero.1 · hstrays))
  have hquiet : ∀ {q : PulseLane}, p.newlyStalled f s.now = false → p.configured f s.now = q → takes q := by
    rintro _ hn rfl
    refine request_answers hp rfl r (hstored.trans ?_)
    exact congrArg _ (if_neg (Bool.not_eq_true _ ▸ hn))
  refine ⟨fun hpe hen => ?_, fun hpe hen => ?_, fun hpe hen => ?_, fun hpe hen => ?_⟩
  · refine hquiet (PulseLane.newlyStalled_off (.inl hpe)) ?_
    simp only [PulseLane.configured, hpe, show f.enabled = false from hen]
    rfl
  · refine hquiet (PulseLane.newlyStalled_off (.inl hpe)) ?_
    simp only [PulseLane.configured, hpe, show f.enabled = true from hen]
    rfl
  · refine hquiet (PulseLane.newlyStalled_off (.inr hen)) ?_
    simp only [PulseLane.configured, hpe, show f.enabled = false from hen]
    rfl
  · have hconf : p.configured f s.now = { q with stalled := p.stalled || p.newlyStalled f s.now } := by
      simp only [PulseLane.configured, hpe, show f.enabled = true from hen]
      rfl
    intro newly
    have hnewly : p.newlyStalled f s.now = true ↔ newly :=
      PulseLane.newlyStalled_iff.trans (and_iff_right ⟨hpe, hen⟩)
    refine ⟨fun hn => ?_, fun hn => ?_⟩
    · have hoff : p.newlyStalled f s.now = false := by simpa using mt hnewly.1 hn
      refine hquiet hoff (hconf.trans ?_)
      rw [hoff, Bool.or_false]
    · have hon := hnewly.2 hn
      rw [hon, Bool.or_true] at hconf
      refine request_answers hp rfl r (hstored.trans ?_)
      rw [if_pos hon, hconf]
      rfl

end Sys2Proof.Machine
end

section
/-! SUPPORT. Filtered transitions of a pulse lane (Sections 5.2 to 5.4): the times a noise filter changes at, each way an edge may
go, and the stall that comes before it. -/

namespace Sys2Proof.Machine

/-! ### The noise filter (R96, R143, R165) -/

section
variable {hold : Nat} {f : NoiseFilter}

theorem NoiseFilter.due_eq_some {t : Nat} : f.due hold = some t ↔ f.raw ≠ f.level ∧ f.since + hold = t := by
  unfold NoiseFilter.due
  split <;> simp_all

/-- No change comes before the raw input has held for the filter time since it last moved, and two changes lie the filter time
apart. -/
theorem NoiseFilter.changes_apart (hold : Nat) : ∀ (moves : List Nat) (f : NoiseFilter), (f.since :: moves).Pairwise (· ≤ ·) →
    (∀ c ∈ (f.changes hold moves).map (·.1), f.since + hold ≤ c) ∧
      ((f.changes hold moves).map (·.1)).Pairwise fun a b => a + hold ≤ b
  | [], f, _ => by
    rw [NoiseFilter.changes]
    split
    next t hd => simp [(NoiseFilter.due_eq_some.1 hd).2]
    next => simp
  | m :: ms, f, hs => by
    obtain ⟨hsince, hms⟩ := List.pairwise_cons.1 hs
    have hm : f.since ≤ m := hsince m (by simp)
    have rest : ∀ g : NoiseFilter, g.since = m → _ := fun g hg => NoiseFilter.changes_apart hold ms g (by rw [hg]; exact hms)
    have quiet : ∀ g : NoiseFilter, g.since = m → (∀ c ∈ (g.changes hold ms).map (·.1), f.since + hold ≤ c) ∧
        ((g.changes hold ms).map (·.1)).Pairwise fun a b => a + hold ≤ b := fun g hg => by
      refine ⟨fun c hc => ?_, (rest g hg).2⟩
      have := (rest g hg).1 c hc
      omega
    rw [NoiseFilter.changes]
    split
    next t hd =>
      obtain ⟨-, rfl⟩ := NoiseFilter.due_eq_some.1 hd
      split
      next htm =>
        obtain ⟨hge, hpair⟩ := rest (NoiseFilter.flip m { f with level := f.raw }) rfl
        rw [List.map_cons]
        refine ⟨fun c hc => ?_, List.pairwise_cons.2 ⟨fun c hc => ?_, hpair⟩⟩
        · rcases List.mem_cons.1 hc with rfl | hc
          · exact Nat.le_refl _
          · have : m + hold ≤ c := hge c hc
            omega
        · have : m + hold ≤ c := hge c hc
          show f.since + hold + hold ≤ c
          omega
      next => exact quiet _ rfl
    next => exact quiet _ rfl

/-- A raw input that moves once and stays is let through at the end of the filter time. -/
theorem NoiseFilter.changes_held (h : f.raw = f.level) (m : Nat) : f.changes hold [m] = [(m + hold, !f.level)] := by
  simp [NoiseFilter.changes, NoiseFilter.due, NoiseFilter.flip, h]

/-- An excursion shorter than the filter time is not seen. -/
theorem NoiseFilter.changes_excursion (h : f.raw = f.level) {m n : Nat} (hn : n < m + hold) : f.changes hold [m, n] = [] := by
  simp [NoiseFilter.changes, NoiseFilter.due, NoiseFilter.flip, h, Nat.not_le.2 hn]

end

/-! ### Edges of a lane, by the record they find (R97 to R100) -/

section
variable {i : PulseIx} {p q : PulseLane} {blocked : Bool} {s : State}

@[simp] theorem State.setPulse_setPulse (i : PulseIx) (p q : PulseLane) (s : State) :
    (s.setPulse i p).setPulse i q = s.setPulse i q := by
  simp [State.setPulse, Vector.set_set]

@[simp] theorem State.setPulse_same (i : PulseIx) (p : PulseLane) (s : State) : (s.setPulse i p).pulse[i] = p := by
  rw [State.setPulse_at, if_pos rfl]

theorem PulseLane.counting_iff : p.counting blocked = true ↔
    (p.edge = .leading ∧ blocked = true) ∨ (p.edge = .trailing ∧ blocked = false) := by
  unfold PulseLane.counting
  cases p.edge <;> simp

theorem PulseLane.spaced_iff {now : Nat} : p.spaced now = true ↔ ∀ last, p.lastCounted = some last → p.spacing ≤ now - last := by
  unfold PulseLane.spaced
  cases p.lastCounted <;> simp

theorem State.peye_disabled (h : s.pulse[i].enabled = false) (blocked : Bool) :
    s.peye i blocked = s.setPulse i (s.pulse[i].moves blocked s.now) := if_pos (by rw [h]; rfl)

theorem State.peye_enabled (h : s.pulse[i].enabled = true) (blocked : Bool) : s.peye i blocked =
    if s.pulse[i].counting blocked then
      (s.setPulse i ((s.pulse[i].moves blocked s.now).monitor blocked s.now)).countingEdge i
    else s.setPulse i ((s.pulse[i].moves blocked s.now).monitor blocked s.now) := if_neg (by rw [h]; simp)

theorem State.countingEdge_setPulse (i : PulseIx) (p : PulseLane) (s : State) : (s.setPulse i p).countingEdge i =
    if p.spaced s.now then (s.setPulse i { p with lastCounted := some s.now }).pulseArrival i
    else s.setPulse i { p with bounces := min 65535 (p.bounces + 1) } := by
  simp only [State.countingEdge, State.setPulse_same, State.setPulse_now, State.setPulse_setPulse]
  rfl

theorem State.stray_setPulse (i : PulseIx) (p : PulseLane) (s : State) : (s.setPulse i p).stray i =
    (s.setPulse i { p with strays := min 9999 (p.strays + 1) }).tellOffice .strays := by
  simp only [State.stray, State.setPulse_same, State.setPulse_setPulse]
  rfl

/-- The monitor leaves what the counted edge and the bounce read. -/
theorem State.countingEdge_monitor (i : PulseIx) (p : PulseLane) (blocked : Bool) (now : Nat) (s : State) :
    (s.setPulse i (p.monitor blocked now)).countingEdge i =
      if p.spaced s.now then (s.setPulse i { p.monitor blocked now with lastCounted := some s.now }).pulseArrival i
      else s.setPulse i { p.monitor blocked now with bounces := min 65535 (p.bounces + 1) } := by
  cases blocked <;> exact State.countingEdge_setPulse i _ s

theorem State.stray_monitor (i : PulseIx) (p : PulseLane) (blocked : Bool) (now : Nat) (last : Option Nat) (s : State) :
    (s.setPulse i { p.monitor blocked now with lastCounted := last }).stray i =
      (s.setPulse i { p.monitor blocked now with lastCounted := last, strays := min 9999 (p.strays + 1) }).tellOffice .strays := by
  cases blocked <;> exact State.stray_setPulse i _ s

theorem State.pulseArrival_free (h : s.laneFree (6 + i.val)) : s.pulseArrival i = s.stray i := by
  rw [State.pulseArrival, pulseNumber_eq, State.feeding_eq_none.2 h]

section
variable {t : Ticket} {c : ClassId} {r : ClassRecord} (ht : s.feeding (6 + i.val) = some t) (hp : s.pulse[i] = p) (hc : p.cls = c)
  (hr : s.classes[c] = r)
include ht hp hc hr

theorem State.pulseArrival_fed : s.pulseArrival i =
    if t.linesFull c || t.cellFull c .own .good 1 then s.stray i
    else s.putTicket ((t.placeItems r c .own .good 1 (p.bottlesFor r 1)).countArrival (6 + i.val)) := by
  subst hr hc hp
  rw [State.pulseArrival, pulseNumber_eq, ht]

/-- A counted edge finds its place: a line there or room for one, and room in the cell. -/
theorem State.pulseArrival_placed (hline : (∃ x ∈ t.lines, x.cls = c) ∨ t.lines.length < 8)
    (hcell : (t.lineFor c).good + 1 ≤ 9999) (hslots : r.kind ≠ .crate → r.slots = 0) : s.pulseArrival i = s.putTicket
      (Ticket.countArrival (6 + i.val) { t with lines := putLine (p.fills r 1 (t.lineFor c)) t.lines }) := by
  rw [State.pulseArrival_fed ht hp hc hr, if_neg, Ticket.placeItems_pulse hslots]
  rw [Bool.or_eq_true, not_or, Ticket.not_linesFull_iff, Ticket.cellFull_iff]
  exact ⟨hline, Nat.not_lt.2 hcell⟩

theorem State.pulseArrival_unplaced (h : ¬(((∃ x ∈ t.lines, x.cls = c) ∨ t.lines.length < 8) ∧
    (t.lineFor c).good + 1 ≤ 9999)) : s.pulseArrival i = s.stray i := by
  rw [State.pulseArrival_fed ht hp hc hr, if_pos]
  rw [Bool.or_eq_true, Ticket.cellFull_iff]
  by_cases hl : t.linesFull c = true
  · exact .inl hl
  · exact .inr (Nat.not_le.1 fun hfits => h ⟨Ticket.not_linesFull_iff.1 hl, hfits⟩)

end

/-- The bottles of one crate, by the mode that the monitor leaves. -/
theorem PulseLane.fills_monitor (r : ClassRecord) (l : Line) (p : PulseLane) (blocked : Bool) (now : Nat) (last : Option Nat) :
    PulseLane.fills r 1 l { p.monitor blocked now with lastCounted := last } =
      { l with good := l.good + 1, bottles := l.bottles + (if p.mode = .full then r.slots else 0) } := by
  cases blocked <;> simp [PulseLane.fills, PulseLane.monitor]

/-- A transition that finds the record `q` and lets it move to `p`. -/
theorem State.peye_setPulse (hp : p = q.moves blocked s.now) : (s.setPulse i q).peye i blocked =
    if p.enabled = false then s.setPulse i p
    else if ¬p.counting blocked = true then s.setPulse i (p.monitor blocked s.now)
    else if ¬p.spaced s.now = true then
      s.setPulse i { p.monitor blocked s.now with bounces := min 65535 (p.bounces + 1) }
    else (s.setPulse i { p.monitor blocked s.now with lastCounted := some s.now }).pulseArrival i := by
  have hen : p.enabled = q.enabled := by rw [hp]; rfl
  have hcounting : p.counting blocked = q.counting blocked := by rw [hp]; rfl
  rw [hen, hcounting]
  by_cases he : q.enabled = false
  · rw [if_pos he, State.peye_disabled (by rw [State.setPulse_same]; exact he), State.setPulse_same, State.setPulse_setPulse, hp]
    rfl
  rw [if_neg he, State.peye_enabled (by rw [State.setPulse_same]; simpa using he), State.setPulse_same, State.setPulse_setPulse,
    State.setPulse_now, ← hp, State.countingEdge_monitor]
  simp only [ite_not]

/-! ### The stall monitor (R100) -/

theorem PulseLane.stallDue_eq (p : PulseLane) : p.stallDue = p.blockedSince.bind fun since =>
    if p.enabled = true ∧ p.stalled = false then some (since + 1000 * p.stallTime + 1) else none := by
  unfold PulseLane.stallDue
  cases p.blockedSince with
  | none => rfl
  | some since =>
    simp only [Option.bind_some, Bool.and_eq_true, Bool.not_eq_true']
    rfl

/-- The stall that comes within the time up to a transition has taken effect before it. -/
theorem State.laneElapse_eq (i : PulseIx) (after : Nat) (s : State) {late : Bool}
    (hlate : late = (s.pulse[i].enabled && !s.pulse[i].stalled && (match s.pulse[i].blockedSince with
      | some since => decide (since + 1000 * s.pulse[i].stallTime + 1 ≤ s.now + after)
      | none => false))) : ∃ c, s.laneElapse i after = { s.elapse after with
        pulse := s.pulse.set i.val (if late then { s.pulse[i] with stalled := true } else s.pulse[i]) i.isLt
        office := if late then s.office.place .stalled else s.office
        check := c } := by
  have hself : s.pulse.set i.val s.pulse[i] i.isLt = s.pulse := Vector.set_getElem_self i.isLt
  have hdue : late = true ↔ ∃ due, s.pulse[i].stallDue = some due ∧ due ≤ s.now + after := by
    rw [hlate, PulseLane.stallDue_eq]
    cases s.pulse[i].blockedSince with
    | none => simp
    | some since => simp [ite_eq_iff, and_assoc]
  unfold State.laneElapse
  dsimp only
  cases late with
  | true =>
    obtain ⟨due, hd, hle⟩ := hdue.1 rfl
    rw [hd]
    dsimp only
    rw [if_pos (show due ≤ (s.elapse after).now from hle)]
    exact ⟨_, rfl⟩
  | false =>
    refine ⟨s.check, ?_⟩
    have hnot : ∀ due, s.pulse[i].stallDue = some due → ¬due ≤ (s.elapse after).now := fun due hd hle =>
      Bool.false_ne_true (hdue.2 ⟨due, hd, hle⟩)
    rw [if_neg Bool.false_ne_true, if_neg Bool.false_ne_true, hself]
    split
    next due hd => rw [if_neg (hnot due hd)]; rfl
    next => rfl

theorem exec_stall_due {since : Nat} (hon : s.on = true) (he : s.pulse[i].enabled = true)
    (hb : s.pulse[i].blockedSince = some since) (hs : s.pulse[i].stalled = false) : exec (.stall i) s =
      .next ((s.reach (since + 1000 * s.pulse[i].stallTime + 1)).stallLane i).sealed := by
  show execStall i s = _
  have hdue : s.pulse[i].stallDue = some (since + 1000 * s.pulse[i].stallTime + 1) := by
    rw [PulseLane.stallDue_eq, hb]
    exact if_pos ⟨he, hs⟩
  rw [execStall, hdue]
  exact retainedEvent_of hon _ s

theorem exec_stall_told {since : Nat} (hb : s.pulse[i].blockedSince = some since) (hs : s.pulse[i].stalled = true) :
    exec (.stall i) s = .next s := by
  show execStall i s = _
  have hdue : s.pulse[i].stallDue = none := by
    rw [PulseLane.stallDue_eq, hb]
    exact if_neg fun ⟨_, h⟩ => Bool.false_ne_true (h.symm.trans hs)
  rw [execStall, hdue]
  rfl

end

/-! ### The statement -/

/-- Settles O33: the stall that comes first, then the edge by the lane's record and by the ticket it feeds. -/
theorem pulseTransitionsAndStalls : Obligations.PulseTransitionsAndStalls := by
  refine ⟨fun i blocked after s hset => ⟨fun hnot => ?_, fun hlevel hnext => ?_⟩,
    fun i since s hon he hb => ⟨exec_stall_due hon he hb, exec_stall_told hb⟩,
    fun hold m n f moves => ⟨fun hs => (NoiseFilter.changes_apart hold moves f hs).2, fun h =>
      ⟨NoiseFilter.changes_held h m, NoiseFilter.changes_excursion h⟩⟩⟩
  · show execPeyeTransition i blocked after s = _
    refine retainedEvent_not ?_ _ s
    rw [Bool.and_eq_false_iff]
    refine .inr (Bool.eq_false_iff.2 (mt FilteredInput.canMove_iff.1 ?_))
    rintro ⟨hne, hle⟩
    exact hnot.elim hne fun h => Nat.not_le.2 h hle
  · intro now late moved p office seen counts spaced with_ leaves counted stray
    obtain ⟨c, hv⟩ := State.laneElapse_eq i after s (late := late) rfl
    obtain ⟨q, hq⟩ : ∃ q, q = if late then { s.pulse[i] with stalled := true } else s.pulse[i] := ⟨_, rfl⟩
    have hp : p = q.moves blocked now := by
      rw [hq]
      show (if late then _ else _) = _
      cases late <;> rfl
    rw [← hq] at hv
    obtain ⟨w, hw⟩ : ∃ w : State, w = { s.elapse after with office := office, check := c } := ⟨_, rfl⟩
    have hlane : s.laneElapse i after = w.setPulse i q := by rw [hv, hw]; rfl
    have hwith : ∀ x, (with_ x).sealed = (w.setPulse i x).sealed := fun x => by rw [hw]; rfl
    have hexec : exec (.peyeTransition i blocked after) s = .next ((w.setPulse i q).peye i blocked).sealed := by
      rw [← hlane]
      show execPeyeTransition i blocked after s = _
      exact retainedEvent_of (by rw [hset, FilteredInput.canMove_iff.2 ⟨hlevel, hnext⟩]; rfl) _ s
    have hnow : w.now = now := by rw [hw]; rfl
    have hpeye := State.peye_setPulse (s := w) (i := i) (p := p) (q := q) (by rw [hnow]; exact hp)
    rw [hnow] at hpeye
    have hcounts : p.counting blocked = true ↔ counts := PulseLane.counting_iff
    have hspaced : p.spaced now = true ↔ spaced := PulseLane.spaced_iff
    refine ⟨fun he => ?_, fun he => ?_⟩
    · rw [if_pos he] at hpeye
      exact hexec.trans (by rw [hpeye, hwith])
    rw [if_neg (by simp [he])] at hpeye
    have answer : ∀ x, (w.setPulse i q).peye i blocked = w.setPulse i x → leaves (with_ x) := fun x hx =>
      hexec.trans (by rw [hx, hwith])
    have hpulse : (w.setPulse i counted).pulse[i] = counted := State.setPulse_same i counted w
    have hcls : counted.cls = p.cls := by
      show (p.monitor blocked now).cls = p.cls
      cases blocked <;> rfl
    have hclasses : (w.setPulse i counted).classes[p.cls] = s.classes[p.cls] := by rw [hw]; rfl
    have hfeeding : ∀ n, (w.setPulse i counted).feeding n = s.feeding n := fun n => by rw [hw]; rfl
    have hstray : (w.setPulse i q).peye i blocked = (w.setPulse i counted).stray i → stray := fun hx => by
      refine hexec.trans ?_
      rw [hx, show (w.setPulse i counted).stray i = _ from State.stray_monitor i p blocked now (some now) w, hw]
      rfl
    refine ⟨fun hc => ?_, fun hc hsp => ?_, fun hc hsp hfree => ?_, fun hc hsp t ht => ?_⟩
    · exact answer seen (hpeye.trans (if_pos (mt hcounts.1 hc)))
    · exact answer _ ((hpeye.trans (if_neg (not_not.2 (hcounts.2 hc)))).trans (if_pos (mt hspaced.1 hsp)))
    all_goals
      have harrival : (w.setPulse i q).peye i blocked = (w.setPulse i counted).pulseArrival i :=
        (hpeye.trans (if_neg (not_not.2 (hcounts.2 hc)))).trans (if_neg (not_not.2 (hspaced.2 hsp)))
    · refine hstray (harrival.trans (State.pulseArrival_free ?_))
      rw [← State.feeding_eq_none, hfeeding, State.feeding_eq_none]
      exact hfree
    · rw [← hfeeding] at ht
      intro c old fits
      refine ⟨fun hfits => ?_, fun ⟨hline, hcell⟩ hslots => ?_⟩
      · exact hstray (harrival.trans (State.pulseArrival_unplaced ht hpulse hcls hclasses hfits))
      · refine hexec.trans ?_
        rw [harrival, State.pulseArrival_placed ht hpulse hcls hclasses hline hcell hslots,
          show counted.fills _ 1 _ = _ from PulseLane.fills_monitor s.classes[p.cls] (t.lineFor p.cls) p blocked now (some now), hw]
        rfl

end Sys2Proof.Machine
end

section
/-! SUPPORT. The lane bus (Section 9): the arbiter's choice among the six lanes, and the statements about request lines, Set Lane and
the events of a grant. -/

namespace Sys2Proof.Machine

/-! ### The arbiter's choice (R167) -/

theorem StationRecord.requesting_iff {r : StationRecord} :
    r.requesting = true ↔ r.state = .active ∧ r.low.level = true := by
  simp [StationRecord.requesting]

theorem mem_stationLanes (l : StationLane) : l ∈ stationLanes := by revert l; decide

/-- Every lane is looked at, whichever carries the mark. -/
theorem mem_laneOrder (l : StationLane) (mark : Option StationLane) : l ∈ laneOrder mark := by
  revert l mark; decide

/-- How many lanes come between a marked lane and another, going up from the marked one and round from 5 to 0. -/
def turnAfter (m l : StationLane) : Nat := (l.val + 5 - m.val) % 6

/-- The lanes are looked at in their turn after the marked one. -/
theorem laneOrder_some (m : StationLane) : (laneOrder (some m)).Pairwise fun a b => turnAfter m a ≤ turnAfter m b := by
  revert m; decide

theorem laneOrder_none : (laneOrder none).Pairwise fun a b => a ≤ b := by decide

/-- A greatest value over the lanes that a condition picks out: no picked lane has more, and it is the start or a picked lane's. -/
theorem foldl_max_spec {α : Type} (p : α → Bool) (f : α → Nat) : ∀ (ls : List α) (m : Nat),
    let top := ls.foldl (fun m l => if p l then max m (f l) else m) m
    (m ≤ top ∧ ∀ l ∈ ls, p l = true → f l ≤ top) ∧ (top = m ∨ ∃ l ∈ ls, p l = true ∧ f l = top)
  | [], m => ⟨⟨Nat.le_refl m, by simp⟩, .inl rfl⟩
  | x :: xs, m => by
    obtain ⟨⟨hstart, hall⟩, htop⟩ := foldl_max_spec p f xs (if p x then max m (f x) else m)
    rw [List.foldl_cons]
    by_cases hx : p x = true
    · rw [if_pos hx] at hstart hall htop ⊢
      refine ⟨⟨by omega, fun l hl hp => ?_⟩, ?_⟩
      · rcases List.mem_cons.1 hl with rfl | hl
        · omega
        · exact hall l hl hp
      · rcases htop with htop | ⟨l, hl, hp, hf⟩
        · rcases Nat.le_total (f x) m with hle | hle
          · exact .inl (htop.trans (Nat.max_eq_left hle))
          · exact .inr ⟨x, List.mem_cons_self, hx, (htop.trans (Nat.max_eq_right hle)).symm⟩
        · exact .inr ⟨l, List.mem_cons_of_mem x hl, hp, hf⟩
    · rw [if_neg hx] at hstart hall htop ⊢
      refine ⟨⟨hstart, fun l hl hp => ?_⟩, htop.imp_right fun ⟨l, hl, hp, hf⟩ => ⟨l, List.mem_cons_of_mem x hl, hp, hf⟩⟩
      rcases List.mem_cons.1 hl with rfl | hl
      · exact absurd hp hx
      · exact hall l hl hp

/-- The first of a list that passes a test comes no later than any other that passes it. -/
theorem find?_first {α : Type} {p : α → Bool} {r : α → α → Prop} (hr : ∀ a, r a a) : ∀ {ls : List α} {w l : α},
    ls.Pairwise r → ls.find? p = some w → l ∈ ls → p l = true → r w l
  | x :: xs, w, l, hs, hw, hl, hp => by
    rw [List.pairwise_cons] at hs
    rw [List.find?_cons] at hw
    rcases List.mem_cons.1 hl with rfl | hl
    · rw [hp] at hw
      cases hw
      exact hr _
    · cases hx : p x with
      | true =>
        rw [hx] at hw
        cases hw
        exact hs.1 l hl
      | false =>
        rw [hx] at hw
        exact find?_first hr hs.2 hw hl hp

section
variable {b : LaneBus} {l w m : StationLane}

theorem LaneBus.priority_le_top (h : b.lanes[l].requesting = true) : b.lanes[l].priority ≤ b.topLevel :=
  (foldl_max_spec (fun l : StationLane => b.lanes[l].requesting) (fun l => b.lanes[l].priority) stationLanes 0).1.2 l
    (mem_stationLanes l) h

/-- The highest level requested is the level of some requesting lane. -/
theorem LaneBus.top_requested (h : b.lanes[l].requesting = true) :
    ∃ m : StationLane, b.lanes[m].requesting = true ∧ b.lanes[m].priority = b.topLevel := by
  rcases (foldl_max_spec (fun l : StationLane => b.lanes[l].requesting) (fun l => b.lanes[l].priority) stationLanes 0).2 with
    htop | ⟨m, -, hm, hf⟩
  · refine ⟨l, h, ?_⟩
    have hle := LaneBus.priority_le_top h
    have : b.topLevel = 0 := htop
    omega
  · exact ⟨m, hm, hf⟩

theorem LaneBus.winner_none (h : ∀ l : StationLane, ¬b.lanes[l].requesting = true) : b.winner = none := by
  rw [LaneBus.winner, List.find?_eq_none]
  rintro l - hl
  exact h l (Bool.and_eq_true_iff.1 hl).1

theorem LaneBus.winner_some (h : b.lanes[l].requesting = true) : ∃ w, b.winner = some w := by
  obtain ⟨m, hm, htop⟩ := LaneBus.top_requested h
  refine Option.isSome_iff_exists.1 (List.find?_isSome.2 ⟨m, mem_laneOrder m _, ?_⟩)
  rw [hm, htop, beq_self_eq_true]
  rfl

/-- A requesting lane of the winner's level was not looked at before the winner. -/
theorem LaneBus.winner_first {r : StationLane → StationLane → Prop} (hr : ∀ a, r a a)
    (ho : (laneOrder (b.marked b.topLevel)).Pairwise r) (hw : b.winner = some w) (hl : b.lanes[l].requesting = true)
    (hp : b.lanes[l].priority = b.topLevel) : r w l :=
  find?_first hr ho hw (mem_laneOrder l _) (by rw [hl, hp, beq_self_eq_true]; rfl)

/-- With one mark a level at most, the marked lane is the one that carries it. -/
theorem LaneBus.marked_eq {level : Nat} (hone : ∀ l m : StationLane, b.lanes[l].lastGranted = true →
    b.lanes[m].lastGranted = true → b.lanes[l].priority = b.lanes[m].priority → l = m)
    (hm : b.lanes[m].lastGranted = true) (hp : b.lanes[m].priority = level) : b.marked level = some m := by
  obtain ⟨k, hk⟩ : ∃ k, b.marked level = some k := Option.isSome_iff_exists.1
    (List.find?_isSome.2 ⟨m, mem_stationLanes m, by rw [hp, hm, beq_self_eq_true]; rfl⟩)
  have hfound := List.find?_some (p := fun l : StationLane => b.lanes[l].priority == level && b.lanes[l].lastGranted) hk
  obtain ⟨hlevel, hmark⟩ := Bool.and_eq_true_iff.1 hfound
  rw [hk, hone k m hmark hm ((beq_iff_eq.1 hlevel).trans hp.symm)]

theorem LaneBus.marked_eq_none {level : Nat} (h : ∀ m : StationLane, b.lanes[m].priority = level → b.lanes[m].lastGranted = false) :
    b.marked level = none := by
  rw [LaneBus.marked, List.find?_eq_none]
  rintro m - hm
  obtain ⟨hlevel, hmark⟩ := Bool.and_eq_true_iff.1 hm
  exact Bool.false_ne_true ((h m (beq_iff_eq.1 hlevel)).symm.trans hmark)

end

theorem State.arbitrate_still {s : State} (h : s.bus.grant ≠ none ∨ s.bus.winner = none) : s.arbitrate = s := by
  unfold State.arbitrate
  split
  next hg hw => exact absurd h (by simp [hg, hw])
  next => rfl

theorem State.arbitrate_grants {w : StationLane} {s : State} (hg : s.bus.grant = none) (hw : s.bus.winner = some w) :
    s.arbitrate = { s with bus := { s.bus.mark w with
      grant := some { lane := w, phase := .window s.now s.bus.window }, lbusDe := true } } := by
  simp only [State.arbitrate, hg, hw]

/-- Settles O51: the winner stands on the highest level requested, and first in the order its level is looked at. -/
theorem arbiterChoosesByPriorityThenInTurn : Obligations.ArbiterChoosesByPriorityThenInTurn := by
  refine ⟨fun s hs => ?_, fun s => ⟨State.arbitrate_still, fun w hg hw => State.arbitrate_grants hg hw⟩⟩
  intro rec_ asks turn
  have hasks : ∀ l, asks l ↔ s.bus.lanes[l].requesting = true := fun l => StationRecord.requesting_iff.symm
  refine ⟨fun h => LaneBus.winner_none fun l hl => h l ((hasks l).2 hl), fun l hl => ?_, fun w l hw hl hlevel => ?_⟩
  · have hreq := (hasks l).1 hl
    obtain ⟨w, hw⟩ := LaneBus.winner_some hreq
    obtain ⟨hwreq, htop⟩ := LaneBus.winner_requesting hw
    exact ⟨w, hw, (hasks w).2 hwreq, (LaneBus.priority_le_top hreq).trans (Nat.le_of_eq htop.symm)⟩
  · obtain ⟨-, htop⟩ := LaneBus.winner_requesting hw
    have hlane := hlevel.trans htop
    refine ⟨fun m hmark hm => ?_, fun hnone => ?_⟩
    · refine LaneBus.winner_first (r := fun a b => turn m a ≤ turn m b) (fun _ => Nat.le_refl _) ?_ hw ((hasks l).1 hl) hlane
      rw [LaneBus.marked_eq hs.oneMark hmark (hm.trans htop)]
      exact laneOrder_some m
    · refine LaneBus.winner_first (r := fun a b => a ≤ b) (fun _ => Nat.le_refl _) ?_ hw ((hasks l).1 hl) hlane
      rw [LaneBus.marked_eq_none fun m hm => hnone m (hm.trans htop.symm)]
      exact laneOrder_none

/-! ### Request lines and Set Lane (R165, R171, R173) -/

section
variable {l : StationLane} {low : Bool} {after : Nat} {s : State}

theorem StationRecord.lineMoved_kept {r : StationRecord} (h : ¬(low = true ∧ r.state = .silent)) (now : Nat) :
    r.lineMoved low now = { r with low := { level := low, next := now + 5 } } := if_neg h

theorem StationRecord.lineMoved_rearmed {r : StationRecord} (hl : low = true) (hs : r.state = .silent) (now : Nat) :
    r.lineMoved low now = { r with low := { level := low, next := now + 5 }, state := .active, misses := 0 } := if_pos ⟨hl, hs⟩

theorem exec_lreqChange_seen (hset : s.settled = true) (hne : s.bus.lanes[l].low.level ≠ low)
    (hle : s.bus.lanes[l].low.next ≤ s.now + after) : exec (.lreqChange l low after) s =
      .next (if low then ((s.elapse after).setStation l (s.bus.lanes[l].lineMoved low (s.now + after))).arbitrate
        else (s.elapse after).setStation l (s.bus.lanes[l].lineMoved low (s.now + after))).sealed := by
  show execLreqChange l low after s = _
  exact retainedEvent_of (by rw [hset, FilteredInput.canMove_iff.2 ⟨hne, hle⟩]; rfl) _ s

theorem exec_lreqChange_unseen (h : s.bus.lanes[l].low.level = low ∨ s.now + after < s.bus.lanes[l].low.next) :
    exec (.lreqChange l low after) s = .next s := by
  show execLreqChange l low after s = _
  refine retainedEvent_not (Bool.and_eq_false_iff.2 (.inr (Bool.eq_false_iff.2 (mt FilteredInput.canMove_iff.1 ?_)))) _ s
  rintro ⟨hne, hle⟩
  exact h.elim hne fun hlt => Nat.not_le.2 hlt hle

theorem LaneBus.regrant_eq (window : Nat) (b : LaneBus) : b.regrant window = b.grant.map fun g => match g.phase with
    | .window since length => { g with phase := .window since (if b.lbusDe then window else length) }
    | _ => g := by
  unfold LaneBus.regrant
  rcases b.grant with _ | ⟨l, _ | _ | _⟩ <;> rfl

theorem setLaneStation_badValue {p w : Nat} (h : 3 < p ∨ w < 10 ∨ 200 < w) (l : StationLane) (s : State) :
    setLaneStation l p w s = refuse .badValue s := by
  refine if_neg ?_
  rw [Bool.and_eq_true, inRange_iff, inRange_iff]
  omega

theorem setLaneStation_taken {p w : Nat} (hp : p ≤ 3) (h1 : 10 ≤ w) (h2 : w ≤ 200) (l : StationLane) (s : State) :
    setLaneStation l p w s =
      (let r := { s.bus.lanes[l] with
        priority := p
        lastGranted := if s.bus.lanes[l].priority = p then s.bus.lanes[l].lastGranted else false }
      okay (.station r w) { s with bus := { s.bus with
        lanes := s.bus.lanes.set l.val r l.isLt, window := w, grant := s.bus.regrant w } }) := by
  have hmark : (s.bus.lanes[l].lastGranted && s.bus.lanes[l].priority == p) =
      if s.bus.lanes[l].priority = p then s.bus.lanes[l].lastGranted else false := by
    split <;> simp_all
  rw [← hmark]
  refine if_pos ?_
  rw [Bool.and_eq_true, inRange_iff, inRange_iff]
  exact ⟨⟨Nat.zero_le p, hp⟩, h1, h2⟩

end

/-- Settles O52: the change of the line by the lane's state, and Set Lane by its ranges. -/
theorem requestLinesAndSetLane : Obligations.RequestLinesAndSetLane := by
  refine ⟨fun l low after s hset => ?_, fun l p w s hp => ?_⟩
  · intro r line moved leaves
    refine ⟨exec_lreqChange_unseen, fun hne hle => ?_⟩
    have hexec := exec_lreqChange_seen hset hne hle
    refine ⟨fun hlow => ?_, fun hlow hst => ?_, fun hlow hst => ?_⟩
    · rw [StationRecord.lineMoved_kept (fun h => Bool.false_ne_true (hlow.symm.trans h.1)), hlow] at hexec
      subst hlow
      exact hexec
    · rw [StationRecord.lineMoved_kept (fun h => nomatch hst.symm.trans h.2)] at hexec
      subst hlow
      exact hexec
    · rw [StationRecord.lineMoved_rearmed hlow hst] at hexec
      subst hlow
      exact hexec
  · intro i r r'
    refine ⟨fun h1 h2 h3 => ?_, fun hbad => request_answers hp rfl i (setLaneStation_badValue hbad l s)⟩
    have hok := setLaneStation_taken h1 h2 h3 l s
    rw [LaneBus.regrant_eq] at hok
    exact request_answers hp rfl i hok

/-! ### The events of a grant (R168 to R170, R172) -/

theorem LaneBus.listens_iff {after : Nat} {b : LaneBus} (h : b.replying = false) :
    b.listens after = true ↔ b.lbusDe = false ∨ 0 < after := by
  rw [LaneBus.listens, LaneBus.pass_lbusDe, h, Bool.or_false, Bool.not_eq_true', Bool.and_eq_false_iff,
    beq_eq_false_iff_ne, Nat.pos_iff_ne_zero]

section
variable {l : StationLane} {after since length : Nat} {s : State} (hon : s.on = true)

/-! In the grant's window. -/

section
variable (hg : s.bus.grant = some { lane := l, phase := .window since length })
include hg

theorem LaneBus.replying_window : s.bus.replying = false := by
  rw [LaneBus.replying, hg]

include hon

theorem exec_frameStart_window (hin : s.now + after ≤ since + length) (hl : s.bus.lbusDe = false ∨ 0 < after) :
    exec (.frameStart after) s = .next
      (let t := (s.elapse after).setStation l { s.bus.lanes[l] with misses := 0 }
      { t with bus := { (t.bus.place (frameStartChar l)).take with grant := some { lane := l, phase := .reception } } }) := by
  show execFrameStart after s = _
  rw [execFrameStart, hg]
  refine event_of ?_ _ s
  rw [hon, (LaneBus.listens_iff (LaneBus.replying_window hg)).2 hl, decide_eq_true hin]
  rfl

theorem exec_grantMiss_window : exec .grantMiss s = .next
    (State.endGrant (if s.bus.lanes[l].miss.state = .silent
      then ((s.reach (since + length)).setStation l s.bus.lanes[l].miss).tellOffice .laneSilent
      else (s.reach (since + length)).setStation l s.bus.lanes[l].miss)).sealed := by
  show execGrantMiss s = _
  rw [execGrantMiss, hg]
  exact retainedEvent_of hon _ s

theorem exec_laneFrameError_window {k : LaneError} (hk : k = .framing ∨ k = .overrun ∨ k = .wrongAddress)
    (hin : s.now + after ≤ since + length) (hl : s.bus.lbusDe = false ∨ 0 < after) :
    exec (.laneFrameError k after) s = .next ((s.elapse after).discardFrame l).sealed := by
  have hbefore : beforeReception k = true := by rcases hk with rfl | rfl | rfl <;> rfl
  show execLaneFrameError k after s = _
  rw [execLaneFrameError, hg]
  refine retainedEvent_of ?_ _ s
  rw [hon, hbefore, LaneBus.tells_true, (LaneBus.listens_iff (LaneBus.replying_window hg)).2 hl, decide_eq_true hin]
  rfl

end

/-! In reception, and while the reply is sent. -/

include hon

theorem exec_laneFrameError_reception (hg : s.bus.grant = some { lane := l, phase := .reception }) {k : LaneError}
    (hk : k ≠ .wrongAddress) : exec (.laneFrameError k after) s = .next ((s.elapse after).discardFrame l).sealed := by
  have hin : inReception k = true := by
    cases k
    case wrongAddress => exact absurd rfl hk
    all_goals rfl
  show execLaneFrameError k after s = _
  rw [execLaneFrameError, hg]
  exact retainedEvent_of (by rw [hon, hin, LaneBus.tells_true]; rfl) _ s

theorem exec_laneCharTimeout_reception (hg : s.bus.grant = some { lane := l, phase := .reception }) :
    exec (.laneCharTimeout after) s = .next ((s.elapse after).discardFrame l).sealed := by
  show execLaneCharTimeout after s = _
  rw [execLaneCharTimeout, hg]
  exact retainedEvent_of hon _ s

theorem exec_laneReplyEnd_reply {reply : Reply} (hg : s.bus.grant = some { lane := l, phase := .reply reply }) :
    exec (.laneReplyEnd after) s = .next (s.elapse after).endGrant.sealed := by
  show execLaneReplyEnd after s = _
  rw [execLaneReplyEnd, hg]
  exact retainedEvent_of hon _ s

end

/-- A miss short of the third leaves the lane's state. -/
theorem StationRecord.miss_counted {r : StationRecord} (h : min 3 (r.misses + 1) < 3) :
    r.miss = { r with misses := min 3 (r.misses + 1) } := if_neg (Nat.ne_of_lt h)

theorem StationRecord.miss_third {r : StationRecord} (h : min 3 (r.misses + 1) = 3) :
    r.miss = { r with misses := 3, state := .silent } := by
  rw [StationRecord.miss, if_pos h, h]

/-- Settles O53, by the phase of the grant. -/
theorem grantEvents : Obligations.GrantEvents := by
  intro l after since length s hon r later with_ leaves ends listens wrong n
  refine ⟨fun hg => ⟨fun hin hl => ?_, fun hn hst => ?_, fun hn => ?_, fun hin hl k hk => ?_⟩,
    fun hg => ⟨fun k hk => ?_, ?_⟩, fun reply hg => ?_⟩
  · exact exec_frameStart_window hon hg hin hl
  · have hmiss := exec_grantMiss_window hon hg
    rw [StationRecord.miss_counted hn, if_neg (show r.state ≠ .silent by rw [hst]; decide)] at hmiss
    exact hmiss
  · have hmiss := exec_grantMiss_window hon hg
    rw [StationRecord.miss_third hn, if_pos rfl] at hmiss
    exact hmiss
  · exact exec_laneFrameError_window hon hg hk hin hl
  · exact exec_laneFrameError_reception hon hg hk
  · exact exec_laneCharTimeout_reception hon hg
  · exact exec_laneReplyEnd_reply hon hg

end Sys2Proof.Machine
end

section
/-! SUPPORT. The end of a payout fault (Section 7.3) and the stock of a channel (Sections 8.3, 8.5 to 8.8): Resolve on a ticket in
PAY_FAULT, and what a unit, a stray, an empty store and a fault of the job leave. -/

namespace Sys2Proof.Machine

/-! ### Resolve (R131 to R133) -/

section
variable {n un uc : Nat} {t : Ticket} {p : Progress} {s : State}

theorem resolve_wrongState (ht : s.ticket? n = some t) (h : t.state ≠ .payFault) :
    resolveRetry n s = refuse .wrongState s ∧ resolveConvert n s = refuse .wrongState s ∧
      resolveManual n s = refuse .wrongState s :=
  ⟨onTicket_notInState ht _ h, onTicket_notInState ht _ h, onTicket_notInState ht _ h⟩

theorem Ticket.withProgress_some (h : t.progress = some p) (f : Progress → Progress) :
    t.withProgress f = { t with progress := some (f p) } := by
  rw [Ticket.withProgress, h]
  rfl

theorem Ticket.paidValue_progress {d : Dispenser} (hd : d.denoms = some (un, uc)) (h : t.progress = some p) :
    t.paidValue d = p.notesPaid * un + p.coinsPaid * uc := by
  rw [Ticket.paidValue_eq, hd, h]
  rfl

/-- The slot a settled ticket is answered with (R135). -/
theorem State.settle_progress_slotState (ht : s.ticket? t.number = some t) (q : Progress) :
    (s.settle { t with progress := some q }).slotState t.number = if s.log.length < 64 then .free else .settled :=
  State.settle_slotState (t := { t with progress := some q }) ht

variable (ht : s.ticket? n = some t) (hst : t.state = .payFault)
include ht hst

/-- The checks of a RETRY (R132), and its two ends: a settlement where nothing remains, and a job. -/
theorem resolveRetry_faulted : resolveRetry n s =
    if 3 ≤ t.retries then refuse .retryLimit s
    else if t.remainder s.disp = 0 then
      okay (.resolved n ((s.settle t).slotState n) (t.paidValue s.disp) (t.remainder s.disp) none) (s.settle t)
    else if 8 ≤ s.queue.length then refuse .queueFull s
    else
      let notes := t.remainder s.disp / s.disp.un
      let coins := (t.remainder s.disp - notes * s.disp.un) / s.disp.uc
      if s.short notes coins then refuse .stockShort s
      else
        let u := Ticket.withProgress (fun q => { q with retries := q.retries + 1 }) { t with state := .authorised }
        let queue := s.queue ++ [{ ticket := n, amount := t.remainder s.disp, notes := notes, coins := coins }]
        okay (.resolved n .authorised (t.paidValue s.disp) (t.remainder s.disp) (some (notes, coins, queue.length)))
          { s.putTicket u with queue := queue } :=
  onTicket_inState ht _ hst

/-- The checks of a CONVERT (R133), and its settlement. -/
theorem resolveConvert_faulted : resolveConvert n s =
    if t.account.val = 0 then refuse .walkIn s
    else if !s.accounts[t.account].fits (t.remainder s.disp) then refuse .accountFull s
    else
      let s' := (s.setAccount t.account (s.accounts[t.account].post (t.remainder s.disp))).settle
        (t.withProgress fun q => { q with converted := t.remainder s.disp })
      okay (.resolved n (s'.slotState n) (t.paidValue s.disp) (t.remainder s.disp) none) s' :=
  onTicket_inState ht _ hst

theorem resolveManual_faulted : resolveManual n s =
    let s' := s.settle (t.withProgress fun q => { q with manual := t.remainder s.disp })
    okay (.resolved n (s'.slotState n) (t.paidValue s.disp) (t.remainder s.disp) none) s' :=
  onTicket_inState ht _ hst

end

/-- Settles O41: the three actions, each check in its order; where one settles, the slot is the settled ticket's. -/
theorem resolveEndsAPayoutFault : Obligations.ResolveEndsAPayoutFault := by
  refine ⟨fun n t s hp ht hst i hi => ?_, fun n un uc t p s hp ht hst hprog hden => ?_⟩
  · obtain ⟨h1, h2, h3⟩ := resolve_wrongState ht hst
    simp only [List.mem_cons, List.not_mem_nil, or_false] at hi
    rcases hi with rfl | rfl | rfl
    · exact request_answers hp rfl _ h1
    · exact request_answers hp rfl _ h2
    · exact request_answers hp rfl _ h3
  intro retry convert manual acct paid rest notes coins slot refusedWith short settles
  obtain rfl := State.ticket?_number ht
  have hpaid : t.paidValue s.disp = paid := Ticket.paidValue_progress hden hprog
  have hrest : t.remainder s.disp = rest := by rw [Ticket.remainder, hpaid, Ticket.cash_eq]
  have hun : s.disp.un = un := by rw [Dispenser.un_eq, hden]; rfl
  have huc : s.disp.uc = uc := by rw [Dispenser.uc_eq, hden]; rfl
  have hretries : t.retries = p.retries := by rw [Ticket.retries, hprog]
  have hretry := resolveRetry_faulted ht hst
  have hconvert := resolveConvert_faulted ht hst
  have hmanual := resolveManual_faulted ht hst
  rw [hpaid, hrest, hun, huc, hretries] at hretry
  rw [hpaid, hrest, Ticket.withProgress_some hprog] at hconvert hmanual
  have hsame : { t with progress := some p } = t := by rw [← hprog]
  have hshort : s.short notes coins = true ↔ short := State.short_iff
  have hjob : p.retries < 3 → 0 < rest → resolveRetry t.number s = _ := fun h3 h0 =>
    (hretry.trans (if_neg (Nat.not_le.2 h3))).trans (if_neg (Nat.pos_iff_ne_zero.1 h0))
  refine ⟨fun h => ?_, fun h h0 => ?_, fun h h0 hq => ?_, fun h h0 hq hs => ?_, fun h h0 hq hs => ?_, fun hw => ?_,
    fun hw hfull => ?_, fun hw hroom => ?_, ?_⟩
  · exact request_answers hp rfl retry (hretry.trans (if_pos h))
  · have hok := (hretry.trans (if_neg (Nat.not_le.2 h))).trans (if_pos h0)
    rw [← hsame, State.settle_progress_slotState ht] at hok
    exact request_answers hp rfl retry hok
  · exact request_answers hp rfl retry ((hjob h h0).trans (if_pos hq))
  · exact request_answers hp rfl retry (((hjob h h0).trans (if_neg (Nat.not_le.2 hq))).trans (if_pos (hshort.2 hs)))
  · have hok := ((hjob h h0).trans (if_neg (Nat.not_le.2 hq))).trans (if_neg (mt hshort.1 hs))
    rw [Ticket.withProgress_some (t := { t with state := .authorised }) hprog] at hok
    dsimp only at hok
    rw [List.length_append] at hok
    exact request_answers hp rfl retry hok
  · exact request_answers hp rfl convert (hconvert.trans (if_pos hw))
  · exact request_answers hp rfl convert ((hconvert.trans (if_neg hw)).trans (if_pos (Account.not_fits_iff.2 hfull)))
  · have hok := (hconvert.trans (if_neg hw)).trans (if_neg (mt Account.not_fits_iff.1 (Nat.not_lt.2 hroom)))
    have hslot := State.settle_progress_slotState
      (s := s.setAccount t.account (s.accounts[t.account].post rest)) ht { p with converted := rest }
    dsimp only at hok
    rw [hslot] at hok
    exact request_answers hp rfl convert hok
  · have hslot := State.settle_progress_slotState ht { p with manual := rest }
    dsimp only at hmanual
    rw [hslot] at hmanual
    exact request_answers hp rfl manual hmanual

/-! ### Units, stores and faults (R148, R152 to R159) -/

/-- What the office is told of a unit counted out of a channel (R148). -/
def State.unitTold (c : Channel) (s : State) : PortRecord :=
  if (s.disp.channel c).stock = 0 then s.office.place .stockMismatch
  else if s.disp.low c < (s.disp.channel c).stock ∧ (s.disp.channel c).stock - 1 ≤ s.disp.low c then s.office.place .stockLow
  else s.office

theorem State.decrement_eq (c : Channel) (s : State) : s.decrement c =
    { s with office := s.unitTold c, disp := s.disp.setChannel c (s.disp.channel c).less } := by
  unfold State.decrement State.unitTold
  dsimp only
  split
  next h =>
    rw [ChannelRecord.less_of_zero h, Dispenser.setChannel_same]
    rfl
  next => split <;> rfl

theorem ChannelRecord.settle_eq (r : ChannelRecord) :
    r.settle = { state := if r.state = .ready ∧ r.stock = 0 then .empty else r.state, stock := r.stock } := by
  unfold ChannelRecord.settle
  split <;> rfl

theorem State.strayUnit_eq (c : Channel) (s : State) : s.strayUnit c =
    { s with office := (s.unitTold c).place .dispenserStray, disp := s.disp.setChannel c (s.disp.channel c).less.settle } := by
  show State.tellOffice .dispenserStray ((s.decrement c).setDisp _) = _
  rw [State.decrement_eq]
  cases c <;> rfl

theorem State.foundEmpty_eq (c : Channel) (s : State) : s.foundEmpty c = { s with
    office := if (s.disp.channel c).stock = 0 then s.office else s.office.place .stockMismatch
    disp := s.disp.setChannel c .bare } := by
  unfold State.foundEmpty
  dsimp only
  split <;> rfl

theorem State.jobFault_eq {j : JobProgress} {t : Ticket} {s : State} (ht : s.ticket? j.ticket = some t) (cause : FaultCause) :
    s.jobFault j cause = { s with
      disp := s.disp.ended
      tickets := s.tickets.map fun u => if u.number = j.ticket then
        { t with state := .payFault, progress := t.progress.map fun p => { p with fault := some cause } } else u
      office := (s.office.place .payFault).place .channelFault } := by
  have hfind : (s.setDisp { s.disp with job := none, noteVend := false, coinRun := false }).ticket? j.ticket = some t := ht
  simp only [State.jobFault, hfind]
  rw [← State.ticket?_number ht]
  rfl

/-- Settles O45, channel by channel. -/
theorem stockCountsAndFaults : Obligations.StockCountsAndFaults := by
  refine ⟨fun c s => ?_, fun c j cause s => ?_⟩
  · intro r low with_ told
    refine ⟨?_, ?_⟩
    · rw [State.decrement_eq]
      cases c <;> rfl
    · rw [State.strayUnit_eq, ChannelRecord.settle_eq]
      cases c <;> rfl
  · intro r gone
    refine ⟨?_, fun t ht => State.jobFault_eq ht cause⟩
    rw [State.foundEmpty_eq]
    cases c <;> rfl

end Sys2Proof.Machine
end

section
/-! SUPPORT. The start of a job and what follows a vend (Sections 8.4 to 8.7), case by case, and the statements about them. -/

namespace Sys2Proof.Machine

/-! ### What a unit counted leaves in its ticket (R150, R151, R154) -/

section
variable {j : JobProgress} {n : Nat} {t : Ticket} {s : State}

theorem State.onProgress_eq (ht : s.ticket? n = some t) (f : Progress → Progress) :
    s.onProgress n f = s.putTicket { t with progress := t.progress.map f } := by
  rw [State.onProgress, ht]

theorem State.decrement_ticket? (c : Channel) (n : Nat) (s : State) : (s.decrement c).ticket? n = s.ticket? n :=
  State.ticket?_congr (by rw [State.decrement_eq]) n

theorem State.countNote_eq (ht : s.ticket? j.ticket = some t) : s.countNote j =
    ((s.decrement .notes).putTicket { t with progress := t.progress.map fun p => { p with notesPaid := p.notesPaid + 1 } }).setDisp
      { (s.decrement .notes).disp with job := some { j with notes := j.notes + 1 } } := by
  rw [State.countNote, State.onProgress_eq (by rw [State.decrement_ticket?]; exact ht)]
  rfl

theorem State.countCoin_eq (ht : s.ticket? j.ticket = some t) : s.countCoin j =
    ((s.decrement .coins).putTicket { t with progress := t.progress.map fun p => { p with coinsPaid := p.coinsPaid + 1 } }).setDisp
      { (s.decrement .coins).disp with job := some { j with coins := j.coins + 1 } } := by
  rw [State.countCoin, State.onProgress_eq (by rw [State.decrement_ticket?]; exact ht)]
  rfl

end

/-! ### A vend that is due, and the coin phase (R151, R153, R154) -/

section
variable {s : State}

theorem State.startVend_empty (h : s.disp.note.stock = 0 ∨ s.disp.noteEmpty.level = true) (j : JobProgress) :
    s.startVend j = (s.foundEmpty .notes).jobFault j .noteEmpty := if_pos h

theorem not_empty_of {stock : Nat} {level : Bool} (h : 0 < stock) (hl : level = false) : ¬(stock = 0 ∨ level = true) :=
  fun hor => hor.elim (Nat.pos_iff_ne_zero.1 h) fun e => Bool.false_ne_true (hl.symm.trans e)

theorem State.startVend_waits (h : 0 < s.disp.note.stock) (he : s.disp.noteEmpty.level = false)
    (hx : s.disp.noteExit.level = true) (j : JobProgress) :
    s.startVend j = s.setDisp { s.disp with job := some { j with work := some (.waitClear s.now) } } :=
  (if_neg (not_empty_of h he)).trans (if_pos hx)

theorem State.startVend_drives (h : 0 < s.disp.note.stock) (he : s.disp.noteEmpty.level = false)
    (hx : s.disp.noteExit.level = false) (j : JobProgress) : s.startVend j =
      s.setDisp { s.disp with noteVend := true, job := some { j with work := some (.vend s.now .awaited) } } :=
  (if_neg (not_empty_of h he)).trans (if_neg (by rw [hx]; decide))

theorem State.startCoins_empty (h : s.disp.coin.stock = 0 ∨ s.disp.coinEmpty.level = true) (j : JobProgress) :
    s.startCoins j = (s.foundEmpty .coins).jobFault j .coinEmpty := if_pos h

theorem State.startCoins_runs (h : 0 < s.disp.coin.stock) (he : s.disp.coinEmpty.level = false) (j : JobProgress) :
    s.startCoins j = s.setDisp { s.disp with
      coin := { s.disp.coin with state := .running }
      coinRun := true
      job := some { j with phase := .coins, work := none, since := s.now } } := if_neg (not_empty_of h he)

end

/-- The job and the state with which the note phase ends (R153). -/
theorem State.endNotes_eq {un uc : Nat} {s : State} (hd : s.disp.denoms = some (un, uc)) (j : JobProgress) :
    let ended : JobProgress := { j with target := (j.amount - j.notes * un) / uc, work := none }
    let rested := s.setDisp { s.disp with note := s.disp.note.rest, noteVend := false, job := some ended }
    s.endNotes j = if 0 < ended.target then rested.startCoins ended else rested.jobComplete ended := by
  have hun : s.disp.un = un := by rw [Dispenser.un_eq, hd]; rfl
  have huc : s.disp.uc = uc := by rw [Dispenser.uc_eq, hd]; rfl
  rw [State.endNotes, JobProgress.coinTarget, hun, huc]

/-- Settles O48: the note counted, then the next vend or the end of the note phase. -/
theorem afterTheVend : Obligations.AfterTheVend := by
  intro j un uc s hd _ target ended rested
  have hend : j.plannedNotes ≤ j.notes → s.afterVend j = _ := fun hn =>
    (if_neg (Nat.not_lt.2 hn)).trans (State.endNotes_eq hd j)
  refine ⟨fun t ht => State.countNote_eq ht, fun hn => ?_, fun hn => ⟨fun h0 => ?_, fun h0 he => ?_, fun h0 hs he => ?_⟩⟩
  · have hvend : s.afterVend j = s.startVend j := if_pos hn
    rw [hvend]
    exact ⟨fun h => State.startVend_empty h j, fun hs he hx => State.startVend_waits hs he hx j,
      fun hs he hx => State.startVend_drives hs he hx j⟩
  · exact (hend hn).trans (if_neg (show ¬0 < target by omega))
  · exact ((hend hn).trans (if_pos h0)).trans (State.startCoins_empty (s := rested) he ended)
  · exact ((hend hn).trans (if_pos h0)).trans (State.startCoins_runs (s := rested) hs he ended)

/-! ### Taking the head job (R149, R150) -/

/-- A detector read at a moment a rule names, said as the log entry says it (log entry 11). -/
theorem FilteredInput.read_eq (hold : Nat) (found : Bool) (now : Nat) (f : FilteredInput) : f.read hold found now =
    if f.level ≠ found ∧ f.next ≤ now then { level := found, next := max (f.next + hold) now }
    else { f with next := max f.next now } := by
  simp only [FilteredInput.read, FilteredInput.canMove_iff]

section
variable {j : PayoutJob} {rest : List PayoutJob} {t : Ticket} {s : State} (ht : s.ticket? j.ticket = some t)
include ht

/-- The state with the job out of the queue and its ticket PAYING. -/
theorem State.takeJob_eq : s.takeJob j rest =
    (let begun : State := { s with
      queue := rest, tickets := s.tickets.map fun u => if u.number = j.ticket then t.startPaying else u }
    if 0 < j.notes then
      (begun.setDisp { s.disp with note := { s.disp.note with state := .running }, job := some j.begin }).startVend j.begin
    else
      (begun.setDisp { s.disp with job := some { j.begin with phase := .coins, target := j.coins } }).startCoins
        { j.begin with phase := .coins, target := j.coins }) := by
  have hfind : ({ s with queue := rest } : State).ticket? j.ticket = some t := ht
  have hput : ({ s with queue := rest } : State).putTicket t.startPaying = { s with
      queue := rest, tickets := s.tickets.map fun u => if u.number = j.ticket then t.startPaying else u } := by
    rw [← State.ticket?_number ht]
    rfl
  simp only [State.takeJob, hfind, hput]
  rfl

end

theorem State.idle_iff {s : State} : s.idle = true ↔ s.disp.job = none ∧ ∀ u ∈ s.tickets, u.state ≠ .paying := by
  simp [State.idle]

theorem PayoutJob.runnable_iff {d : Dispenser} {j : PayoutJob} : j.runnable d = true ↔
    (0 < j.notes → d.note.state = .ready) ∧ (0 < j.coins → d.coin.state = .ready) := by
  simp only [PayoutJob.runnable, Bool.and_eq_true, Bool.or_eq_true, beq_iff_eq, Nat.pos_iff_ne_zero, imp_iff_not_or, not_not]

theorem exec_jobTake {e : Empties} {j : PayoutJob} {rest : List PayoutJob} {s : State} (hset : s.settled = true)
    (hq : s.queue = j :: rest) (hi : s.idle = true) (hr : j.runnable s.disp = true) :
    exec (.jobTake e) s = .next ((s.sampleEmpties e).takeJob j rest).sealed := by
  show execJobTake e s = _
  rw [execJobTake, hq]
  exact retainedEvent_of (by rw [hset, hi, hr]; rfl) _ s

/-- Settles O46: the job taken, then its first vend or its coin run by what the detectors show. -/
theorem jobTakeStartsTheHeadJob : Obligations.JobTakeStartsTheHeadJob := by
  intro e j rest t s hset hq hjob hidle hnotes hcoins ht paying progress sees note coin begun running leaves onNotes onCoins readied
  have hexec := exec_jobTake (e := e) hset hq (State.idle_iff.2 ⟨hjob, hidle⟩) (PayoutJob.runnable_iff.2 ⟨hnotes, hcoins⟩)
  have hnote : s.disp.noteEmpty.read 20 e.note s.now = note := FilteredInput.read_eq 20 e.note s.now s.disp.noteEmpty
  have hcoin : s.disp.coinEmpty.read 20 e.coin s.now = coin := FilteredInput.read_eq 20 e.coin s.now s.disp.coinEmpty
  have hsample : s.sampleEmpties e = s.setDisp { s.disp with noteEmpty := note, coinEmpty := coin } := by
    rw [← hnote, ← hcoin]
    rfl
  have htake := State.takeJob_eq (rest := rest) (s := s.setDisp { s.disp with noteEmpty := note, coinEmpty := coin }) ht
  rw [hsample, htake] at hexec
  refine ⟨fun hn => ?_, fun hn => ?_⟩
  · have hvend : exec (.jobTake e) s = .next (running.startVend progress).sealed := by
      rw [hexec]
      dsimp only
      rw [if_pos hn]
      rfl
    refine ⟨fun h => ?_, fun hs he hx => ?_, fun hs he hx => ?_⟩
    · exact hvend.trans (congrArg (fun u => Host.Outcome.next u.sealed) (State.startVend_empty (s := running) h progress))
    · exact hvend.trans (congrArg (fun u => Host.Outcome.next u.sealed) (State.startVend_waits (s := running) hs he hx progress))
    · exact hvend.trans (congrArg (fun u => Host.Outcome.next u.sealed) (State.startVend_drives (s := running) hs he hx progress))
  · have hrun : exec (.jobTake e) s = .next (readied.startCoins onCoins).sealed := by
      rw [hexec]
      dsimp only
      rw [if_neg (by omega)]
      rfl
    refine ⟨fun h => ?_, fun hs he => ?_⟩
    · exact hrun.trans (congrArg (fun u => Host.Outcome.next u.sealed) (State.startCoins_empty (s := readied) h onCoins))
    · exact hrun.trans (congrArg (fun u => Host.Outcome.next u.sealed) (State.startCoins_runs (s := readied) hs he onCoins))

end Sys2Proof.Machine
end

section
/-! SUPPORT. The coin phase and the run-on window (Sections 8.6 to 8.8): what a coin and an empty hopper do, by the job they find, and
the statement about these events. -/

namespace Sys2Proof.Machine

/-! ### A coin, and an empty hopper, once the level has changed -/

/-- What a coin does in the state in which COIN_EXIT has just become asserted (R154, R156, R159). -/
def State.coinSeen (s : State) : State :=
  match s.disp.job with
  | some j =>
    match j.phase with
    | .notes => s.strayUnit .coins
    | .coins =>
      if j.target ≤ j.coins + 1 then
        (s.countCoin { j with since := s.now }).openRunOn { j with since := s.now, coins := j.coins + 1 } none
      else s.countCoin { j with since := s.now }
    | .runOn => s.countCoin j
  | none => s.strayUnit .coins

/-- What an empty hopper does in the state in which COIN_EMPTY has just become asserted (R155). -/
def State.hopperSeen (s : State) : State :=
  match s.disp.coinJob with
  | some j => s.openRunOn j (some .coinEmpty)
  | none => s

/-- The state at the event, its timers ended and the level of COIN_EXIT changed. -/
def State.coinExitMoved (after : Nat) (s : State) : State :=
  (s.dispenserElapse after).setDisp ((s.dispenserElapse after).disp.coinExitStarts (s.dispenserElapse after).now)

/-- The state at the event, its timers ended and the level of COIN_EMPTY changed. -/
def State.coinEmptyMoved (after : Nat) (s : State) : State :=
  (s.dispenserElapse after).setDisp ((s.dispenserElapse after).disp.coinEmptyStarts (s.dispenserElapse after).now)

section
variable {after : Nat} {s : State}

theorem exec_coinExitStart_eq (after : Nat) (s : State) : exec (.coinExitStart after) s =
    retainedEvent (s.settled && s.disp.coinExitClear.canMove true (s.now + after)) (fun s => (s.coinExitMoved after).coinSeen) s := rfl

theorem exec_coinEmptyAsserted_eq (after : Nat) (s : State) : exec (.coinEmptyAsserted after) s =
    retainedEvent (s.settled && s.disp.coinEmptyClear.canMove true (s.now + after)) (fun s => (s.coinEmptyMoved after).hopperSeen) s :=
  rfl

theorem exec_coinExitStart_unseen (h : ¬(if s.disp.coinExit.level then s.disp.coinExit.next + 2 else s.disp.coinExit.next) ≤ s.now + after) :
    exec (.coinExitStart after) s = .next s := by
  rw [exec_coinExitStart_eq]
  exact retainedEvent_not (Bool.and_eq_false_iff.2 (.inr (Bool.eq_false_iff.2 (mt FilteredInput.cleared_canMove_iff.1 h)))) _ s

theorem exec_coinEmptyAsserted_unseen
    (h : ¬(if s.disp.coinEmpty.level then s.disp.coinEmpty.next + 20 else s.disp.coinEmpty.next) ≤ s.now + after) :
    exec (.coinEmptyAsserted after) s = .next s := by
  rw [exec_coinEmptyAsserted_eq]
  exact retainedEvent_not (Bool.and_eq_false_iff.2 (.inr (Bool.eq_false_iff.2 (mt FilteredInput.cleared_canMove_iff.1 h)))) _ s

theorem exec_coinExitStart_seen (hset : s.settled = true)
    (h : (if s.disp.coinExit.level then s.disp.coinExit.next + 2 else s.disp.coinExit.next) ≤ s.now + after) :
    exec (.coinExitStart after) s = .next (s.coinExitMoved after).coinSeen.sealed := by
  rw [exec_coinExitStart_eq]
  refine retainedEvent_of (Bool.and_eq_true_iff.2 ⟨hset, ?_⟩) _ s
  exact FilteredInput.cleared_canMove_iff.2 h

theorem exec_coinEmptyAsserted_seen (hset : s.settled = true)
    (h : (if s.disp.coinEmpty.level then s.disp.coinEmpty.next + 20 else s.disp.coinEmpty.next) ≤ s.now + after) :
    exec (.coinEmptyAsserted after) s = .next (s.coinEmptyMoved after).hopperSeen.sealed := by
  rw [exec_coinEmptyAsserted_eq]
  refine retainedEvent_of (Bool.and_eq_true_iff.2 ⟨hset, ?_⟩) _ s
  exact FilteredInput.cleared_canMove_iff.2 h

/-! By the job the level's change finds. -/

variable {j : JobProgress}

theorem State.coinSeen_idle (h : s.disp.job = none) : s.coinSeen = s.strayUnit .coins := by rw [State.coinSeen, h]

theorem State.coinSeen_notes (h : s.disp.job = some j) (hp : j.phase = .notes) : s.coinSeen = s.strayUnit .coins := by
  simp only [State.coinSeen, h, hp]

theorem State.coinSeen_coins (h : s.disp.job = some j) (hp : j.phase = .coins) : s.coinSeen =
    if j.target ≤ j.coins + 1 then
      (s.countCoin { j with since := s.now }).openRunOn { j with since := s.now, coins := j.coins + 1 } none
    else s.countCoin { j with since := s.now } := by
  simp only [State.coinSeen, h, hp]

theorem State.coinSeen_runOn (h : s.disp.job = some j) (hp : j.phase = .runOn) : s.coinSeen = s.countCoin j := by
  simp only [State.coinSeen, h, hp]

theorem Dispenser.coinJob_of {d : Dispenser} (h : d.job = some j) (hp : j.phase = .coins) : d.coinJob = some j := by
  simp only [Dispenser.coinJob, h, hp, if_true]

theorem Dispenser.coinJob_none {d : Dispenser} (h : ∀ j, d.job = some j → j.phase ≠ .coins) : d.coinJob = none := by
  unfold Dispenser.coinJob
  split
  next j hj => exact if_neg (h j hj)
  next => rfl

theorem State.hopperSeen_coins (h : s.disp.job = some j) (hp : j.phase = .coins) :
    s.hopperSeen = s.openRunOn j (some .coinEmpty) := by
  rw [State.hopperSeen, Dispenser.coinJob_of h hp]

theorem State.hopperSeen_else (h : ∀ j, s.disp.job = some j → j.phase ≠ .coins) : s.hopperSeen = s := by
  rw [State.hopperSeen, Dispenser.coinJob_none h]

end

/-! ### The timers of the two phases -/

section
variable {j : JobProgress} {after : Nat} {s : State}

theorem JobProgress.timer_coins (h : j.phase = .coins) (d : Dispenser) : j.timer d = some (.coinGap, j.since + d.jamTime) := by
  simp [JobProgress.timer, h]

theorem JobProgress.timer_runOn (h : j.phase = .runOn) (d : Dispenser) : j.timer d = some (.runOn, j.since + 300) := by
  simp [JobProgress.timer, h]

theorem State.dispenserElapse_idle (h : s.disp.job = none) : s.dispenserElapse after = s.elapse after :=
  State.dispenserElapse_quiet fun _ _ _ hj => nomatch h.symm.trans hj

theorem State.dispenserElapse_before (hj : s.disp.job = some j) (h : ∀ k m, j.timer s.disp = some (k, m) → s.now + after ≤ m) :
    s.dispenserElapse after = s.elapse after :=
  State.dispenserElapse_quiet fun i k m hi hk => by
    cases hj.symm.trans hi
    exact h k m hk

theorem exec_coinGapTimeout_coins (hon : s.on = true) (hj : s.disp.job = some j) (hp : j.phase = .coins) :
    exec .coinGapTimeout s = .next (s.coinGapEnds j).sealed := by
  show execCoinGapTimeout s = _
  rw [execCoinGapTimeout, Dispenser.coinJob_of hj hp]
  exact retainedEvent_of hon _ s

theorem exec_runOnEnd_runOn (hon : s.on = true) (hj : s.disp.job = some j) (hp : j.phase = .runOn) :
    exec .runOnEnd s = .next (s.runOnEnds j).sealed := by
  show execRunOnEnd s = _
  rw [execRunOnEnd, hj]
  exact retainedEvent_of (by rw [hon, hp]; rfl) _ s

theorem State.runOnEnds_clear (h : j.fault = none) : s.runOnEnds j = (s.reach (j.since + 300)).jobComplete j := by
  rw [State.runOnEnds, h]

theorem State.runOnEnds_fault {cause : FaultCause} (h : j.fault = some cause) :
    s.runOnEnds j = ((s.reach (j.since + 300)).endCoinFault cause).jobFault j cause := by
  rw [State.runOnEnds, h]

/-- The completion of a job whose ticket is in the table (R157). -/
theorem State.jobComplete_eq {t : Ticket} (ht : s.ticket? j.ticket = some t) :
    s.jobComplete j = (s.setDisp { s.disp with
      job := none, noteVend := false, coinRun := false
      coin := if s.disp.coin.state = .running then
        { s.disp.coin with state := if s.disp.coin.stock = 0 then .empty else .ready } else s.disp.coin }).settle t := by
  have hfind : (s.setDisp { s.disp.coinRest with job := none, noteVend := false, coinRun := false }).ticket? j.ticket = some t := ht
  simp only [State.jobComplete, hfind]
  rw [Dispenser.coinRest_eq]
  rfl

end

theorem State.settled_on {s : State} (h : s.settled = true) : s.on = true := PayoutKept.settled_on h

/-- Settles O49: with no timer ended before it, each event by the job it finds. -/
theorem coinEvents : Obligations.CoinEvents := by
  intro after s hset now later started emptied again starts empties onCoin onEmpty
  have hon := State.settled_on hset
  have hcoin : s.dispenserElapse after = s.elapse after → starts → onCoin started.coinSeen := fun hq hst => by
    have hmoved : s.coinExitMoved after = started := by rw [State.coinExitMoved, hq]; rfl
    rw [← hmoved]
    exact exec_coinExitStart_seen hset hst
  have hempty : s.dispenserElapse after = s.elapse after → empties → onEmpty emptied.hopperSeen := fun hq hst => by
    have hmoved : s.coinEmptyMoved after = emptied := by rw [State.coinEmptyMoved, hq]; rfl
    rw [← hmoved]
    exact exec_coinEmptyAsserted_seen hset hst
  refine ⟨exec_coinExitStart_unseen, exec_coinEmptyAsserted_unseen, fun hj => ?_, fun j t hj ht => ?_,
    fun j t ht => State.jobComplete_eq ht⟩
  · have hq : s.dispenserElapse after = s.elapse after := State.dispenserElapse_idle hj
    rw [State.coinSeen_idle (s := started) hj] at hcoin
    rw [State.hopperSeen_else (s := emptied) fun i hi => nomatch hj.symm.trans hi] at hempty
    exact ⟨hcoin hq, hempty hq⟩
  intro counts window
  have helse : j.phase ≠ .coins → emptied.hopperSeen = emptied := fun hp => State.hopperSeen_else fun i hi hpi => by
    cases hj.symm.trans hi
    exact hp hpi
  refine ⟨fun hp hlate => ?_, fun hp => ⟨exec_coinGapTimeout_coins hon hj hp, fun hle => ?_⟩, fun hp => ?_⟩
  · have hq : s.dispenserElapse after = s.elapse after := State.dispenserElapse_before hj hlate
    rw [State.coinSeen_notes (s := started) hj hp] at hcoin
    rw [helse (by rw [hp]; decide)] at hempty
    exact ⟨hcoin hq, hempty hq⟩
  · intro j'
    have hq : s.dispenserElapse after = s.elapse after := State.dispenserElapse_before hj fun k m hk => by
      cases (JobProgress.timer_coins hp s.disp).symm.trans hk
      exact hle
    have hcount : started.countCoin j' = counts started j' := State.countCoin_eq ht
    rw [State.coinSeen_coins (s := started) hj hp] at hcoin
    rw [State.hopperSeen_coins (s := emptied) hj hp] at hempty
    refine ⟨fun hst hlt => ?_, fun hst hle => ?_, hempty hq⟩
    · have := hcoin hq hst
      rw [if_neg (Nat.not_le.2 hlt), show started.countCoin { j with since := started.now } = _ from hcount] at this
      exact this
    · have := hcoin hq hst
      rw [if_pos hle, show started.countCoin { j with since := started.now } = _ from hcount] at this
      exact this
  · intro ends
    have hend := exec_runOnEnd_runOn hon hj hp
    refine ⟨fun hle => ?_, fun hf => ?_, fun hf => ?_, fun hf => ?_⟩
    · have hq : s.dispenserElapse after = s.elapse after := State.dispenserElapse_before hj fun k m hk => by
        cases (JobProgress.timer_runOn hp s.disp).symm.trans hk
        exact hle
      have hcount : started.countCoin j = counts started j := State.countCoin_eq ht
      rw [State.coinSeen_runOn (s := started) hj hp, hcount] at hcoin
      rw [helse (by rw [hp]; decide)] at hempty
      exact ⟨hcoin hq, hempty hq⟩
    · rw [hend, State.runOnEnds_clear hf]
    · rw [hend, State.runOnEnds_fault hf]
      rfl
    · rw [hend, State.runOnEnds_fault hf]
      rfl

end Sys2Proof.Machine
end

section
/-! SUPPORT. The note phase (Sections 8.5 to 8.8): what the start and the end of a note exit pulse do, by the work they find, and the
timer that ends before an event at the dispenser's inputs. -/

namespace Sys2Proof.Machine

/-! ### The note exit pulse, once the level has changed -/

/-- What the start of an exit pulse does in the state in which NOTE_EXIT has just become asserted (R151). -/
def State.noteSeen (s : State) : State :=
  match s.disp.noteJob with
  | some j =>
    match j.work with
    | some (.vend start .awaited) => s.setJob (some { j with work := some (.vend start (.passing s.now)) })
    | _ => s
  | none => s

/-- What the end of an exit pulse does in the state in which NOTE_EXIT has just become clear, the pulse found at a start or not
(R151, R159, R161). -/
def State.noteGone (e : Empties) (found : Bool) (s : State) : State :=
  match s.disp.noteJob with
  | some j =>
    match j.work with
    | some (.vend start (.passing since)) =>
      let t := s.countExit start since j
      match t.disp.job with
      | some j' => if t.disp.noteVend then t else (t.sampleEmpties e).afterVend j'
      | none => t
    | some (.waitClear _) => (s.loosePulse found).driveVend j
    | _ => s.loosePulse found
  | none => s.loosePulse found

/-- The state at the event, its timers ended and the level of NOTE_EXIT changed. -/
def State.noteExitMoved (level : Bool) (after : Nat) (s : State) : State :=
  (s.dispenserElapse after).setDisp ((s.dispenserElapse after).disp.noteExitMoves level (s.dispenserElapse after).now)

section
variable {e : Empties} {after : Nat} {s : State}

theorem exec_noteExitStart_eq (after : Nat) (s : State) : exec (.noteExitStart after) s =
    retainedEvent (s.settled && s.disp.noteExit.canMove true (s.now + after)) (fun s => (s.noteExitMoved true after).noteSeen) s := rfl

theorem exec_noteExitEnd_eq (e : Empties) (after : Nat) (s : State) : exec (.noteExitEnd e after) s =
    retainedEvent (s.settled && s.disp.noteExit.canMove false (s.now + after))
      (fun s => (s.noteExitMoved false after).noteGone e s.disp.noteFound) s := rfl

theorem exec_noteExitStart_unseen (h : ¬(s.disp.noteExit.level = false ∧ s.disp.noteExit.next ≤ s.now + after)) :
    exec (.noteExitStart after) s = .next s := by
  rw [exec_noteExitStart_eq]
  refine retainedEvent_not (Bool.and_eq_false_iff.2 (.inr (Bool.eq_false_iff.2 (mt FilteredInput.canMove_iff.1 ?_)))) _ s
  rwa [ne_eq, Bool.not_eq_true]

theorem exec_noteExitEnd_unseen (h : ¬(s.disp.noteExit.level = true ∧ s.disp.noteExit.next ≤ s.now + after)) :
    exec (.noteExitEnd e after) s = .next s := by
  rw [exec_noteExitEnd_eq]
  refine retainedEvent_not (Bool.and_eq_false_iff.2 (.inr (Bool.eq_false_iff.2 (mt FilteredInput.canMove_iff.1 ?_)))) _ s
  rwa [Bool.ne_false_iff]

theorem exec_noteExitStart_seen (hset : s.settled = true)
    (h : s.disp.noteExit.level = false ∧ s.disp.noteExit.next ≤ s.now + after) :
    exec (.noteExitStart after) s = .next (s.noteExitMoved true after).noteSeen.sealed := by
  rw [exec_noteExitStart_eq]
  refine retainedEvent_of (Bool.and_eq_true_iff.2 ⟨hset, FilteredInput.canMove_iff.2 ?_⟩) _ s
  rwa [ne_eq, Bool.not_eq_true]

theorem exec_noteExitEnd_seen (hset : s.settled = true)
    (h : s.disp.noteExit.level = true ∧ s.disp.noteExit.next ≤ s.now + after) :
    exec (.noteExitEnd e after) s = .next ((s.noteExitMoved false after).noteGone e s.disp.noteFound).sealed := by
  rw [exec_noteExitEnd_eq]
  refine retainedEvent_of (Bool.and_eq_true_iff.2 ⟨hset, FilteredInput.canMove_iff.2 ?_⟩) _ s
  rwa [Bool.ne_false_iff]

end

/-! By the work the level's change finds. -/

section
variable {e : Empties} {found : Bool} {j : JobProgress} {start since : Nat} {s : State}

theorem Dispenser.noteJob_of {d : Dispenser} (h : d.job = some j) (hp : j.phase = .notes) : d.noteJob = some j := by
  simp only [Dispenser.noteJob, h, hp, if_true]

theorem Dispenser.noteJob_none {d : Dispenser} (h : ∀ j, d.job = some j → j.phase ≠ .notes) : d.noteJob = none := by
  unfold Dispenser.noteJob
  split
  next j hj => exact if_neg (h j hj)
  next => rfl

theorem State.noteSeen_else (h : ∀ j, s.disp.job = some j → j.phase ≠ .notes) : s.noteSeen = s := by
  rw [State.noteSeen, Dispenser.noteJob_none h]

theorem State.noteGone_else (h : ∀ j, s.disp.job = some j → j.phase ≠ .notes) : s.noteGone e found = s.loosePulse found := by
  rw [State.noteGone, Dispenser.noteJob_none h]

variable (hj : s.disp.job = some j) (hp : j.phase = .notes)
include hj hp

theorem State.noteSeen_awaited (hw : j.work = some (.vend start .awaited)) : s.noteSeen =
    s.setDisp { s.disp with job := some { j with work := some (.vend start (.passing s.now)) } } := by
  rw [State.noteSeen, Dispenser.noteJob_of hj hp]
  dsimp only
  rw [hw]
  rfl

theorem State.noteSeen_kept (hw : ∀ start, j.work ≠ some (.vend start .awaited)) : s.noteSeen = s := by
  rw [State.noteSeen, Dispenser.noteJob_of hj hp]
  dsimp only
  split
  next start h => exact absurd h (hw start)
  next => rfl

theorem State.noteGone_waitClear (hw : j.work = some (.waitClear since)) :
    s.noteGone e found = (s.loosePulse found).driveVend j := by
  rw [State.noteGone, Dispenser.noteJob_of hj hp]
  dsimp only
  rw [hw]

theorem State.noteGone_loose (hw : j.work = some (.vend start .awaited) ∨ j.work = some (.vend start .gone)) :
    s.noteGone e found = s.loosePulse found := by
  rw [State.noteGone, Dispenser.noteJob_of hj hp]
  dsimp only
  rcases hw with hw | hw <;> rw [hw]

theorem State.noteGone_passing (hw : j.work = some (.vend start (.passing since))) {j' : JobProgress}
    (hj' : (s.countExit start since j).disp.job = some j') : s.noteGone e found =
      if (s.countExit start since j).disp.noteVend then s.countExit start since j
      else ((s.countExit start since j).sampleEmpties e).afterVend j' := by
  rw [State.noteGone, Dispenser.noteJob_of hj hp]
  dsimp only
  rw [hw]
  dsimp only
  rw [hj']

theorem exec_noteVendEnd_vend (hon : s.on = true) (hv : s.disp.noteVend = true) (e : Empties) :
    exec (.noteVendEnd e) s = .next (s.vendEnds e j).sealed := by
  show execNoteVendEnd e s = _
  rw [execNoteVendEnd, Dispenser.noteJob_of hj hp]
  exact retainedEvent_of (by rw [hon, hv]; rfl) _ s

theorem exec_noteJamTimeout_limit (hon : s.on = true) {m : Nat} (hm : j.work.bind (NoteWork.limit s.disp.jamTime) = some m) :
    exec .noteJamTimeout s = .next (s.noteJams j m).sealed := by
  show execNoteJamTimeout s = _
  rw [execNoteJamTimeout, Dispenser.noteJob_of hj hp]
  dsimp only
  rw [hm]
  exact retainedEvent_of hon _ s

end

section
variable {j : JobProgress} {start since : Nat} {d : Dispenser}

theorem State.vendEnds_eq {exit : VendExit} (hw : j.work = some (.vend start exit)) (e : Empties) (s : State) : s.vendEnds e j =
    (let off := (s.reach (start + s.disp.vendPulse)).setDisp { s.disp with noteVend := false }
    if exit = .gone then (off.sampleEmpties e).afterVend j else off) := by
  rw [State.vendEnds, hw]
  rfl

theorem State.sampleEmpties_eq (e : Empties) (s : State) : s.sampleEmpties e = s.setDisp { s.disp with
    noteEmpty := if s.disp.noteEmpty.level ≠ e.note ∧ s.disp.noteEmpty.next ≤ s.now then
        { level := e.note, next := max (s.disp.noteEmpty.next + 20) s.now }
      else { s.disp.noteEmpty with next := max s.disp.noteEmpty.next s.now }
    coinEmpty := if s.disp.coinEmpty.level ≠ e.coin ∧ s.disp.coinEmpty.next ≤ s.now then
        { level := e.coin, next := max (s.disp.coinEmpty.next + 20) s.now }
      else { s.disp.coinEmpty with next := max s.disp.coinEmpty.next s.now } } := by
  rw [State.sampleEmpties, FilteredInput.read_eq, FilteredInput.read_eq]

/-! ### The timer of the note phase -/

theorem JobProgress.timer_vend {exit : VendExit} (hp : j.phase = .notes) (hw : j.work = some (.vend start exit))
    (hv : d.noteVend = true) : j.timer d = some (.vendEnd, start + d.vendPulse) := by
  simp [JobProgress.timer, hp, hw, hv]

theorem JobProgress.timer_exit {exit : VendExit} (hp : j.phase = .notes) (hw : j.work = some (.vend start exit))
    (hv : d.noteVend = false) : j.timer d = ((NoteWork.vend start exit).limit d.jamTime).map fun m => (.noteJam, m) := by
  simp [JobProgress.timer, hp, hw, hv]

theorem JobProgress.timer_waitClear (hp : j.phase = .notes) (hw : j.work = some (.waitClear since)) :
    j.timer d = some (.noteJam, since + d.jamTime) := by
  simp [JobProgress.timer, hp, hw, NoteWork.limit]

end

/-! ### Two notes in one pulse (step 5 of R151) -/

section
variable {j : JobProgress} {start since : Nat} {s : State}

theorem State.countExit_eq : s.countExit start since j =
    if s.disp.doublePick < s.now - since then
      (s.countNote { j with work := some (.vend start .gone) }).countNote
        { j with work := some (.vend start .gone), notes := j.notes + 1 }
    else s.countNote { j with work := some (.vend start .gone) } := rfl

theorem State.countExit_counted : (s.countExit start since j).disp.job = some { j with
    work := some (.vend start .gone), notes := j.notes + (if s.disp.doublePick < s.now - since then 2 else 1) } ∧
    (s.countExit start since j).disp.noteVend = s.disp.noteVend := by
  rw [State.countExit_eq]
  split
  · rw [State.countNote_disp, State.countNote_disp]
    exact ⟨rfl, rfl⟩
  · rw [State.countNote_disp]
    exact ⟨rfl, rfl⟩

end

end Sys2Proof.Machine
end

section
/-! SUPPORT. The timer that ends before an event at the dispenser's inputs (log entries 3 and 11): how far it takes the time, what it
leaves of the inputs, and that the event then acts as on the state it leaves. -/

namespace Sys2Proof.Machine

/-! ### The inputs that no timer moves -/

/-- The inputs whose levels the events at them tell of, and the mark of a pulse found at a start. -/
def Dispenser.inputs (d : Dispenser) : FilteredInput × Bool × FilteredInput := (d.noteExit, d.noteFound, d.coinExit)

section
variable (j : JobProgress) (s : State)

theorem Dispenser.setChannel_inputs (c : Channel) (r : ChannelRecord) (d : Dispenser) : (d.setChannel c r).inputs = d.inputs := by
  cases c <;> rfl

theorem State.foundEmpty_inputs (c : Channel) : (s.foundEmpty c).disp.inputs = s.disp.inputs := by
  rw [State.foundEmpty_disp, Dispenser.setChannel_inputs]

theorem State.jobFault_inputs (cause : FaultCause) : (s.jobFault j cause).disp.inputs = s.disp.inputs := by
  rw [State.jobFault_disp]
  rfl

theorem State.jobComplete_inputs : (s.jobComplete j).disp.inputs = s.disp.inputs := by
  rw [State.jobComplete_disp, Dispenser.coinRest_eq]
  rfl

theorem State.startCoins_inputs : (s.startCoins j).disp.inputs = s.disp.inputs := by
  unfold State.startCoins
  split
  · rw [State.jobFault_inputs, State.foundEmpty_inputs]
  · rfl

theorem State.afterVend_inputs : (s.afterVend j).disp.inputs = s.disp.inputs := by
  unfold State.afterVend
  split
  · unfold State.startVend
    split
    · rw [State.jobFault_inputs, State.foundEmpty_inputs]
    · split <;> rfl
  · unfold State.endNotes
    dsimp only
    split
    · rw [State.startCoins_inputs]
      rfl
    · rw [State.jobComplete_inputs]
      rfl

end

/-! ### The end of a timer -/

section
variable {j : JobProgress} {k : DispenserTimer} {m : Nat} {s t : State}

/-- What a timer's end leaves: its own time has come, and no input has moved. -/
structure State.TimerPast (time : Nat) (s t : State) : Prop where
  ends : (s.reach time).JobEnds t
  inputs : t.disp.inputs = s.disp.inputs

theorem State.TimerPast.now {time : Nat} (h : s.TimerPast time t) : t.now = max s.now time :=
  (congrArg State.now h.ends).trans (State.reach_now time s)

theorem State.TimerPast.settled {time : Nat} (h : s.TimerPast time t) : t.settled = s.settled :=
  (congrArg State.settled h.ends).trans (State.reach_settled time s)

theorem State.noteJams_past (j : JobProgress) (m : Nat) (s : State) : s.TimerPast (m + 1) (s.noteJams j m) where
  ends := ((s.reach (m + 1)).jobEnds_setDisp _).trans (State.jobEnds_jobFault _ _ _)
  inputs := State.jobFault_inputs _ _ _

theorem State.coinGapEnds_past (j : JobProgress) (s : State) :
    s.TimerPast (j.since + s.disp.jamTime + 1) (s.coinGapEnds j) where
  ends := State.jobEnds_setDisp _ _
  inputs := rfl

theorem State.runOnEnds_past (j : JobProgress) (s : State) : s.TimerPast (j.since + 300) (s.runOnEnds j) := by
  rcases hf : j.fault with _ | cause
  · rw [State.runOnEnds_clear hf]
    exact ⟨State.jobEnds_jobComplete _ _, State.jobComplete_inputs _ _⟩
  · rw [State.runOnEnds_fault hf]
    have hcoin : s.TimerPast (j.since + 300) ((s.reach (j.since + 300)).endCoinFault cause) := by
      unfold State.endCoinFault
      split
      · exact ⟨State.jobEnds_foundEmpty _ _, State.foundEmpty_inputs _ _⟩
      · exact ⟨State.jobEnds_setDisp _ _, rfl⟩
    exact ⟨hcoin.ends.trans (State.jobEnds_jobFault _ _ _), (State.jobFault_inputs _ _ _).trans hcoin.inputs⟩

theorem State.vendEnds_past {start : Nat} {exit : VendExit} (hw : j.work = some (.vend start exit)) (e : Empties) (s : State) :
    s.TimerPast (start + s.disp.vendPulse) (s.vendEnds e j) := by
  rw [State.vendEnds_eq hw]
  dsimp only
  split
  · exact ⟨((State.jobEnds_setDisp _ _).trans (State.jobEnds_setDisp _ _)).trans (State.jobEnds_afterVend _ _),
      State.afterVend_inputs _ _⟩
  · exact ⟨State.jobEnds_setDisp _ _, rfl⟩

/-- The command that tells of a timer's end, in a state whose paying job that timer belongs to (log entry 3). -/
structure State.Tells (timer : Instr) (k : DispenserTimer) (m : Nat) (j : JobProgress) (s : State) : Prop where
  next : j.timer s.disp = some (k, m)
  exec : exec timer s = .next (s.timerEnds k m j).sealed
  past : ∃ time ≤ m + 1, s.TimerPast time (s.timerEnds k m j)

variable (hset : s.settled = true) (hj : s.disp.job = some j)
include hset hj

theorem State.tells_vendEnd {start : Nat} {exit : VendExit} (hp : j.phase = .notes) (hw : j.work = some (.vend start exit))
    (hv : s.disp.noteVend = true) :
    s.Tells (.noteVendEnd { note := s.disp.noteEmpty.level, coin := s.disp.coinEmpty.level }) .vendEnd (start + s.disp.vendPulse) j where
  next := JobProgress.timer_vend hp hw hv
  exec := exec_noteVendEnd_vend hj hp (State.settled_on hset) hv _
  past := ⟨_, Nat.le_succ _, State.vendEnds_past hw _ s⟩

theorem State.tells_noteJam (hp : j.phase = .notes) (hk : j.timer s.disp = some (.noteJam, m))
    (hm : j.work.bind (NoteWork.limit s.disp.jamTime) = some m) : s.Tells .noteJamTimeout .noteJam m j where
  next := hk
  exec := exec_noteJamTimeout_limit hj hp (State.settled_on hset) hm
  past := ⟨_, Nat.le_refl _, State.noteJams_past j m s⟩

theorem State.tells_coinGap (hp : j.phase = .coins) : s.Tells .coinGapTimeout .coinGap (j.since + s.disp.jamTime) j where
  next := JobProgress.timer_coins hp s.disp
  exec := exec_coinGapTimeout_coins (State.settled_on hset) hj hp
  past := ⟨_, Nat.le_refl _, State.coinGapEnds_past j s⟩

theorem State.tells_runOn (hp : j.phase = .runOn) : s.Tells .runOnEnd .runOn (j.since + 300) j where
  next := JobProgress.timer_runOn hp s.disp
  exec := exec_runOnEnd_runOn (State.settled_on hset) hj hp
  past := ⟨_, Nat.le_succ _, State.runOnEnds_past j s⟩

end

/-! ### The event after it -/

section
variable {j : JobProgress} {k : DispenserTimer} {after m : Nat} {s : State}

/-- The time up to an event passes as on from the timer that ended first: of at most three timers, two can be left. -/
theorem State.dispenserElapse_after (hj : s.disp.job = some j) (hk : j.timer s.disp = some (k, m)) (h : m < s.now + after)
    (hnow : (s.timerEnds k m j).now ≤ s.now + after) : s.dispenserElapse after =
      (s.timerEnds k m j).sealed.dispenserElapse (s.now + after - (s.timerEnds k m j).now) := by
  have htime : (s.timerEnds k m j).sealed.now + (s.now + after - (s.timerEnds k m j).now) = s.now + after := by
    rw [State.sealed_now]
    omega
  have hleft : (s.timerEnds k m j).sealed.disp.timersLeft ≤ 2 := by
    have hless := State.timerEnds_timersLeft hj hk
    have hmost := Dispenser.timersLeft_le s.disp
    rw [State.sealed_disp]
    omega
  rw [State.dispenserElapse, State.dispenserElapse, htime, State.dispenserTimers_passed hj hk h,
    State.dispenserTimers_enough (n := 2) _ hleft 1]

end

/-! ### The statement -/

section
variable {e : Empties} {after start since : Nat} {exit : VendExit} {j : JobProgress} {s : State}

/-- No timer of a vend ends before its event: the pulse goes on, or the exit it waits for is still in time. -/
theorem State.dispenserElapse_vend (hj : s.disp.job = some j) (hp : j.phase = .notes) (hw : j.work = some (.vend start exit))
    (hexit : exit = .awaited ∨ exit = .passing since ∨ exit = .gone)
    (hpulse : s.disp.noteVend = true → s.now + after ≤ start + s.disp.vendPulse)
    (hwait : s.disp.noteVend = false → (exit = .awaited → s.now + after ≤ start + s.disp.jamTime) ∧
      (exit = .passing since → s.now + after ≤ since + s.disp.jamTime)) : s.dispenserElapse after = s.elapse after := by
  refine State.dispenserElapse_before hj fun k m hk => ?_
  cases hv : s.disp.noteVend with
  | true =>
    cases (JobProgress.timer_vend hp hw hv).symm.trans hk
    exact hpulse hv
  | false =>
    rw [JobProgress.timer_exit hp hw hv] at hk
    rcases hexit with rfl | rfl | rfl
    · cases hk
      exact (hwait hv).1 rfl
    · cases hk
      exact (hwait hv).2 rfl
    · cases hk

end

/-- Settles O47: the events of a vend with no timer ended before them, then the event that a timer comes before. -/
theorem vendEvents : Obligations.VendEvents := by
  refine ⟨fun e after start since j s hset => ?_, fun e timer event after m j s u => ?_⟩
  · intro t jam moved starts ends loose onStart onEnd
    have hon := State.settled_on hset
    have hmoved : s.dispenserElapse after = s.elapse after → ∀ level, s.noteExitMoved level after = moved level := fun hq level => by
      rw [State.noteExitMoved, hq]
      rfl
    have hstart : s.dispenserElapse after = s.elapse after → starts → onStart (moved true).noteSeen := fun hq hst => by
      rw [← hmoved hq]
      exact exec_noteExitStart_seen hset hst
    have hend : s.dispenserElapse after = s.elapse after → ends →
        onEnd ((moved false).noteGone e s.disp.noteFound) := fun hq hst => by
      rw [← hmoved hq]
      exact exec_noteExitEnd_seen hset hst
    refine ⟨exec_noteExitStart_unseen, exec_noteExitEnd_unseen, fun hj hp => ?_, fun hbefore => ?_⟩
    · intro sees reads stops
      have hreads : ∀ v, State.sampleEmpties e v = reads v := State.sampleEmpties_eq e
      have hstops : ∀ m, j.work.bind (NoteWork.limit jam) = some m → stops (m + 1) := fun m hm =>
        exec_noteJamTimeout_limit hj hp hon hm
      refine ⟨fun exit hw => ⟨fun hv => ?_, fun hpulse hwait => ?_⟩, fun hw hle => ?_, fun hw => hstops _ (by rw [hw]; rfl),
        fun hw => hstops _ (by rw [hw]; rfl), fun hw => hstops _ (by rw [hw]; rfl)⟩
      · intro off
        have hvend := exec_noteVendEnd_vend hj hp hon hv e
        rw [State.vendEnds_eq hw] at hvend
        dsimp only at hvend
        rw [show ((s.reach (start + s.disp.vendPulse)).setDisp { s.disp with noteVend := false }) = off from rfl, hreads] at hvend
        exact hvend
      · have hq := fun hexit => State.dispenserElapse_vend (since := since) hj hp hw hexit hpulse hwait
        refine ⟨fun hst hx => ?_, fun hst hx => ?_, fun hst hx => ?_, fun hst hx => ?_⟩
        · subst hx
          have := hstart (hq (.inl rfl)) hst
          rw [State.noteSeen_awaited (s := moved true) hj hp hw] at this
          exact this
        · have := hstart (hq (.inr hx)) hst
          rw [State.noteSeen_kept (s := moved true) hj hp fun a ha => by
            rw [hw] at ha
            cases ha
            rcases hx with hx | hx <;> cases hx] at this
          exact this
        · have := hend (hq (hx.imp_right .inr)) hst
          rw [State.noteGone_loose (s := moved false) (start := start) hj hp (by
            rw [hw]
            rcases hx with rfl | rfl
            · exact .inl rfl
            · exact .inr rfl)] at this
          exact this
        · subst hx
          intro one two wide counted total
          have hcounted : (moved false).countExit start since j = counted := State.countExit_eq
          obtain ⟨hjob, hvend⟩ := State.countExit_counted (s := moved false) (start := start) (since := since) (j := j)
          have := hend (hq (.inr (.inl rfl))) hst
          rw [State.noteGone_passing (s := moved false) hj hp hw hjob, hvend, hcounted, hreads] at this
          exact this
      · have hq : s.dispenserElapse after = s.elapse after := State.dispenserElapse_before hj fun k m hk => by
          cases (JobProgress.timer_waitClear hp hw).symm.trans hk
          exact hle
        refine ⟨fun hst => ?_, fun hst => ?_⟩
        · have := hstart hq hst
          rw [State.noteSeen_kept (s := moved true) hj hp fun a ha => nomatch hw.symm.trans ha] at this
          exact this
        · have := hend hq hst
          rw [State.noteGone_waitClear (s := moved false) hj hp hw] at this
          exact this
    · have hphase : ∀ i, s.disp.job = some i → i.phase ≠ .notes := fun i hi => by
        rcases hbefore i hi with ⟨h, _⟩ | ⟨h, _⟩ <;> rw [h] <;> decide
      have hq : s.dispenserElapse after = s.elapse after := State.dispenserElapse_quiet fun i k m hi hk => by
        rcases hbefore i hi with ⟨h, hle⟩ | ⟨h, hle⟩
        · cases (JobProgress.timer_coins h s.disp).symm.trans hk
          exact hle
        · cases (JobProgress.timer_runOn h s.disp).symm.trans hk
          exact hle
      rw [State.noteSeen_else (s := moved true) hphase] at hstart
      rw [State.noteGone_else (s := moved false) hphase] at hend
      exact ⟨hstart hq, hend hq⟩
  · intro d t hset hj htimer again hevent hm hmt hexec
    have htells : ∃ k, s.Tells timer k m j := by
      rcases htimer with ⟨rfl, hv, hp, a, x, hw, rfl⟩ | ⟨rfl, hv, hp, a, b, rfl, hw⟩ | ⟨rfl, hp, rfl⟩ | ⟨rfl, hp, rfl⟩
      · exact ⟨_, State.tells_vendEnd hset hj hp hw hv⟩
      · refine ⟨_, State.tells_noteJam hset hj hp ?_ ?_⟩
        · rcases hw with hw | hw | hw
          · exact JobProgress.timer_waitClear hp hw
          · exact JobProgress.timer_exit hp hw hv
          · exact JobProgress.timer_exit hp hw hv
        · rcases hw with hw | hw | hw <;> rw [hw] <;> rfl
      · exact ⟨_, State.tells_coinGap hset hj hp⟩
      · exact ⟨_, State.tells_runOn hset hj hp⟩
    obtain ⟨k, hk, hends, time, htime, hpast⟩ := htells
    have hu : u = (s.timerEnds k m j).sealed := by
      rw [hends] at hexec
      cases hexec
      rfl
    have hnow : (s.timerEnds k m j).now ≤ t := by rw [hpast.now]; omega
    have helapse := State.dispenserElapse_after hj hk hmt hnow
    have hunow : u.now = (s.timerEnds k m j).now := by rw [hu]; rfl
    have hsum : u.now + (t - u.now) = t := by omega
    rw [← hu, ← hunow] at helapse
    have huset : u.settled = true := by rw [hu, State.sealed_settled, hpast.settled, hset]
    have hinputs : u.disp.inputs = s.disp.inputs := by rw [hu, State.sealed_disp, hpast.inputs]
    obtain ⟨hexit, hfound, hcoin⟩ : u.disp.noteExit = d.noteExit ∧ u.disp.noteFound = d.noteFound ∧ u.disp.coinExit = d.coinExit := by
      simpa [Dispenser.inputs] using hinputs
    have hmoved : ∀ level, s.noteExitMoved level after = u.noteExitMoved level (t - u.now) := fun level => by
      rw [State.noteExitMoved, State.noteExitMoved, helapse]
    rcases hevent with ⟨rfl, hev⟩ | ⟨rfl, hev⟩ | ⟨rfl, hev⟩ | ⟨rfl, hev, hev'⟩
    · rw [exec_noteExitStart_seen hset hev, exec_noteExitStart_seen huset (by rw [hexit, hsum]; exact hev), hmoved]
    · rw [exec_noteExitEnd_seen hset hev, exec_noteExitEnd_seen huset (by rw [hexit, hsum]; exact hev), hmoved, hfound]
    · rw [exec_coinExitStart_seen hset hev, exec_coinExitStart_seen huset (by rw [hcoin, hsum]; exact hev),
        State.coinExitMoved, State.coinExitMoved, helapse]
    · rw [exec_coinEmptyAsserted_seen hset hev, exec_coinEmptyAsserted_seen huset (by rw [hsum]; exact hev'),
        State.coinEmptyMoved, State.coinEmptyMoved, helapse]

end Sys2Proof.Machine
end

section
/-! SUPPORT. The yard clock (Sections 11.2, 11.3): the second that is full in each source, and the statement about the clock's
commands. -/

namespace Sys2Proof.Machine

section
variable {s : State}

theorem State.fullSecond_crystal (h : s.clock.source = .crystal) :
    s.fullSecond = { s with clock := { s.clock with sub := s.clock.leftOver, anchor := s.now } } := by
  rw [State.fullSecond, h]
  rfl

theorem State.fullSecond_reference (h : s.clock.source = .reference) :
    s.fullSecond = { s.reach s.clock.fullAt with clock := { s.clock with
      sub := (s.reach s.clock.fullAt).subNow - Config.secondUnits, anchor := (s.reach s.clock.fullAt).now } } := by
  rw [State.fullSecond, h]
  rfl

theorem State.subNow_reference (h : s.clock.source = .reference) :
    s.subNow = s.clock.sub + (s.now - s.clock.anchor) * Config.unitsPerMs := by
  rw [State.subNow, h]

theorem exec_clockAdvance_on (h : s.on = true) :
    exec .clockAdvance s = .next (s.fullSecond.tickClock.applyDue).sealed := by
  show execClockAdvance s = _
  rw [execClockAdvance, if_pos h]
  exact retainedEvent_of rfl _ s

theorem exec_clockAdvance_stopped (h : s.power = .resetHeld ∨ s.power = .backup true) :
    exec .clockAdvance s = .next s.crystalSecond.tickClock := by
  have hoff : ¬s.on = true := by rcases h with h | h <;> rw [State.on, h] <;> decide
  have hkeeps : s.power.crystalKeeps = true := by rcases h with h | h <;> rw [h] <;> rfl
  show execClockAdvance s = _
  rw [execClockAdvance, if_neg hoff]
  exact event_of hkeeps _ s

theorem YardClock.before_iff {c : YardClock} {day second : Nat} :
    c.before day second = true ↔ c.day < day ∨ (c.day = day ∧ c.second < second) := by
  rw [YardClock.before, Bool.not_eq_true', Bool.eq_false_iff, ne_eq, timeLe_iff]
  omega

theorem setTime_badValue {day second : Nat} (h : 86399 < second) (s : State) :
    setTime day second s = refuse .badValue s := if_pos (.inr h)

/-- The clock a Set Time leaves (R189). -/
def YardClock.setTo (day second now : Nat) (c : YardClock) : YardClock :=
  { c with
    day := day, second := second, sub := 0, anchor := now
    suspect := if c.source = .crystal then false else c.suspect }

theorem setTime_taken {day second : Nat} (hd : day ≤ 65535) (hs : second ≤ 86399) (s : State) : setTime day second s =
    (let t := { s with clock := s.clock.setTo day second s.now }
    okay (.clock { day := day, second := second, suspect := (s.clock.setTo day second s.now).suspect })
      (if s.clock.before day second then t.applyDue else t)) := by
  have hsuspect : (s.clock.suspect && s.clock.source == .reference) = if s.clock.source = .crystal then false else s.clock.suspect := by
    cases s.clock.source <;> simp
  refine (if_neg fun hor => hor.elim (Nat.not_lt.2 hd) (Nat.not_lt.2 hs)).trans ?_
  rw [hsuspect]
  dsimp only
  split
  · rw [State.stamp, State.applyDue_clock]
    rfl
  · rfl

theorem exec_crystalLoss_crystal (hon : s.on = true) (h : s.clock.source = .crystal) (cycles after : Nat) :
    exec (.crystalLoss cycles after) s = .next { s.elapse after with
      clock := { s.clock with
        source := .reference, suspect := true, sub := s.clock.sub + cycles * 1000, anchor := s.now + after }
      office := s.office.place .clockSuspect } := by
  show execCrystalLoss cycles after s = _
  exact event_of (by rw [hon, h]; rfl) _ s

theorem exec_crystalReturn_reference (hon : s.on = true) (h : s.clock.source = .reference) (after : Nat) :
    exec (.crystalReturn after) s = .next { s.elapse after with
      clock := { s.clock with
        source := .crystal, sub := s.clock.sub + (s.now + after - s.clock.anchor) * 32768, anchor := s.now + after } } := by
  show execCrystalReturn after s = _
  refine (event_of (by rw [hon, h]; rfl) _ s).trans ?_
  dsimp only
  rw [State.subNow_reference (s := s.elapse after) h]
  rfl

@[simp] theorem YardClock.tick_sub (c : YardClock) : c.tick.sub = c.sub := by
  unfold YardClock.tick
  split
  · rfl
  · split <;> rfl

@[simp] theorem YardClock.tick_anchor (c : YardClock) : c.tick.anchor = c.anchor := by
  unfold YardClock.tick
  split
  · rfl
  · split <;> rfl

/-- The millisecond in which the oscillator has the second full: not yet past, less than a millisecond's units beyond, and within a
second of the last fixing. -/
theorem YardClock.fullAt_spec {c : YardClock} {now : Nat} (h : c.anchor ≤ now)
    (hfull : c.sub + (now - c.anchor) * 32768 ≤ 32768000) :
    now ≤ c.fullAt ∧ 32768000 ≤ c.sub + (c.fullAt - c.anchor) * 32768 ∧
      c.sub + (c.fullAt - c.anchor) * 32768 < 32768000 + 32768 ∧ c.fullAt ≤ c.anchor + 1000 := by
  have hat : c.fullAt = c.anchor + (32768000 - c.sub + 32767) / 32768 := rfl
  omega

end

/-- Settles O55: each command by the source and by what supplies the part. -/
theorem clockCommands : Obligations.ClockCommands := by
  refine ⟨fun cycles after day second s => ?_, fun s hon hsrc hanchor hfull => ?_⟩
  · intro c ticked left
    refine ⟨fun hon hsrc => ?_, fun hon hsrc => ?_, fun hpower => ?_, fun hp => ?_,
      fun hon hsrc => exec_crystalLoss_crystal hon hsrc cycles after, fun hon hsrc => exec_crystalReturn_reference hon hsrc after⟩
    · rw [exec_clockAdvance_on hon, State.fullSecond_crystal hsrc]
      rfl
    · refine ⟨s.clock.fullAt - s.now, (s.reach s.clock.fullAt).subNow - Config.secondUnits, ?_⟩
      rw [exec_clockAdvance_on hon, State.fullSecond_reference hsrc]
      rfl
    · exact exec_clockAdvance_stopped hpower
    · intro i set takes
      refine ⟨fun hbad => request_answers hp rfl i (setTime_badValue hbad s), fun hday hsecond => ?_⟩
      have hset := setTime_taken hday hsecond s
      dsimp only at hset
      refine ⟨fun hlater => ?_, fun hnot => ?_⟩
      · rw [if_pos (YardClock.before_iff.2 hlater)] at hset
        exact request_answers hp rfl i hset
      · rw [if_neg (mt YardClock.before_iff.1 (show ¬(c.day < day ∨ (c.day = day ∧ c.second < second)) by omega))] at hset
        exact request_answers hp rfl i hset
  · obtain ⟨hnow, hlow, hhigh, hmost⟩ := YardClock.fullAt_spec hanchor hfull
    have hreach : (s.reach s.clock.fullAt).now = s.clock.fullAt := by rw [State.reach_now]; omega
    have hsub : (s.reach s.clock.fullAt).subNow = s.clock.sub + (s.clock.fullAt - s.clock.anchor) * 32768 := by
      rw [State.subNow_reference (s := s.reach s.clock.fullAt) hsrc, hreach]
      rfl
    refine ⟨_, exec_clockAdvance_on hon, ?_⟩
    rw [State.sealed_clock, State.sealed_now, State.applyDue_clock, State.applyDue_now, State.fullSecond_reference hsrc]
    simp only [State.tickClock, YardClock.tick_sub, YardClock.tick_anchor]
    have hunits : Config.secondUnits = 32768000 := rfl
    rw [hsub, hreach, hunits]
    refine ⟨?_, ?_, trivial, ?_⟩ <;> omega

end Sys2Proof.Machine
end

section
/-! SUPPORT. Stops and starts (Sections 11.5, 11.6): what each stop leaves, the forced closes and the payout fault of a warm start,
the values of a cold one, and the statements about them. -/

namespace Sys2Proof.Machine

/-! ### Stops, and the settling of the inputs (R192, R193) -/

section
variable {s : State}

theorem exec_powerStop_on (h : s.on = true) (cause : StopCause) : exec (.powerStop cause) s = .next (s.halt cause) := by
  show execPowerStop cause s = _
  rw [execPowerStop, if_pos h]
  rfl

theorem exec_powerStop_held (h : s.power = .resetHeld) :
    exec (.powerStop .supplyFell) s = .next { s with power := .backup true } := by
  have hoff : ¬s.on = true := by rw [State.on, h]; decide
  show execPowerStop .supplyFell s = _
  rw [execPowerStop, if_neg hoff]
  exact event_of (by rw [h]; rfl) _ s

/-- A stop releases every output and fixes the sub-second count (R192). -/
theorem State.halt_eq (cause : StopCause) (s : State) : s.halt cause = { s with
    power := stoppedBy cause
    disp := { s.disp with noteVend := false, coinRun := false }
    bus := { s.bus with lbusDe := false, buffer := none }
    office := s.office.released
    acctPort := s.acctPort.released
    clock := { s.clock with
      sub := if s.clock.source = .crystal then s.clock.sub else s.clock.sub + (s.now - s.clock.anchor) * 32768
      anchor := s.now } } := by
  have hsub : s.subNow = if s.clock.source = .crystal then s.clock.sub
      else s.clock.sub + (s.now - s.clock.anchor) * 32768 := by
    unfold State.subNow
    cases s.clock.source <;> rfl
  rw [State.halt, hsub]

theorem exec_backupLow_backup {crystal : Bool} (h : s.power = .backup crystal) :
    exec .backupLow s = .next { s with marker := .invalid } := by
  show execBackupLow s = _
  exact event_of (by rw [h]; cases crystal <;> rfl) _ s

theorem exec_backupCrystalStop_backup (h : s.power = .backup true) (cycles : Nat) :
    exec (.backupCrystalStop cycles) s = .next { s with
      power := .backup false, lossMark := true, clock := { s.clock with sub := s.clock.sub + cycles * 1000, anchor := s.now } } := by
  show execBackupCrystalStop cycles s = _
  exact event_of (by rw [h]; rfl) _ s

theorem exec_inputsSettled_started (h : s.power = .running false) (v : InputLevels) (after : Nat) :
    exec (.inputsSettled v after) s = .next (((s.elapse after).establish v).arbitrate).sealed := by
  show execInputsSettled v after s = _
  exact retainedEvent_of (by rw [State.on, State.settled, h]; rfl) _ s

theorem exec_inputsSettled_else (h : s.power ≠ .running false) (v : InputLevels) (after : Nat) :
    exec (.inputsSettled v after) s = .next s := by
  show execInputsSettled v after s = _
  refine retainedEvent_not ?_ _ s
  unfold State.on State.settled
  rcases hp : s.power with b | c | _
  · cases b
    · exact absurd hp h
    · rfl
  all_goals rfl

end

/-- Settles O57: each command by what supplies the part, or by whether its inputs have settled. -/
theorem stopsAndSettling : Obligations.StopsAndSettling := by
  refine ⟨fun cause cycles s => ⟨fun hon => ?_, exec_powerStop_held, fun crystal h => exec_backupLow_backup h,
    fun h => exec_backupCrystalStop_backup h cycles⟩, fun v after s => ?_⟩
  · rw [exec_powerStop_on hon, State.halt_eq]
    cases cause <;> rfl
  · intro found
    exact ⟨fun h => exec_inputsSettled_started h v after, fun h => exec_inputsSettled_else h v after⟩

/-! ### Warm start (R64, R65, R190, R193) -/

section
variable {s : State}

theorem State.forceCloses_nil (h : s.closingOrder = []) : s.forceCloses = s := by
  rw [State.forceCloses, h]
  rfl

/-- The first of the closing order is valued, and the rest follow in their order. -/
theorem State.forceCloses_cons {n : Nat} {rest : List Nat} {t : Ticket} (h : s.closingOrder = n :: rest) (hn : n ∉ rest)
    (ht : s.ticket? n = some t) :
    s.forceCloses = State.forceCloses (s.valueTicket true { t with attachments := [] }) := by
  obtain rfl := State.ticket?_number ht
  have hrest : (s.valueTicket true { t with attachments := [] }).closingOrder = rest := by
    rw [State.valueTicket_closingOrder, h, List.filter_cons, if_neg (by simp)]
    exact List.filter_eq_self.2 fun m hm => bne_iff_ne.2 fun e => hn (e ▸ hm)
  rw [State.forceCloses, State.forceCloses, hrest, h, List.length_cons, State.forceClosesN]
  simp only [h, ht]

theorem State.restartFault_none (h : ∀ t ∈ s.tickets, t.state ≠ .paying) : s.restartFault = s := by
  have hfind : (s.tickets.find? fun t => t.state == .paying) = none :=
    List.find?_eq_none.2 fun t ht hp => h t ht (beq_iff_eq.1 hp)
  rw [State.restartFault, hfind]

theorem State.restartFault_one {t : Ticket} (ht : t ∈ s.tickets) (hp : t.state = .paying)
    (hone : ∀ u ∈ s.tickets, u.state = .paying → u = t) : s.restartFault = { s with
      tickets := s.tickets.map fun u => if u.number = t.number then
        { t with state := .payFault, progress := t.progress.map fun p => { p with fault := some .restart } } else u
      office := s.office.place .payFault } := by
  obtain ⟨u, hu⟩ : ∃ u, (s.tickets.find? fun t => t.state == .paying) = some u :=
    Option.isSome_iff_exists.1 (List.find?_isSome.2 ⟨t, ht, by rw [hp]; rfl⟩)
  have hsome := List.find?_some hu
  obtain rfl := hone u (List.mem_of_find?_eq_some hu) (beq_iff_eq.1 hsome)
  rw [State.restartFault, hu]
  rfl

/-- A backup loss mark sets the suspect flag and is told of (R190). -/
theorem State.lossPhase_eq (s : State) : s.lossPhase = { s with
    clock := { s.clock with suspect := s.clock.suspect || s.lossMark }
    office := if s.lossMark then s.office.place .clockSuspect else s.office
    lossMark := false } := by
  cases h : s.lossMark with
  | true =>
    rw [State.lossPhase, if_pos h, Bool.or_true]
    rfl
  | false =>
    rw [State.lossPhase, if_neg (by rw [h]; decide), Bool.or_false]
    conv_lhs => rw [show s = { s with lossMark := false } by rw [← h]]
    rfl

/-- No pending change that the clock has reached: nothing is applied. -/
theorem State.applyDue_ahead (h : ∀ e ∈ s.changes.head?, s.clock.day < e.day ∨ (s.clock.day = e.day ∧ s.clock.second < e.second)) :
    s.applyDue = s := by
  rcases hc : s.changes with _ | ⟨e, rest⟩
  · exact State.applyDue_nil hc
  · rw [State.applyDue_cons hc, if_neg]
    rw [Bool.not_eq_true, Bool.eq_false_iff, ne_eq, YardClock.reached_iff]
    have := h e (by rw [hc]; rfl)
    omega

theorem State.startsWarm_of {found : StartFound} (hm : s.marker = .valid) (hc : s.check = Config.checkOf s.retained)
    (hi : found.intact = true) (hs : found.strap = .opened) : s.startsWarm found = true :=
  (State.startsWarm_iff found s).2 ⟨hm, hs, hi, hc⟩

theorem exec_warmStart_cut {found : StartFound} (h : s.on = false) (hw : s.startsWarm found = true) (point : WarmPoint)
    (cause : StopCause) : exec (.warmStart found (some (point, cause))) s = .next ((s.warmUpTo point).halt cause).sealed := by
  show execWarmStart found (some (point, cause)) s = _
  exact retainedEvent_of (by rw [h, hw]; rfl) _ s

end

/-- Settles O58: the phases with nothing due, and then each phase by itself. -/
theorem warmStart : Obligations.WarmStart := by
  refine ⟨fun found s hoff hm hc hi hs hdue hclosing hpaying => ?_, fun s => ⟨State.forceCloses_nil,
    fun n rest t h hn ht => State.forceCloses_cons h hn ht, State.restartFault_none,
    fun t ht hp hone => State.restartFault_one ht hp hone, fun found hoff hm hc hi hs => ?_⟩⟩
  · intro port unsettled warm
    have hstart : exec (.warmStart found none) s = _ := execWarmStart_taken hoff (State.startsWarm_of hm hc hi hs)
    have hloss := State.lossPhase_eq s.warmBlocks
    have hahead : s.warmBlocks.lossPhase.applyDue = s.warmBlocks.lossPhase := State.applyDue_ahead (by rw [hloss]; exact hdue)
    have hclose : s.warmBlocks.lossPhase.forceCloses = s.warmBlocks.lossPhase :=
      State.forceCloses_nil (by rw [hloss]; exact hclosing)
    have hfault : s.warmBlocks.lossPhase.restartFault = s.warmBlocks.lossPhase :=
      State.restartFault_none (by rw [hloss]; exact hpaying)
    rw [hstart, State.warmStart, hahead, hclose, hfault, hloss, ← hm]
    rfl
  · have hw := State.startsWarm_of hm hc hi hs
    refine ⟨_, execWarmStart_taken hoff hw, rfl, fun point cause => ?_⟩
    rw [exec_warmStart_cut hoff hw]
    cases point <;> rfl

/-! ### Cold start (R17, R37, R66, R94, R107, R142, R162, R176, R186) -/

theorem State.startsCold_of {found : StartFound} {s : State}
    (h : s.marker = .invalid ∨ s.check ≠ Config.checkOf s.retained ∨ found.intact = false ∨ found.strap = .grounded) :
    s.startsWarm found = false := by
  rw [Bool.eq_false_iff, ne_eq, State.startsWarm_iff]
  rintro ⟨hm, hs, hi, hc⟩
  rcases h with h | h | h | h
  · exact nomatch h.symm.trans hm
  · exact h hc
  · exact nomatch h.symm.trans hi
  · exact nomatch h.symm.trans hs

section
variable {found : StartFound} {s : State} (h : s.on = false) (hc : s.startsWarm found = false)
include h hc

theorem exec_coldStart_taken : exec (.coldStart found none) s = .next s.coldStart := by
  show execColdStart found none s = _
  exact event_of (by rw [h, hc]; rfl) _ s

theorem exec_coldStart_cut (cause : StopCause) : exec (.coldStart found (some cause)) s = .next (s.coldCut cause) := by
  show execColdStart found (some cause) s = _
  exact event_of (by rw [h, hc]; rfl) _ s

end

theorem State.reset_class (c : ClassId) : State.reset.classes[c] = ClassRecord.zero := by
  simp [State.reset, State.coldContent, State.sealed]

theorem State.reset_pulse (i : PulseIx) : State.reset.pulse[i] = PulseLane.cold := by
  simp [State.reset, State.coldContent, State.sealed]

theorem State.reset_lane (l : StationLane) : State.reset.bus.lanes[l] = StationRecord.cold := by
  simp [State.reset, State.coldContent, State.sealed]

/-- Account 0 is the walk-in account and every other is empty. -/
theorem State.reset_accountRecord (a : AccountId) : State.reset.accounts[a] =
    { state := if a.val = 0 then .active else .unused, customer := 0, outstanding := Vector.replicate 16 0, credit := 0
      saturated := false } := by
  rw [State.reset_account]
  by_cases ha : a = 0
  · subst ha
    rfl
  · have hval : a.val ≠ 0 := fun h => ha (Fin.ext h)
    rw [if_neg ha, if_neg hval]
    rfl

/-- Settles O17: each block of the state after a cold start is that of the state after reset, and a cut one is halted. -/
theorem coldStartValues : Obligations.ColdStartValues := by
  intro found s hoff hcold
  have hc := State.startsCold_of hcold
  have hclass : ∀ c : ClassId, s.coldStart.classes[c] = ClassRecord.zero := State.reset_class
  have haccount : ∀ a : AccountId, s.coldStart.accounts[a] = _ := State.reset_accountRecord
  have hpulse : ∀ i : PulseIx, s.coldStart.pulse[i] = PulseLane.cold := State.reset_pulse
  have hlane : ∀ l : StationLane, s.coldStart.bus.lanes[l] = StationRecord.cold := State.reset_lane
  have hport : ∀ p : Port, s.coldStart.port p = PortRecord.started .coldStart := fun p => by cases p <;> rfl
  refine ⟨s.coldStart, exec_coldStart_taken hoff hc, hclass, rfl, haccount, rfl, rfl, rfl, rfl, rfl, rfl, rfl, rfl, fun i => ?_,
    rfl, rfl, rfl, rfl, rfl, rfl, rfl, rfl, rfl, rfl, rfl, rfl, rfl, rfl, fun l => ?_, rfl, rfl, rfl, rfl, hport,
    rfl, rfl, rfl, rfl, rfl, rfl, rfl, rfl, rfl, rfl, fun cause => ?_⟩
  · rw [hpulse i]
    exact ⟨rfl, rfl, rfl, rfl, rfl, rfl, rfl, rfl, rfl, rfl, rfl⟩
  · rw [hlane l]
    exact ⟨rfl, rfl, rfl, rfl, rfl⟩
  · exact ⟨Config.clearedByCut s.draws, s.draws + 1, exec_coldStart_cut hoff hc cause⟩

end Sys2Proof.Machine
end

section
/-! SUPPORT. Requests on the wire (R194, R195): the field bytes of every well-formed request are read back as that request, and a
frame is opened to the name and the fields it was built from. -/

namespace Sys2Proof.Machine

/-! ### Fields read back (R195) -/

/-- The field bytes of a command are read back as that command. -/
def ReadsBack (i : Instr) : Prop :=
  ∀ src n bs, i.wf = true → i.source? = some src → i.payload? = some (n, bs) → parseFields src n bs = some i

theorem readsBack_of_request {i : Instr} {src : Source} {n : ReqName} {bs : List Byte} (hs : i.source? = some src)
    (hp : i.payload? = some (n, bs)) (h : i.wf = true → parseFields src n bs = some i) : ReadsBack i := by
  intro src' n' bs' hwf hs' hp'
  rw [hs] at hs'; rw [hp] at hp'; cases hs'; cases hp'
  exact h hwf

@[simp] theorem atEnd_nil (i : Instr) : atEnd i [] = some i := rfl

@[simp] theorem accountOf_val (a : AccountId) : accountOf a.val = a := by
  have := a.isLt
  exact Fin.ext (Nat.mod_eq_of_lt this)

theorem parseTicket_be (f : Nat → Instr) {n : Nat} (h : fitsBytes 2 n = true) : parseTicket f (be 2 n) = some (f n) := by
  simp only [fitsBytes, decide_eq_true_eq] at h
  simp [parseTicket, readU_be_end 2 n h]

theorem readU_account (a : AccountId) (rest : List Byte) : readU 1 (be 1 a.val ++ rest) = some (a.val, rest) :=
  readU_be 1 a.val rest a.isLt

theorem readU_account_end (a : AccountId) : readU 1 (be 1 a.val) = some (a.val, []) := readU_be_end 1 a.val a.isLt

/-- Reading a field of a request whose number fits its bytes. -/
theorem readU_fits {k n : Nat} (h : fitsBytes k n = true) (rest : List Byte) : readU k (be k n ++ rest) = some (n, rest) :=
  readU_be k n rest (by simpa [fitsBytes] using h)

theorem readU_fits_end {k n : Nat} (h : fitsBytes k n = true) : readU k (be k n) = some (n, []) :=
  readU_be_end k n (by simpa [fitsBytes] using h)

/-- Field bytes that fit a link are at most 60 (Table 12-1). -/
theorem length_of_lengthFits {src : Source} {n : Nat} (h : lengthFits src n = true) : n ≤ 60 := by
  unfold lengthFits at h
  split at h <;> simp only [decide_eq_true_eq] at h <;> omega

/-- A request of one field of `k` bytes. -/
theorem readsBack_oneField {i : Instr} {src : Source} {n : ReqName} {f : Nat → Instr} {k x : Nat} (hs : i.source? = some src)
    (hp : i.payload? = some (n, be k x)) (hi : f x = i) (hw : i.wf = true → fitsBytes k x = true)
    (hf : ∀ bs, parseFields src n bs = readU k bs >>= fun r => atEnd (f r.1) r.2) : ReadsBack i :=
  readsBack_of_request hs hp fun h => by simp [hf, readU_fits_end (hw h), hi]

/-- A request of two numbers, of `k` and `l` bytes. -/
theorem readsBack_twoFields {i : Instr} {src : Source} {n : ReqName} {f : Nat → Nat → Instr} {k l x y : Nat}
    (hs : i.source? = some src) (hp : i.payload? = some (n, be k x ++ be l y)) (hi : f x y = i)
    (hw : i.wf = true → (fitsBytes k x && fitsBytes l y) = true)
    (hf : ∀ bs, parseFields src n bs = readU k bs >>= fun r => readU l r.2 >>= fun q => atEnd (f r.1 q.1) q.2) :
    ReadsBack i := by
  refine readsBack_of_request hs hp fun h => ?_
  obtain ⟨hx, hy⟩ := Bool.and_eq_true_iff.1 (hw h)
  simp [hf, readU_fits hx, readU_fits_end hy, hi]

theorem readsBack_openTicket (src : Source) (a : AccountId) (lanes : List Nat) : ReadsBack (.openTicket src a lanes) := by
  refine readsBack_of_request rfl rfl fun h => ?_
  simp only [Instr.wf, Bool.and_eq_true] at h
  obtain ⟨hcodes, hfit⟩ := h
  simp [parseFields, readU_account, readCodes_counted lanes hcodes (by have := length_of_lengthFits hfit; omega)]

theorem readsBack_release (src : Source) (n : Nat) (rs : List Nat) : ReadsBack (.release src n rs) := by
  refine readsBack_of_request rfl rfl fun h => ?_
  simp only [Instr.wf, Bool.and_eq_true] at h
  obtain ⟨⟨hn, hcodes⟩, hfit⟩ := h
  simp [parseFields, readU_fits hn, readCodes_counted rs hcodes (by have := length_of_lengthFits hfit; omega)]

/-- A Read Ticket that names a ticket is no listing of the table: its number is not 0 (R61). -/
theorem readsBack_readTicket (src : Source) (n : Nat) : ReadsBack (.readTicket src n) := by
  refine readsBack_of_request rfl rfl fun h => ?_
  simp only [Instr.wf, Bool.and_eq_true, bne_iff_ne] at h
  rw [parseFields, parseTicket_be _ h.1, if_neg h.2]

theorem readsBack_authorise (src : Source) (n means amount : Nat) : ReadsBack (.authorise src n means amount) := by
  refine readsBack_of_request rfl rfl fun h => ?_
  simp only [Instr.wf, Bool.and_eq_true] at h
  obtain ⟨⟨hn, hm⟩, ha⟩ := h
  simp [parseFields, readU_fits hn, readU_fits hm, readU_fits_end ha]

/-- The action byte of a Resolve tells the three apart (R131). -/
theorem parseResolve_be (src : Source) {n : Nat} (hn : fitsBytes 2 n = true) :
    parseResolve src (be 2 n ++ be 1 0) = some (.resolveRetry src n) ∧
    parseResolve src (be 2 n ++ be 1 1) = some (.resolveConvert src n) ∧
    parseResolve src (be 2 n ++ be 1 2) = some (.resolveManual src n) := by
  refine ⟨?_, ?_, ?_⟩ <;> simp [parseResolve, readU_fits hn, readU_be_end]

/-- The twelve label bytes of a Set Class stand between its numbers and its optional effective time (Table 1-3). -/
theorem readsBack_setClass (src : Source) (c st k d f g sl b : Nat) (label : List Byte) (e : Option (Nat × Nat)) :
    ReadsBack (.setClass src c st k d f g sl b label e) := by
  refine readsBack_of_request rfl rfl fun h => ?_
  simp only [Instr.wf, Bool.and_eq_true, beq_iff_eq] at h
  obtain ⟨⟨⟨⟨⟨⟨⟨⟨⟨⟨hc, hst⟩, hk⟩, hd⟩, hf⟩, hg⟩, hsl⟩, hb⟩, hlabel⟩, he⟩, -⟩ := h
  have htake (rest : List Byte) : (label ++ rest).take 12 = label := by rw [← hlabel, List.take_left]
  have hdrop (rest : List Byte) : (label ++ rest).drop 12 = rest := by rw [← hlabel, List.drop_left]
  have hlen (rest : List Byte) : ¬(label ++ rest).length < 12 := by rw [List.length_append]; omega
  simp only [parseFields, parseSetClass, List.append_assoc, readU_fits hc, readU_fits hst, readU_fits hk, readU_fits hd,
    readU_fits hf, readU_fits hg, readU_fits hsl, readU_fits hb, htake, hdrop, if_neg (hlen _), Option.bind_eq_bind,
    Option.bind_some]
  cases e with
  | none => simp [optionalField, readU_be_end]
  | some x =>
    obtain ⟨day, second⟩ := x
    simp only [timeFits, Bool.and_eq_true] at he
    simp [optionalField, readU_be, readU_fits he.1, readU_fits_end he.2]

theorem readsBack_setLaneStation (src : Source) (l : StationLane) (p w : Nat) : ReadsBack (.setLaneStation src l p w) := by
  refine readsBack_of_request rfl rfl fun h => ?_
  simp only [Instr.wf, Bool.and_eq_true] at h
  have hlane : l.val < 6 := l.isLt
  simp [parseFields, parseSetLane, readU_be 1 l.val _ (by omega), hlane, readU_fits h.1, readU_fits_end h.2]

theorem readsBack_setLanePulse (src : Source) (i : PulseIx) (en c e sp st m : Nat) :
    ReadsBack (.setLanePulse src i en c e sp st m) := by
  refine readsBack_of_request rfl rfl fun h => ?_
  simp only [Instr.wf, Bool.and_eq_true] at h
  obtain ⟨⟨⟨⟨⟨hen, hc⟩, he⟩, hsp⟩, hst⟩, hm⟩ := h
  have hlane : ¬pulseNumber i < 6 := by simp [pulseNumber]
  have hfit : pulseNumber i < 256 ^ 1 := by have := i.isLt; simp only [pulseNumber]; omega
  simp [parseFields, parseSetLane, readU_be 1 _ _ hfit, hlane, readU_fits hen, readU_fits hc, readU_fits he, readU_fits hsp,
    readU_fits hst, readU_fits_end hm]

theorem readsBack_setDispenser (src : Source) (un uc w j p nl cl : Nat) :
    ReadsBack (.setDispenser src un uc w j p nl cl) := by
  refine readsBack_of_request rfl rfl fun h => ?_
  simp only [Instr.wf, Bool.and_eq_true] at h
  obtain ⟨⟨⟨⟨⟨⟨hun, huc⟩, hw⟩, hj⟩, hp⟩, hnl⟩, hcl⟩ := h
  simp [parseFields, parseSetDispenser, readU_fits hun, readU_fits huc, readU_fits hw, readU_fits hj, readU_fits hp,
    readU_fits hnl, readU_fits_end hcl]

/-- The action byte of a Watch tells adding, removing and listing apart (R88). -/
theorem parseWatch_be (src : Source) :
    (∀ tag, fitsBytes 4 tag = true → parseWatch src (be 1 0 ++ be 4 tag) = some (.watchAdd src tag)) ∧
    (∀ tag, fitsBytes 4 tag = true → parseWatch src (be 1 1 ++ be 4 tag) = some (.watchRemove src tag)) ∧
    parseWatch src (be 1 2) = some (.watchList src) := by
  refine ⟨fun tag h => ?_, fun tag h => ?_, ?_⟩
  · simp [parseWatch, readU_be, readU_fits_end h]
  · simp [parseWatch, readU_be, readU_fits_end h]
  · simp [parseWatch, readU_be_end]

/-- The state of a Set Account State is not 0, the one that deletes the account (R22). -/
theorem readsBack_setAccountState (src : Source) (a : AccountId) (st : Nat) : ReadsBack (.setAccountState src a st) := by
  refine readsBack_of_request rfl rfl fun h => ?_
  simp only [Instr.wf, Bool.and_eq_true, bne_iff_ne] at h
  simp [parseFields, readU_account, readU_fits_end h.1, h.2]

theorem readsBack_deleteAccount (src : Source) (a : AccountId) : ReadsBack (.deleteAccount src a) :=
  readsBack_of_request rfl rfl fun _ => by simp [parseFields, readU_account, readU_be_end]

theorem readsBack_issue (src : Source) (a : AccountId) (c n : Nat) : ReadsBack (.issue src a c n) := by
  refine readsBack_of_request rfl rfl fun h => ?_
  simp only [Instr.wf, Bool.and_eq_true] at h
  simp [parseFields, readU_account, readU_fits h.1, readU_fits_end h.2]

theorem readsBack_adjust (src : Source) (a : AccountId) (c : Nat) (n : Int) : ReadsBack (.adjust src a c n) := by
  refine readsBack_of_request rfl rfl fun h => ?_
  simp only [Instr.wf, Bool.and_eq_true, decide_eq_true_eq] at h
  obtain ⟨⟨hc, hlow⟩, hhigh⟩ := h
  simp [parseFields, readU_account, readU_fits hc, signedBytes, readU_be_end 2 (n % 65536).toNat (by omega),
    ofSigned_signed n hlow hhigh]

theorem readsBack_arrive (src : Source) (c o k q b : Nat) (tag : Option Nat) : ReadsBack (.arrive src c o k q b tag) := by
  refine readsBack_of_request rfl rfl fun h => ?_
  simp only [Instr.wf, Bool.and_eq_true] at h
  obtain ⟨⟨⟨⟨⟨hc, ho⟩, hk⟩, hq⟩, hb⟩, htag⟩ := h
  simp only [parseFields, parseArrive, List.append_assoc, readU_fits hc, readU_fits ho, readU_fits hk, readU_fits hq,
    readU_fits hb, Option.bind_eq_bind, Option.bind_some]
  cases tag with
  | none => simp [optionalField, readU_be_end]
  | some t => simp [optionalField, readU_be, readU_fits_end (show fitsBytes 4 t = true from htag)]

/-- Every well-formed request is read back from its field bytes (R195). -/
theorem readsBack : (i : Instr) → ReadsBack i
  | .openTicket src a lanes => readsBack_openTicket src a lanes
  | .attachLane src _ _ => readsBack_twoFields (f := .attachLane src) rfl rfl rfl id fun _ => rfl
  | .detachLane src _ _ => readsBack_twoFields (f := .detachLane src) rfl rfl rfl id fun _ => rfl
  | .closeTicket _ _ => readsBack_of_request rfl rfl fun h => parseTicket_be _ h
  | .reopen _ _ => readsBack_of_request rfl rfl fun h => parseTicket_be _ h
  | .void _ _ => readsBack_of_request rfl rfl fun h => parseTicket_be _ h
  | .release src n rs => readsBack_release src n rs
  | .setLimits src _ _ => readsBack_twoFields (f := .setLimits src) rfl rfl rfl id fun _ => rfl
  | .readTicket src n => readsBack_readTicket src n
  | .readTicketTable src => readsBack_of_request rfl rfl fun _ =>
    parseTicket_be (fun t => if t = 0 then .readTicketTable src else .readTicket src t) (n := 0) rfl
  | .authorise src n means amount => readsBack_authorise src n means amount
  | .revoke _ _ => readsBack_of_request rfl rfl fun h => parseTicket_be _ h
  | .resolveRetry src _ => readsBack_of_request rfl rfl fun h => (parseResolve_be src h).1
  | .resolveConvert src _ => readsBack_of_request rfl rfl fun h => (parseResolve_be src h).2.1
  | .resolveManual src _ => readsBack_of_request rfl rfl fun h => (parseResolve_be src h).2.2
  | .assignStrays src _ _ => readsBack_twoFields (f := .assignStrays src) rfl rfl rfl id fun _ => rfl
  | .setClass src c st k d f g sl b label e => readsBack_setClass src c st k d f g sl b label e
  | .cancelChange src _ => readsBack_oneField (f := .cancelChange src) rfl rfl rfl id fun _ => rfl
  | .readClass src _ => readsBack_oneField (f := .readClass src) rfl rfl rfl id fun _ => rfl
  | .setLaneStation src l p w => readsBack_setLaneStation src l p w
  | .setLanePulse src i en c e sp st m => readsBack_setLanePulse src i en c e sp st m
  | .setDispenser src un uc w j p nl cl => readsBack_setDispenser src un uc w j p nl cl
  | .refill src _ _ => readsBack_twoFields (f := .refill src) rfl rfl rfl id fun _ => rfl
  | .clearChannel src _ => readsBack_oneField (f := .clearChannel src) rfl rfl rfl id fun _ => rfl
  | .watchAdd src tag => readsBack_of_request rfl rfl ((parseWatch_be src).1 tag)
  | .watchRemove src tag => readsBack_of_request rfl rfl ((parseWatch_be src).2.1 tag)
  | .watchList src => readsBack_of_request rfl rfl fun _ => (parseWatch_be src).2.2
  | .setTime src _ _ => readsBack_twoFields (f := .setTime src) rfl rfl rfl id fun _ => rfl
  | .readStatus _ => readsBack_of_request rfl rfl fun _ => rfl
  | .readNotices _ => readsBack_of_request rfl rfl fun _ => rfl
  | .readAccount _ a =>
    readsBack_of_request rfl rfl fun _ => by simp [parseFields, readU_account_end a]
  | .makeAccount _ a _ => readsBack_of_request rfl rfl fun h => by simp [parseFields, readU_account a, readU_fits_end h]
  | .setAccountState src a st => readsBack_setAccountState src a st
  | .deleteAccount src a => readsBack_deleteAccount src a
  | .issue src a c n => readsBack_issue src a c n
  | .adjust src a c n => readsBack_adjust src a c n
  | .collect _ a _ => readsBack_of_request rfl rfl fun h => by simp [parseFields, readU_account a, readU_fits_end h]
  | .readResidue _ => readsBack_of_request rfl rfl fun _ => rfl
  | .clearResidue src _ => readsBack_oneField (f := .clearResidue src) rfl rfl rfl id fun _ => rfl
  | .peekLog _ => readsBack_of_request rfl rfl fun _ => rfl
  | .takeLog _ _ => readsBack_of_request rfl rfl fun h => parseTicket_be _ h
  | .arrive src c o k q b tag => readsBack_arrive src c o k q b tag
  | .laneDone _ => readsBack_of_request rfl rfl fun _ => rfl
  | .laneQuery _ => readsBack_of_request rfl rfl fun _ => rfl
  | .unknownRequest .. | .closeWaitExpiry .. | .clockAdvance | .crystalLoss .. | .crystalReturn .. | .backupCrystalStop ..
  | .backupLow | .powerStop .. | .warmStart .. | .coldStart .. | .portLineError .. | .portGapTimeout .. | .portIdleRecover ..
  | .portOverrun .. | .portReplyEnd .. | .lreqChange .. | .frameStart .. | .grantMiss | .laneFrameError ..
  | .laneCharTimeout .. | .laneReplyEnd .. | .peyeTransition .. | .stall .. | .jobTake .. | .noteVendEnd ..
  | .noteExitStart .. | .noteExitEnd .. | .noteJamTimeout | .coinExitStart .. | .coinGapTimeout | .coinEmptyAsserted ..
  | .runOnEnd | .requestFrameStart .. | .inputsSettled .. => fun _ _ _ _ hs _ => nomatch hs

/-! ### Frames opened (R168, R178, R194) -/

theorem checkByte_sum (bs : List Byte) : sumBytes (bs ++ [checkByte bs]) = 0 := by
  rw [sumBytes_append]
  simp [checkByte, sumBytes]

theorem frame_sum (start : Byte) (length payload : List Byte) : sumBytes (frame start length payload) = 0 :=
  checkByte_sum _

/-- A frame is opened to the name and the fields it was built from, where its length byte can count them. -/
theorem openFrame_frame (start : Byte) {most : Nat} {name fields : List Byte} (hname : name.length = 4)
    (hfit : 4 + fields.length ≤ most) (hmost : most < 256) :
    openFrame start most (frame start (be 1 (4 + fields.length)) (name ++ fields)) = some (name, fields) := by
  have hlen : (BitVec.ofNat 8 (4 + fields.length)).toNat = 4 + fields.length := by
    rw [BitVec.toNat_ofNat, Nat.mod_eq_of_lt (by omega)]
  have hsum := frame_sum start (be 1 (4 + fields.length)) (name ++ fields)
  have htake : ((name ++ fields) ++ [checkByte (start :: (be 1 (4 + fields.length) ++ (name ++ fields)))]).take
      (4 + fields.length) = name ++ fields := by
    rw [← hname, ← List.length_append, List.take_left]
  have hbe : be 1 (4 + fields.length) = [BitVec.ofNat 8 (4 + fields.length)] := by simp [be]
  rw [frame, hbe] at hsum ⊢
  rw [hbe] at htake
  simp only [List.cons_append, List.nil_append] at hsum htake ⊢
  rw [openFrame, if_pos ⟨rfl, by omega, by omega, by simp [hlen, hname]; omega, hsum⟩, hlen, htake]
  rw [List.append_assoc, ← hname, List.take_left, List.drop_left]

/-- A payload is decoded to the request it carries. -/
theorem decodePayload_payload {i : Instr} {link : Link} {n : ReqName} {bs : List Byte} (hwf : i.wf = true)
    (hs : i.source? = some { link := link, fits := true }) (hp : i.payload? = some (n, bs)) :
    decodePayload link n.chars bs = i := by
  rw [decodePayload, ReqName.ofChars_chars]
  simp [readsBack i _ _ _ hwf hs hp]

theorem laneChars_data (bs : List Byte) : (laneChars bs).map (·.data) = bs := by
  cases bs with
  | nil => rfl
  | cons b bs => simp [laneChars, Function.comp_def]

theorem laneChars_marked {bs : List Byte} (h : bs ≠ []) :
    (laneChars bs).map (·.marked) = true :: List.replicate ((laneChars bs).length - 1) false := by
  cases bs with
  | nil => exact absurd rfl h
  | cons b bs => simp [laneChars, Function.comp_def]

theorem frame_ne_nil (start : Byte) (length payload : List Byte) : frame start length payload ≠ [] := by simp [frame]

open Laws in
/-- What every command is on the wire, from the lemma of each constructor. -/
theorem wireStatement : (i : Instr) → WireFamily.Statement i
  | .openTicket _ _ _ => WireFamily.openTicket _ _ _
  | .attachLane _ _ _ => WireFamily.attachLane _ _ _
  | .detachLane _ _ _ => WireFamily.detachLane _ _ _
  | .closeTicket _ _ => WireFamily.closeTicket _ _
  | .reopen _ _ => WireFamily.reopen _ _
  | .void _ _ => WireFamily.void _ _
  | .release _ _ _ => WireFamily.release _ _ _
  | .setLimits _ _ _ => WireFamily.setLimits _ _ _
  | .readTicket _ _ => WireFamily.readTicket _ _
  | .readTicketTable _ => WireFamily.readTicketTable _
  | .authorise _ _ _ _ => WireFamily.authorise _ _ _ _
  | .revoke _ _ => WireFamily.revoke _ _
  | .resolveRetry _ _ => WireFamily.resolveRetry _ _
  | .resolveConvert _ _ => WireFamily.resolveConvert _ _
  | .resolveManual _ _ => WireFamily.resolveManual _ _
  | .assignStrays _ _ _ => WireFamily.assignStrays _ _ _
  | .setClass _ _ _ _ _ _ _ _ _ _ _ => WireFamily.setClass _ _ _ _ _ _ _ _ _ _ _
  | .cancelChange _ _ => WireFamily.cancelChange _ _
  | .readClass _ _ => WireFamily.readClass _ _
  | .setLaneStation _ _ _ _ => WireFamily.setLaneStation _ _ _ _
  | .setLanePulse _ _ _ _ _ _ _ _ => WireFamily.setLanePulse _ _ _ _ _ _ _ _
  | .setDispenser _ _ _ _ _ _ _ _ => WireFamily.setDispenser _ _ _ _ _ _ _ _
  | .refill _ _ _ => WireFamily.refill _ _ _
  | .clearChannel _ _ => WireFamily.clearChannel _ _
  | .watchAdd _ _ => WireFamily.watchAdd _ _
  | .watchRemove _ _ => WireFamily.watchRemove _ _
  | .watchList _ => WireFamily.watchList _
  | .setTime _ _ _ => WireFamily.setTime _ _ _
  | .readStatus _ => WireFamily.readStatus _
  | .readNotices _ => WireFamily.readNotices _
  | .readAccount _ _ => WireFamily.readAccount _ _
  | .makeAccount _ _ _ => WireFamily.makeAccount _ _ _
  | .setAccountState _ _ _ => WireFamily.setAccountState _ _ _
  | .deleteAccount _ _ => WireFamily.deleteAccount _ _
  | .issue _ _ _ _ => WireFamily.issue _ _ _ _
  | .adjust _ _ _ _ => WireFamily.adjust _ _ _ _
  | .collect _ _ _ => WireFamily.collect _ _ _
  | .readResidue _ => WireFamily.readResidue _
  | .clearResidue _ _ => WireFamily.clearResidue _ _
  | .peekLog _ => WireFamily.peekLog _
  | .takeLog _ _ => WireFamily.takeLog _ _
  | .arrive _ _ _ _ _ _ _ => WireFamily.arrive _ _ _ _ _ _ _
  | .laneDone _ => WireFamily.laneDone _
  | .laneQuery _ => WireFamily.laneQuery _
  | .unknownRequest .. | .closeWaitExpiry .. | .clockAdvance | .crystalLoss .. | .crystalReturn .. | .backupCrystalStop ..
  | .backupLow | .powerStop .. | .warmStart .. | .coldStart .. | .portLineError .. | .portGapTimeout .. | .portIdleRecover ..
  | .portOverrun .. | .portReplyEnd .. | .lreqChange .. | .frameStart .. | .grantMiss | .laneFrameError ..
  | .laneCharTimeout .. | .laneReplyEnd .. | .peyeTransition .. | .stall .. | .jobTake .. | .noteVendEnd ..
  | .noteExitStart .. | .noteExitEnd .. | .noteJamTimeout | .coinExitStart .. | .coinGapTimeout | .coinEmptyAsserted ..
  | .runOnEnd | .requestFrameStart .. | .inputsSettled .. => WireFamily.of_event rfl rfl

/-- A request has a payload, whose field bytes fit its link. -/
theorem payload_of_source {i : Instr} {src : Source} (hwf : i.wf = true) (hs : i.source? = some src) :
    ∃ n bs, i.payload? = some (n, bs) ∧ lengthFits src bs.length = true := by
  obtain ⟨hsome, hfit⟩ := wireStatement i
  rw [hs] at hsome
  obtain ⟨⟨n, bs⟩, hp⟩ := Option.isSome_iff_exists.1 hsome
  exact ⟨n, bs, hp, hfit src n bs hwf hs hp⟩

theorem decodeTerminal_encodeTerminal (p : Port) {i : Instr} (hwf : i.wf = true) (hs : i.source? = some p.sent) :
    ∃ bs, encodeTerminal i = some bs ∧ decodeTerminal p bs = some i := by
  obtain ⟨n, fields, hp, hfit⟩ := payload_of_source hwf hs
  have hle : 4 + fields.length ≤ 64 := by cases p <;> simpa [lengthFits, Port.sent, Port.link] using hfit
  refine ⟨_, by rw [encodeTerminal, hp]; rfl, ?_⟩
  rw [decodeTerminal.eq_def, openFrame_frame 0x5A n.chars_length hle (by omega), Option.map_some]
  exact congrArg some (decodePayload_payload hwf (by cases p <;> exact hs) hp)

theorem decodeStation_encodeStation (l : StationLane) {i : Instr} (hwf : i.wf = true) (hs : i.source? = some sentByStation) :
    ∃ cs, encodeStation l i = some cs ∧ decodeStation l cs = some i := by
  obtain ⟨n, fields, hp, hfit⟩ := payload_of_source hwf hs
  have hle : 4 + fields.length ≤ 24 := by simpa [lengthFits, sentByStation] using hfit
  refine ⟨_, by rw [encodeStation, hp]; rfl, ?_⟩
  rw [decodeStation, if_pos (laneChars_marked (frame_ne_nil _ _ _)), laneChars_data,
    openFrame_frame _ n.chars_length hle (by omega), Option.map_some]
  exact congrArg some (decodePayload_payload hwf hs hp)

end Sys2Proof.Machine

namespace Sys2Proof

open Machine

/-- Settles O59, from what opening a frame gives and from each request's field bytes, read back in the order they were written. -/
theorem framesCarryTheirRequest : Obligations.FramesCarryTheirRequest := by
  unfold Obligations.FramesCarryTheirRequest
  exact ⟨fun p _ hwf hs => decodeTerminal_encodeTerminal p hwf hs, fun l _ hwf hs => decodeStation_encodeStation l hwf hs⟩

end Sys2Proof
end

section
/-! SUPPORT. Characters and frames on the links (R163, R177, R194): the bits of a character and the errors they show, the characters
of a frame heard one after another, the check byte, and the length of a log record (R196). -/

namespace Sys2Proof.Machine

/-! ### The bits of a character (R163, R177) -/

/-- The 11 bits a character of either link stands in: between a start bit and a stop bit its byte and one bit more, the parity bit
on a terminal link and the mark bit on the lane bus. -/
def elevenBits (d : Byte) (ninth : Bool) : BitVec 11 := 1#1 ++ (BitVec.ofBool ninth ++ (d ++ 0#1))

theorem portChar_eq (d : Byte) : portChar d = elevenBits d (parityBit d) := rfl

theorem bits_eq (c : LaneChar) : c.bits = elevenBits c.data c.marked := rfl

theorem elevenBits_getLsbD (d : Byte) (x : Bool) (k : Nat) :
    (elevenBits d x).getLsbD k =
      if k < 10 then if k < 9 then if k < 1 then false else d.getLsbD (k - 1) else (BitVec.ofBool x).getLsbD (k - 9)
      else (1#1).getLsbD (k - 10) := by
  unfold elevenBits
  rw [BitVec.getLsbD_append, BitVec.getLsbD_append, BitVec.getLsbD_append]
  simp only [BitVec.getLsbD_zero]

theorem elevenBits_start (d : Byte) (x : Bool) : (elevenBits d x).getLsbD 0 = false := elevenBits_getLsbD d x 0

theorem elevenBits_data (d : Byte) (x : Bool) {k : Nat} (hk : k < 8) :
    (elevenBits d x).getLsbD (k + 1) = d.getLsbD k := by
  rw [elevenBits_getLsbD, if_pos (by omega), if_pos (by omega), if_neg (by omega), Nat.add_sub_cancel]

theorem elevenBits_ninth (d : Byte) (x : Bool) : (elevenBits d x).getLsbD 9 = x :=
  (elevenBits_getLsbD d x 9).trans (by cases x <;> rfl)

theorem elevenBits_stop (d : Byte) (x : Bool) : (elevenBits d x).getLsbD 10 = true := elevenBits_getLsbD d x 10

theorem elevenBits_byte (d : Byte) (x : Bool) : (elevenBits d x).extractLsb' 1 8 = d := by
  refine BitVec.eq_of_getLsbD_eq fun k hk => ?_
  rw [BitVec.getLsbD_extractLsb', Nat.add_comm 1 k, elevenBits_data d x hk]
  simp [hk]

/-- One changed bit of a word. -/
theorem getLsbD_changed {n : Nat} (w : BitVec n) {k : Nat} (hk : k < n) (j : Nat) :
    (w ^^^ BitVec.twoPow n k).getLsbD j = (w.getLsbD j ^^ decide (k = j)) := by
  rw [BitVec.getLsbD_xor, BitVec.getLsbD_twoPow]
  by_cases h : k = j
  · simp [← h, hk]
  · simp [h]

/-- Changing one of the bits 1 to 8 of a character changes that bit of its byte. -/
theorem elevenBits_byte_changed (d : Byte) (x : Bool) {k : Nat} (hk : k < 8) :
    (elevenBits d x ^^^ BitVec.twoPow 11 (k + 1)).extractLsb' 1 8 = d ^^^ BitVec.twoPow 8 k := by
  refine BitVec.eq_of_getLsbD_eq fun j hj => ?_
  rw [BitVec.getLsbD_extractLsb', Nat.add_comm 1 j, getLsbD_changed _ (by omega), elevenBits_data d x hj,
    getLsbD_changed _ hk]
  simp [hj]

/-- Changing the bit after the data leaves the byte. -/
theorem elevenBits_byte_ninth_changed (d : Byte) (x : Bool) :
    (elevenBits d x ^^^ BitVec.twoPow 11 9).extractLsb' 1 8 = d := by
  refine BitVec.eq_of_getLsbD_eq fun j hj => ?_
  rw [BitVec.getLsbD_extractLsb', Nat.add_comm 1 j, getLsbD_changed _ (by omega), elevenBits_data d x hj,
    (decide_eq_false (by omega) : decide (9 = j + 1) = false)]
  simp [hj]

/-- The parity bit is the exclusive or of the eight data bits. -/
theorem parityBit_eq (d : Byte) : parityBit d = (d.getLsbD 0 ^^ d.getLsbD 1 ^^ d.getLsbD 2 ^^ d.getLsbD 3 ^^ d.getLsbD 4 ^^
    d.getLsbD 5 ^^ d.getLsbD 6 ^^ d.getLsbD 7) := by
  simp [parityBit, List.range_succ]

/-- One changed data bit changes the parity. -/
theorem parityBit_changed (d : Byte) {k : Nat} (hk : k < 8) : parityBit (d ^^^ BitVec.twoPow 8 k) = !parityBit d := by
  simp only [parityBit_eq, BitVec.getLsbD_xor, BitVec.getLsbD_twoPow]
  interval_cases k <;> simp

theorem readPortChar_ok {w : BitVec 11} (h : w.getLsbD 10 = true) (hp : w.getLsbD 9 = parityBit (w.extractLsb' 1 8)) :
    readPortChar w = .ok (w.extractLsb' 1 8) := by
  simp only [readPortChar, h, hp, bne_self_eq_false, Bool.not_true, Bool.false_eq_true, if_false]

theorem readPortChar_framing {w : BitVec 11} (h : w.getLsbD 10 = false) : readPortChar w = .error .framing := by
  simp only [readPortChar, h, Bool.not_false, if_true]

theorem readPortChar_parity {w : BitVec 11} (h : w.getLsbD 10 = true) (hp : w.getLsbD 9 = !parityBit (w.extractLsb' 1 8)) :
    readPortChar w = .error .parity := by
  simp only [readPortChar, h, hp, Bool.not_true, Bool.false_eq_true, if_false]
  exact if_pos (by cases parityBit (w.extractLsb' 1 8) <;> rfl)

theorem readPortChar_portChar (d : Byte) : readPortChar (portChar d) = .ok d := by
  rw [portChar_eq, readPortChar_ok (elevenBits_stop d _) (by rw [elevenBits_ninth, elevenBits_byte]), elevenBits_byte]

/-- One changed data or parity bit is a parity error (R177). -/
theorem readPortChar_changed (d : Byte) {k : Nat} (hk : k < 9) :
    readPortChar (portChar d ^^^ BitVec.twoPow 11 (k + 1)) = .error .parity := by
  rw [portChar_eq]
  refine readPortChar_parity ?_ ?_
  · rw [getLsbD_changed _ (by omega), elevenBits_stop, decide_eq_false (by omega), Bool.xor_false]
  · rw [getLsbD_changed _ (by omega), elevenBits_ninth]
    rcases Nat.lt_or_ge k 8 with hdata | hparity
    · rw [elevenBits_byte_changed d _ hdata, parityBit_changed d hdata, decide_eq_false (by omega), Bool.xor_false,
        Bool.not_not]
    · obtain rfl : k = 8 := by omega
      rw [elevenBits_byte_ninth_changed, decide_eq_true rfl, Bool.xor_true]

theorem readLaneChar_bits (c : LaneChar) : readLaneChar c.bits = .ok c := by
  simp only [readLaneChar, bits_eq, elevenBits_stop, elevenBits_ninth, elevenBits_byte, Bool.not_true, Bool.false_eq_true,
    if_false]

theorem readLaneChar_framing {w : BitVec 11} (h : w.getLsbD 10 = false) : readLaneChar w = .error .framing := by
  simp only [readLaneChar, h, Bool.not_false, if_true]

/-- A stop bit changed away from the idle level. -/
theorem elevenBits_stop_changed (d : Byte) (x : Bool) : (elevenBits d x ^^^ BitVec.twoPow 11 10).getLsbD 10 = false := by
  rw [getLsbD_changed _ (by omega), elevenBits_stop, decide_eq_true rfl, Bool.xor_self]

/-! ### The check byte (R194) -/

/-- What changing one byte does to the sum. -/
theorem sumBytes_set (bs : List Byte) {k : Nat} (x : Byte) (hk : k < bs.length) :
    sumBytes (bs.set k x) + bs[k] = sumBytes bs + x := by
  induction bs generalizing k with
  | nil => simp at hk
  | cons b bs ih =>
    cases k with
    | zero => simp only [sumBytes, List.set_cons_zero, List.foldr_cons, List.getElem_cons_zero]; ac_rfl
    | succ k =>
      have := ih (k := k) (by simpa using hk)
      simp only [sumBytes, List.set_cons_succ, List.foldr_cons, List.getElem_cons_succ] at this ⊢
      rw [BitVec.add_assoc, this, BitVec.add_assoc]

/-- One changed byte leaves no sum of zero. -/
theorem sumBytes_set_ne {bs : List Byte} {k : Nat} {x : Byte} (hsum : sumBytes bs = 0) (hk : k < bs.length)
    (hx : bs[k]? ≠ some x) : sumBytes (bs.set k x) ≠ 0 := by
  intro hzero
  have := sumBytes_set bs x hk
  rw [hzero, hsum] at this
  have := (BitVec.zero_add _).symm.trans (this.trans (BitVec.zero_add x))
  exact hx (by rw [List.getElem?_eq_getElem hk, this])

theorem frame_length (start : Byte) (length payload : List Byte) :
    (frame start length payload).length = length.length + payload.length + 2 := by
  simp [frame]
  omega

/-! ### The length of a log record (R196) -/

theorem stampBytes_length (t : Stamp) : (stampBytes t).length = 6 := by simp [stampBytes]

theorem logLineBytes_length (l : LogLine) : (logLineBytes l).length = 21 := by simp [logLineBytes]

theorem counted_length {α : Type} {f : α → List Byte} {n : Nat} (hf : ∀ x, (f x).length = n) (xs : List α) :
    (counted f xs).length = 1 + n * xs.length := by
  rw [counted, List.length_append, be_length, List.length_flatMap]
  simp [hf, Nat.mul_comm]

theorem recordBytes_length (r : LogRecord) :
    (recordBytes r).length = 50 + (optionalField stampBytes r.valued).length + 21 * r.lines.length := by
  simp only [recordBytes, List.length_append, be_length, stampBytes_length, counted_length logLineBytes_length]
  omega

end Sys2Proof.Machine
end

section
/-! SUPPORT. Frames heard character by character (R168, R172, R178, R179), and the statement about characters and frames. -/

namespace Sys2Proof.Machine

/-! ### How the beginnings of a frame stand (R168, R178) -/

/-- A frame that opens: its length byte lies in the range and counts the bytes that follow, whose sum is right. -/
theorem openFrame_some {start : Byte} {most : Nat} {bs : List Byte} {x : List Byte × List Byte}
    (h : openFrame start most bs = some x) :
    ∃ length rest, bs = start :: length :: rest ∧ 4 ≤ length.toNat ∧ length.toNat ≤ most ∧
      rest.length = length.toNat + 1 ∧ sumBytes bs = 0 := by
  match bs, h with
  | b :: length :: rest, h =>
    rw [openFrame] at h
    split at h
    next hall =>
      obtain ⟨rfl, hlow, hhigh, hrest, hsum⟩ := hall
      exact ⟨length, rest, rfl, hlow, hhigh, hrest, hsum⟩
    next => cases h

theorem frameEnd_complete {start : Byte} {most : Nat} {bs : List Byte} {x : List Byte × List Byte}
    (h : openFrame start most bs = some x) : frameEnd most bs = .complete := by
  obtain ⟨length, rest, rfl, hlow, hhigh, hrest, hsum⟩ := openFrame_some h
  rw [frameEnd, if_neg (by omega), if_neg (by omega), if_pos hsum]

/-- Of every shorter beginning of a frame that opens, more characters are to come. -/
theorem frameEnd_beginning {start : Byte} {most : Nat} {bs : List Byte} {x : List Byte × List Byte}
    (h : openFrame start most bs = some x) {j : Nat} (hj : j < bs.length) : frameEnd most (bs.take j) = .more := by
  obtain ⟨length, rest, rfl, hlow, hhigh, hrest, -⟩ := openFrame_some h
  match j with
  | 0 => rfl
  | 1 => rfl
  | j + 2 =>
    simp only [List.length_cons] at hj
    rw [List.take_succ_cons, List.take_succ_cons, frameEnd, if_neg (by omega), if_pos]
    rw [List.length_take]
    omega

/-- A frame that opens is its start byte, some bytes and a last one. -/
theorem openFrame_split {start : Byte} {most : Nat} {bs : List Byte} {x : List Byte × List Byte}
    (h : openFrame start most bs = some x) : ∃ ds last, bs = start :: (ds ++ [last]) := by
  obtain ⟨length, rest, rfl, -⟩ := openFrame_some h
  exact ⟨_, _, by rw [List.dropLast_append_getLast (List.cons_ne_nil length rest)]⟩

/-! ### On a terminal port (R178, R179) -/

/-- Characters after each of which more are to come are taken one after another. -/
theorem hear_more (ds : List Byte) (ws : List (BitVec 11)) :
    ∀ taken : List Byte, (∀ j, j ≤ ds.length → frameEnd 64 (taken ++ ds.take j) = .more) →
      hear taken (ds.map portChar ++ ws) = hear (taken ++ ds) ws := by
  induction ds with
  | nil => intro taken _; simp
  | cons d ds ih =>
    intro taken hmore
    have hd : frameEnd 64 (taken ++ [d]) = .more := by simpa using hmore 1 (by simp)
    have hnext := ih (taken ++ [d]) fun j hj => by
      simpa [List.append_assoc] using hmore (j + 1) (by simpa using hj)
    rw [List.map_cons, List.cons_append, hear, readPortChar_portChar]
    simp only [hearByte, hd]
    rw [hnext, List.append_assoc, List.singleton_append]

/-- A frame that opens is heard up to any of its characters. -/
theorem hear_beginning {start : Byte} {ds es : List Byte} {x : List Byte × List Byte}
    (h : openFrame start 64 (start :: (ds ++ es)) = some x) (hes : es ≠ []) (ws : List (BitVec 11)) :
    hear [start] (ds.map portChar ++ ws) = hear (start :: ds) ws := by
  refine hear_more ds ws [start] fun j hj => ?_
  have hlen : 0 < es.length := List.length_pos_of_ne_nil hes
  have hmore := frameEnd_beginning h (j := j + 1) (by simp only [List.length_cons, List.length_append]; omega)
  rwa [List.take_succ_cons, List.take_append_of_le_length hj] at hmore

/-- The characters of a frame that opens are heard as that frame (R178). -/
theorem hear_frame {start : Byte} {bs : List Byte} {x : List Byte × List Byte} (h : openFrame start 64 bs = some x) :
    hear [start] (bs.tail.map portChar) = .complete bs := by
  obtain ⟨ds, last, rfl⟩ := openFrame_split h
  rw [List.tail_cons, List.map_append, hear_beginning h (List.cons_ne_nil _ _), List.map_cons, hear, readPortChar_portChar]
  simp only [hearByte, List.cons_append, frameEnd_complete h]

theorem hear_error {w : BitVec 11} {e : PortError} (h : readPortChar w = .error e) (taken : List Byte)
    (ws : List (BitVec 11)) : hear taken (w :: ws) = .damaged e := by
  rw [hear, h]

/-- One damaged character discards the frame it stands in (R179). -/
theorem hear_damaged {start : Byte} {bs : List Byte} {x : List Byte × List Byte} (h : openFrame start 64 bs = some x)
    {k : Nat} (hk : k + 1 < bs.length) {w : BitVec 11} {e : PortError} (hw : readPortChar w = .error e) :
    hear [start] ((bs.tail.map portChar).set k w) = .damaged e := by
  obtain ⟨ds, last, rfl⟩ := openFrame_split h
  have hk' : k < (ds ++ [last]).length := by simpa using hk
  have hsplit : (ds ++ [last]).take k ++ (ds ++ [last]).drop k = ds ++ [last] := List.take_append_drop _ _
  have hrest : (ds ++ [last]).drop k ≠ [] := by
    rw [Ne, List.drop_eq_nil_iff]
    omega
  rw [List.tail_cons, List.set_eq_take_append_cons_drop, if_pos (by simpa using hk'), ← List.map_take]
  rw [← hsplit] at h
  rw [hear_beginning h hrest, hear_error hw]

/-! ### In a lane's grant (R163, R168, R172) -/

theorem receive_after_take (b : LaneBus) (c : LaneChar) : b.take.receive c = .ok { b with buffer := some c } := rfl

/-- A character taken in turn, as its meaning in the grant has it. -/
theorem hearLane_taken (l : StationLane) (b : LaneBus) (bytes : List Byte) (c : LaneChar) (ws : List (BitVec 11 × Bool)) :
    hearLane l b bytes ((c.bits, true) :: ws) =
      match hearLaneChar l bytes c with
      | .more bs => hearLane l { b with buffer := some c } bs ws
      | .damaged e => .damaged e
      | .complete bs => .complete bs := by
  rw [hearLane, readLaneChar_bits]
  simp only [if_true, receive_after_take]
  cases hearLaneChar l bytes c <;> rfl

theorem hearLaneChar_start (l : StationLane) :
    hearLaneChar l [] { marked := true, data := stationStart l } = .more [stationStart l] :=
  if_pos rfl

/-- A data character after the frame start joins the frame (R168). -/
theorem hearLaneChar_data (l : StationLane) {bytes : List Byte} (h : bytes ≠ []) (d : Byte) :
    hearLaneChar l bytes { marked := false, data := d } =
      match frameEnd 24 (bytes ++ [d]) with
      | .more => .more (bytes ++ [d])
      | .badLength => .damaged .length
      | .badCheck => .damaged .check
      | .complete => .complete (bytes ++ [d]) := by
  cases bytes with
  | nil => exact absurd rfl h
  | cons b bs => rfl

/-- A data character of the lane bus, taken from the buffer in turn. -/
def takenData (d : Byte) : BitVec 11 × Bool := ((LaneChar.mk false d).bits, true)

theorem hearLane_more (l : StationLane) (ds : List Byte) (ws : List (BitVec 11 × Bool)) :
    ∀ (b : LaneBus) (bytes : List Byte), bytes ≠ [] → (∀ j, j ≤ ds.length → frameEnd 24 (bytes ++ ds.take j) = .more) →
      ∃ b', hearLane l b bytes (ds.map takenData ++ ws) = hearLane l b' (bytes ++ ds) ws := by
  induction ds with
  | nil => intro b bytes _ _; exact ⟨b, by simp⟩
  | cons d ds ih =>
    intro b bytes hne hmore
    have hd : frameEnd 24 (bytes ++ [d]) = .more := by simpa using hmore 1 (by simp)
    obtain ⟨b', hb'⟩ := ih { b with buffer := some (LaneChar.mk false d) } (bytes ++ [d]) (by simp) fun j hj => by
      simpa [List.append_assoc] using hmore (j + 1) (by simpa using hj)
    refine ⟨b', ?_⟩
    rw [List.append_assoc, List.singleton_append] at hb'
    rw [← hb', List.map_cons, List.cons_append, takenData, hearLane_taken, hearLaneChar_data l hne, hd]

/-- The characters of a station frame that opens are heard as that frame (R168). -/
theorem hearLane_frame (l : StationLane) (b : LaneBus) {bs : List Byte} {x : List Byte × List Byte}
    (h : openFrame (stationStart l) 24 bs = some x) :
    hearLane l b [] ((laneChars bs).map fun c => (c.bits, true)) = .complete bs := by
  obtain ⟨ds, last, rfl⟩ := openFrame_split h
  obtain ⟨b', hb'⟩ := hearLane_more l ds [takenData last] { b with buffer := some (LaneChar.mk true (stationStart l)) }
    [stationStart l] (List.cons_ne_nil _ _) fun j hj => by
      have hmore := frameEnd_beginning h (j := j + 1) (by simp only [List.length_cons, List.length_append]; omega)
      rwa [List.take_succ_cons, List.take_append_of_le_length hj] at hmore
  have hchars : (laneChars (stationStart l :: (ds ++ [last]))).map (fun c => (c.bits, true)) =
      ((LaneChar.mk true (stationStart l)).bits, true) :: (ds.map takenData ++ [takenData last]) := by
    simp [laneChars, takenData, Function.comp_def]
  have hlast := frameEnd_complete h
  rw [← List.cons_append] at hlast
  rw [hchars, hearLane_taken, hearLaneChar_start]
  simp only
  rw [hb', takenData, hearLane_taken, List.singleton_append, hearLaneChar_data l (List.cons_ne_nil _ _), hlast]
  simp

theorem hearLane_error {w : BitVec 11} {e : LaneError} (h : readLaneChar w = .error e) (l : StationLane) (b : LaneBus)
    (bytes : List Byte) (taken : Bool) (ws : List (BitVec 11 × Bool)) :
    hearLane l b bytes ((w, taken) :: ws) = .damaged e := by
  rw [hearLane, h]

/-- A character not taken by the time the next completes makes the next an overrun (R163). -/
theorem hearLane_overrun {l : StationLane} {bytes bs : List Byte} {c : LaneChar} (h : hearLaneChar l bytes c = .more bs)
    (b : LaneBus) (d : LaneChar) (ws : List (BitVec 11 × Bool)) :
    hearLane l b bytes ((c.bits, true) :: (d.bits, false) :: ws) = .damaged .overrun := by
  rw [hearLane_taken, h]
  simp only
  rw [hearLane, readLaneChar_bits]
  rfl

/-- A data character before the frame start leaves the window open (log entry 40). -/
theorem hearLane_early (l : StationLane) (b : LaneBus) {c : LaneChar} (h : c.marked = false) (ws : List (BitVec 11 × Bool)) :
    hearLane l b [] ((c.bits, true) :: ws) = hearLane l { b with buffer := some c } [] ws := by
  have hc : hearLaneChar l [] c = .more [] := by
    obtain ⟨marked, d⟩ := c
    obtain rfl : marked = false := h
    rfl
  rw [hearLane_taken, hc]

end Sys2Proof.Machine

namespace Sys2Proof

open Machine

/-- Settles O60, its five parts each from the lemmas of its layer: the bits of a character, hearing on a terminal port and in a
grant, the check byte, and the length of a record. -/
theorem frameCheckAndRecordLength : Obligations.FrameCheckAndRecordLength := by
  unfold Obligations.FrameCheckAndRecordLength
  refine ⟨fun d c => ?_, fun bs name fields k w e h => ⟨hear_frame h, fun hk hw => hear_damaged h hk hw⟩,
    fun l b bytes bs name fields c d taken w e ws => ⟨fun h => hearLane_frame l b h, fun h => hearLane_error h l b bytes taken ws,
      fun h => hearLane_overrun h b d ws, fun h => hearLane_early l b h ws⟩,
    fun start length payload => ?_, fun r => ⟨fun h => ?_, fun h => ?_⟩⟩
  · exact ⟨elevenBits_start d _, fun k hk => elevenBits_data d _ hk, elevenBits_stop d _, readPortChar_portChar d,
      fun k hk => readPortChar_changed d hk, readPortChar_framing (elevenBits_stop_changed d _),
      elevenBits_start c.data _, fun k hk => elevenBits_data c.data _ hk, elevenBits_ninth c.data _, elevenBits_stop c.data _,
      readLaneChar_bits c, readLaneChar_framing (elevenBits_stop_changed c.data _)⟩
  · intro bs
    exact ⟨frame_sum start length payload, frame_length start length payload,
      fun k x hk hx => sumBytes_set_ne (frame_sum start length payload) hk hx⟩
  · rw [recordBytes_length, h, show (optionalField stampBytes none).length = 1 from rfl]
  · obtain ⟨t, ht⟩ := Option.isSome_iff_exists.1 h
    rw [recordBytes_length, ht, optionalField, List.length_append, be_length, stampBytes_length]

end Sys2Proof
end
